-- ==== Sys2Proof/Word.lean ====
section
/-! DEFINITION. The plain words of the part: frame bytes, money, durations, digits.
Money is a whole number of money units and durations are whole tenths of a second (00, Conventions): both are
counted and compared, never masked, so they are natural numbers; only frame bytes and the six-bit class masks
are bits. -/

namespace Sys2Proof

/-- One byte of a request or response frame (R202). -/
abbrev Byte := BitVec 8

/-- One bit for each notice class, COIN in the lowest bit and SYSTEM in the sixth (R210). -/
abbrev ClassBits := BitVec 6

/-- Dialled digits or a digit string: 0 to 9, 10 for `*`, 11 for `#` (R202). -/
abbrev Digits := List Nat

end Sys2Proof
end

