-- ==== Sys2Proof/Syntax.lean ====
section
/-! DEFINITION. The commands of the part: one constructor for each row of spec/opcode_table.json, with the
operands the row's rule gives it. A request carries the port it came from (R206) and its fields; a field that
names a value carries `none` where the byte sent names no value (the owner answers REFUSED_RANGE). An event
carries what the sensor shows. -/

namespace Sys2Proof

/-- The three serial ports (R200). -/
inductive Port where
  | set | line | service
  deriving DecidableEq, Repr

structure Date where
  year : Nat
  month : Nat
  day : Nat
  deriving DecidableEq, Repr

/-- A date and a time of day to the second (R97, R202). -/
structure DateTime where
  year : Nat
  month : Nat
  day : Nat
  hour : Nat
  minute : Nat
  second : Nat
  deriving DecidableEq, Repr

/-- Severities in rising order of weight (R134). -/
inductive Severity where
  | low | medium | high | critical
  deriving DecidableEq, Repr

/-- What an alarm source does to the service state (R134). -/
inductive Effect where
  | none | coinFree | emergencyOnly
  deriving DecidableEq, Repr

/-- Which edges of a tamper sensor qualify (R131). -/
inductive SensorMode where
  | disabled | rising | falling | both
  deriving DecidableEq, Repr

/-- The two rings of the record store (R171). -/
inductive Ring where
  | call | alarm
  deriving DecidableEq, Repr

/-- The two tariff banks (R90). -/
inductive Bank where
  | active | pending
  deriving DecidableEq, Repr

/-- Day types (R100). -/
inductive DayType where
  | weekday | saturday | sunday
  deriving DecidableEq, Repr

/-- The metering source of a tariff entry, LOCAL or EXCHANGE (R89). -/
inductive Source where
  | localSteps | exchange
  deriving DecidableEq, Repr

/-- Modes of RESTART (R191). -/
inductive RestartMode where
  | whenIdle | now
  deriving DecidableEq, Repr

/-- The priority mode of reporting (R150). -/
inductive PriorityMode where
  | fixed | rotating
  deriving DecidableEq, Repr

/-- Order kinds (R119). -/
inductive OrderKind where
  | connect | tone | release | report | abort
  deriving DecidableEq, Repr

/-- The outcome names of ORDER_DONE (R122). -/
inductive OrderOutcome where
  | dialled | noDialTone | failed | sent | cleared | delivered | noAnswer | busy
  deriving DecidableEq, Repr

/-- The fields of an entry as WRITE_TARIFF carries them (R89, R91); the free interval and the warning lead are
durations, hence in tenths of a second like the periods (R202). -/
structure TariffFields where
  connection : Nat
  step : Nat
  period : Nat
  firstPeriod : Nat
  free : Nat
  source : Option Source
  lead : Nat
  deriving DecidableEq, Repr

/-- The fields of an entry as WRITE_PLAN carries them (R47, R48); a flag is none where its byte is neither 0 nor 1. -/
structure PlanFields where
  digits : Digits
  minLen : Nat
  maxLen : Nat
  cls : Nat
  barred : Option Bool
  emergency : Option Bool
  noCoin : Option Bool
  dialAtMin : Option Bool
  deriving DecidableEq, Repr

/-- The input levels that recovery finds when it takes them: the eight tamper inputs S0 to S7 (R130) and the
WARN comparator (R186). -/
structure Levels where
  tamper : List Bool
  belowWarn : Bool
  deriving DecidableEq, Repr

/-- The commands, in the order of spec/opcode_table.json. -/
inductive Instr where
  | keyDigit (p : Port) (key : Nat)
  | keyCancel (p : Port)
  | keyFollowOn (p : Port)
  | readAccount (p : Port)
  | readCall (p : Port)
  | readStatus (p : Port)
  | fetchNotices (p : Port)
  | setNoticeMask (p : Port) (mask : Nat)
  | fetchOrder (p : Port) (part : Nat)
  | orderDone (p : Port) (kind : Option OrderKind) (number : Nat) (outcome : Option OrderOutcome)
  | answer (p : Port)
  | busy (p : Port)
  | farClear (p : Port)
  | meterPulse (p : Port)
  | lineLost (p : Port)
  | lineRestored (p : Port)
  | claimCentre (p : Port)
  | endCentre (p : Port)
  | setClock (p : Port) (time : DateTime)
  | readClock (p : Port)
  | writeCalendarDayType (p : Port) (day : Option DayType) (points : List (Nat × Nat))
  | writeCalendarHoliday (p : Port) (slot : Nat) (date : Option Date)
  | writeTariff (p : Port) (cls band : Nat) (entry : Option TariffFields)
  | readTariff (p : Port) (bank : Option Bank) (cls band : Nat)
  | activateTariff (p : Port) (time : Option DateTime)
  | writePlan (p : Port) (entry : Nat) (fields : PlanFields)
  | readPlan (p : Port) (entry : Nat)
  | writeCoin (p : Port) (channel value : Nat)
  | writeAlarmSetupSource (p : Port) (source : Nat) (severity : Option Severity) (mask : Option Bool) (effect : Option Effect)
  /-- The hit window in tenths of a second, as R202 sends a duration. -/
  | writeAlarmSetupSensor (p : Port) (sensor : Nat) (mode : Option SensorMode) (threshold window : Nat)
  | writeSettingInterDigit (p : Port) (seconds : Nat)
  | writeSettingRing (p : Port) (seconds : Nat)
  | writeSettingBoxCapacity (p : Port) (coins : Nat)
  | writeSettingCollectionCode (p : Port) (code : Digits)
  | writeSettingReportThreshold (p : Port) (threshold : Option Severity)
  | writeSettingPriorityMode (p : Port) (mode : Option PriorityMode)
  | writeSettingPrimaryCentre (p : Port) (number : Digits)
  | writeSettingFallbackCentre (p : Port) (number : Digits)
  | commitConfig (p : Port)
  | readRecords (p : Port) (ring : Option Ring) (offset count : Nat)
  | ackRecords (p : Port) (ring : Option Ring) (count : Nat)
  | readAlarmsSource (p : Port) (first count : Nat)
  | readAlarmsSensor (p : Port)
  | ackAlarms (p : Port) (sources : List Nat)
  | clearAlarm (p : Port) (source : Nat)
  | writeIdentity (p : Port) (terminal : Digits) (site : Nat)
  | readIdentity (p : Port)
  | lockIdentity (p : Port)
  | restart (p : Port) (mode : Option RestartMode)
  | openCollection (p : Port) (code : Digits)
  | closeCollection (p : Port)
  | readTally (p : Port)
  | testGate (p : Port)
  /-- A frame that R203 does not hand to an owner, as the bytes received in the select period. -/
  | requestFrameError (p : Port) (bytes : List Byte)
  /-- A read select period in which this many bytes are clocked out of the part. -/
  | readSelectPeriod (p : Port) (clocked : Nat)
  | acceptPulse (channel : Nat)
  | escrowEntryEvent
  | boxEntryEvent
  | returnChuteEvent
  | rejectPulse
  | flightWindowExpiry
  | gateOperationStart
  | gateWindowExpiry
  | gateTestWindowExpiry
  | collectionWindowExpiry
  | collectionLockoutExpiry
  | carryCompletes
  | settlementEnds
  | offHook
  | onHook
  | firstDigitTimerExpiry
  | interDigitTimerExpiry
  | depositTimerExpiry
  | lineWaitTimerExpiry
  | ringTimerExpiry
  | followOnTimerExpiry
  | stepFallsDue
  | warningPoint
  | scheduledActivationDue
  | clockBecomesUnset
  | orderLimitExpiry
  | centreSessionExpiry
  /-- The debounced level of a tamper input changes to `high` (true) or low (R130). -/
  | sensorEdge (sensor : Nat) (high : Bool)
  | backoffExpiry
  | storeOperationStart
  | programDone
  | markProgramDone
  | eraseDone
  | eraseSliceEnd
  | commitDone
  | readRecordsReady
  | owedEraseQueued (ring : Ring)
  | overflowRecord
  | warnFalling
  | warnRising
  | supplyReset
  | powerOnReset (levels : Levels)
  | restartFallsDue (levels : Levels)
  /-- The escrow-empty sensor is consulted and shows coins (true) or an empty tube (R197). -/
  | sensorCheck (coins : Bool)
  /-- A flush window ends, and the sensor consulted again shows coins (true) or an empty tube (R197). -/
  | flushWindowExpiry (coins : Bool)
  | saveSectorHousekeeping
  | supplyRisesPastFail (levels : Levels)
  | debouncedChangeToOnHook
  deriving DecidableEq, Repr

end Sys2Proof
end

