-- ==== Sys2Proof/Decode.lean ====
section
/-! DEFINITION. The table's words. spec/opcode_table.json gives no row any bits, so no word spells a command; the
byte frames of requests are checked by Machine/PortCtl.lean. -/

namespace Sys2Proof

/-- The command a word of the table spells: none, for no row has bits. -/
def decodeTableWord (_nbits _w : Nat) : Option Instr := none

end Sys2Proof
end

