-- ==== Sys2Proof/Config.lean ====
section
/-! DEFINITION. What the spec fixes once for the part (durations, sizes) and the free values it leaves open. -/

namespace Sys2Proof.Config

/-! ### Durations, in tenths of a second -/

/-- The flight window (R3). -/
abbrev flightWindow : Nat := 4
/-- The gate window, the test window and the flush window (R9, R23, R197). -/
abbrev gateWindow : Nat := 6
/-- How long after its confirmation a credited coin can be taken as pulled back (R18). -/
abbrev stringWindow : Nat := 15
/-- The span of eight rejects that makes a slug storm (R17). -/
abbrev slugWindow : Nat := 600
/-- The collection window, 10 minutes (R19). -/
abbrev collectionWindow : Nat := 6000
/-- The collection lockout, 15 minutes (R19). -/
abbrev collectionLockout : Nat := 9000
/-- How long the on-hook level must hold (R61). -/
abbrev hookHold : Nat := 6
/-- The first-digit timer (R52). -/
abbrev firstDigit : Nat := 200
/-- The deposit timer (R66). -/
abbrev deposit : Nat := 600
/-- The line-wait timer (R67). -/
abbrev lineWait : Nat := 900
/-- The follow-on timer (R79). -/
abbrev followOn : Nat := 200
/-- The centre session timer (R127). -/
abbrev centreSession : Nat := 18000

/-- The limit of each order, counted from its posting (R123). -/
def orderLimit : OrderKind → Nat
  | .connect => 400
  | .tone => 50
  | .release => 50
  | .report => 1800
  | .abort => 50

/-- The backoff in seconds for a failure count (R163). -/
def backoffSeconds (failures : Nat) : Nat :=
  if failures ≤ 1 then 60 else if failures = 2 then 120 else if failures = 3 then 240
  else if failures = 4 then 480 else 900

/-! ### Sizes -/

abbrev escrowPlaces : Nat := 10
abbrev noticePlaces : Nat := 16
abbrev queuePlaces : Nat := 8
abbrev afterDialPlaces : Nat := 8
abbrev hitPlaces : Nat := 15
abbrev rejectPlaces : Nat := 8
abbrev flushCycles : Nat := 12

/-! ### Free values: constants without a body, so that no proof can see what they are -/

/-- Which of several sources of the same most restrictive effect "decided" the service state (R141; log 9). -/
opaque decidingChoice : Nat → Nat

/-- The commit sequence number of a commit made while no other copy is valid (R181; log 10). -/
opaque firstCommitSequence : Nat → Nat

/-- What a place of sector 0 reads as after its erase was cut off by a supply failure (R182; log 11). -/
inductive HalfErased where
  | kept | torn | blank
  deriving DecidableEq, Repr, Inhabited

opaque halfErased : Nat → Nat → HalfErased

end Sys2Proof.Config
end

