-- ==== Sys2Proof/Machine/Types.lean ====
section
/-! DEFINITION. The records of which the state is made, block by block, each field with the value it takes at a
reset as its default (the rule that gives it is named at the field or at the block). -/

namespace Sys2Proof.Machine

open Sys2Proof

/-! ### Configuration (R180): the working copy that every block runs on, and what an image copy holds -/

/-- Call classes, 0 to 7 (R47). -/
inductive CallClass where
  | free | localCall | regional | national | mobile | international | premium | operator
  deriving DecidableEq, Repr

/-- A tariff entry (R89); periods, free interval and lead in tenths of a second. -/
structure TariffEntry where
  connection : Nat
  step : Nat
  period : Nat
  firstPeriod : Nat
  free : Nat
  source : Source
  lead : Nat
  deriving DecidableEq, Repr

/-- A switch point of a band schedule: a minute of the day and a band (R100). -/
structure SwitchPoint where
  minute : Nat
  band : Nat
  deriving DecidableEq, Repr

/-- A number plan entry (R47); an empty prefix means an empty entry, its other fields zero and clear. -/
structure PlanEntry where
  digits : Digits := []
  minLen : Nat := 0
  maxLen : Nat := 0
  cls : CallClass := .free
  barred : Bool := false
  emergency : Bool := false
  noCoin : Bool := false
  dialAtMin : Bool := false
  deriving DecidableEq, Repr

/-- The setup of an alarm source (R134). -/
structure SourceSetup where
  severity : Severity
  masked : Bool
  effect : Effect
  deriving DecidableEq, Repr

/-- The setup of a tamper sensor (R131); the window in seconds. -/
structure SensorSetup where
  mode : SensorMode
  threshold : Nat
  window : Nat
  deriving DecidableEq, Repr

/-- Everything the configuration image holds (R180). -/
structure Configuration where
  coinValues : List Nat
  bank : List (List TariffEntry)
  generation : Nat
  weekday : List SwitchPoint
  saturday : List SwitchPoint
  sunday : List SwitchPoint
  holidays : List (Option Date)
  plan : List PlanEntry
  sources : List SourceSetup
  sensors : List SensorSetup
  interDigit : Nat
  ring : Nat
  primary : Digits
  fallback : Digits
  code : Digits
  capacity : Nat
  threshold : Severity
  priority : PriorityMode
  deriving DecidableEq, Repr

/-- The default tariff entry (R90). -/
def TariffEntry.initial : TariffEntry :=
  { connection := 0, step := 65535, period := 36000, firstPeriod := 0, free := 0, source := .localSteps, lead := 600 }

/-- The defaults that stand where no image copy is valid (R1, R15, R19, R47, R53, R71, R90, R100, R131, R134,
R150). -/
def Configuration.initial : Configuration :=
  { coinValues := [5, 10, 20, 50, 100, 200]
    bank := List.replicate 8 (List.replicate 4 TariffEntry.initial)
    generation := 0
    weekday := [⟨0, 0⟩]
    saturday := [⟨0, 0⟩]
    sunday := [⟨0, 0⟩]
    holidays := List.replicate 20 none
    plan := { digits := [0], minLen := 1, maxLen := 1, cls := .operator, emergency := true, noCoin := true }
      :: List.replicate 47 {}
    sources :=
      [ ⟨.critical, false, .emergencyOnly⟩, ⟨.critical, false, .emergencyOnly⟩, ⟨.high, false, .emergencyOnly⟩,
        ⟨.medium, false, .none⟩, ⟨.high, false, .none⟩, ⟨.medium, false, .coinFree⟩, ⟨.high, false, .coinFree⟩,
        ⟨.low, false, .none⟩, ⟨.medium, false, .none⟩, ⟨.medium, false, .none⟩, ⟨.high, false, .coinFree⟩,
        ⟨.high, false, .coinFree⟩, ⟨.high, false, .coinFree⟩, ⟨.high, false, .none⟩, ⟨.medium, false, .none⟩,
        ⟨.low, false, .none⟩ ]
    sensors :=
      [ ⟨.rising, 1, 10⟩, ⟨.rising, 1, 10⟩, ⟨.rising, 1, 10⟩, ⟨.rising, 3, 10⟩, ⟨.rising, 1, 10⟩, ⟨.rising, 1, 10⟩,
        ⟨.rising, 1, 10⟩, ⟨.disabled, 1, 10⟩ ]
    interDigit := 6
    ring := 120
    primary := []
    fallback := []
    code := List.replicate 8 0
    capacity := 1200
    threshold := .medium
    priority := .fixed }

/-! ### Coin unit -/

/-- Whether a coin is passing the gate, and which way (R7). -/
inductive Motion where
  | no | collect | refund
  deriving DecidableEq, Repr

/-- A coin of the escrow list (R7), with the identity by which R4 and R18 know it. -/
structure EscrowCoin where
  channel : Nat
  value : Nat
  motion : Motion := .no
  id : Nat
  deriving DecidableEq, Repr

inductive FlightKind where
  | escrow | overflow
  deriving DecidableEq, Repr

/-- A coin flight (R3); `ticket` orders its wait at the box-entry sensor (R13). -/
structure Flight where
  channel : Nat
  value : Nat
  start : Nat
  kind : FlightKind
  ticket : Nat
  deriving DecidableEq, Repr

/-- An entry of the gate queue (R8). -/
inductive GateWork where
  | collect | refundAll
  deriving DecidableEq, Repr

/-- The gate operation in flight (R9, R11): its direction, whether its second window runs, when the present
window opened, and the order of its wait (R13). -/
structure GateOp where
  motion : Motion
  second : Bool
  since : Nat
  ticket : Nat
  deriving DecidableEq, Repr

/-- The box tally (R14). -/
structure Tally where
  coins : Nat := 0
  value : Nat := 0
  counts : List Nat := [0, 0, 0, 0, 0, 0]
  jam : Nat := 0
  deriving DecidableEq, Repr

/-- The last credited coin (R4, R18). -/
structure Credited where
  instant : Nat
  id : Nat
  deriving DecidableEq, Repr

structure CoinUnit where
  flight : Option Flight := none
  escrow : List EscrowCoin := []
  gateQueue : List GateWork := []
  gateOp : Option GateOp := none
  gateTest : Option Nat := none
  tally : Tally := {}
  nearPosted : Bool := false
  rejects : List Nat := []
  lastCredited : Option Credited := none
  flightLoss : Nat := 0
  refundRun : Nat := 0
  windowUntil : Option Nat := none
  wrongCodes : Nat := 0
  lockoutUntil : Option Nat := none
  tubeCoins : Bool := false
  tickets : Nat := 0
  coinIds : Nat := 0
  deriving DecidableEq, Repr

/-! ### Account unit -/

inductive SettleStage where
  | flight | collect | refund
  deriving DecidableEq, Repr

/-- The account's state, with its pending close or its stage (R25); a settlement that recovery asked for answers
recovery (R41). -/
inductive AccountPhase where
  | idle
  | opened (carry : Bool)
  | settling (stage : SettleStage) (recovery : Bool)
  deriving DecidableEq, Repr

/-- The call account (R25). -/
structure Account where
  phase : AccountPhase := .idle
  d : Nat := 0
  k : Nat := 0
  e : Nat := 0
  b : Nat := 0
  r : Nat := 0
  c : Nat := 0
  j : Nat := 0
  unconfirmed : Nat := 0
  n : Nat := 0
  deriving DecidableEq, Repr

/-- The figures a closing account hands over (R37, R40). -/
structure Figures where
  d : Nat
  k : Nat
  e : Nat
  b : Nat
  r : Nat
  c : Nat
  j : Nat
  unconfirmed : Nat
  deriving DecidableEq, Repr

/-- The account unit's answer to a charge (R33). -/
inductive ChargeAnswer where
  | charged | short | notOpen | closing
  deriving DecidableEq, Repr

/-! ### Number analyser and call controller -/

inductive AnalysisState where
  | stopped | awaitingFirst | awaitingNext | decided
  deriving DecidableEq, Repr

inductive DigitTimer where
  | firstDigit | interDigit
  deriving DecidableEq, Repr

/-- Refusal reasons, the analyser's five and the call controller's two (R57, R87). -/
inductive Reason where
  | unobtainable | incomplete | empty | barred | service | noDeposit | lineBusy
  deriving DecidableEq, Repr

/-- An acceptance (R55). -/
structure Acceptance where
  digits : Digits
  cls : CallClass
  emergency : Bool
  metered : Bool
  row : Option (List TariffEntry)
  generation : Nat
  deposit : Nat
  deriving DecidableEq, Repr

/-- What the analyser shows of a decided number (R60). -/
inductive Decision where
  | accepted (cls : CallClass) (metered : Bool) (deposit : Nat)
  | refused (reason : Reason)
  deriving DecidableEq, Repr

structure Analyser where
  state : AnalysisState := .stopped
  buffer : Digits := []
  timer : Option (DigitTimer × Nat) := none
  decision : Option Decision := none
  deriving DecidableEq, Repr

inductive CallState where
  | idle | collecting | waitCoins | waitLine | connecting | alerting | connected | warning | clearing | afterCall
  | settling | refused
  deriving DecidableEq, Repr

inductive HookState where
  | on | off | stale
  deriving DecidableEq, Repr

/-- Call outcomes (R63). -/
inductive CallOutcome where
  | answered | unanswered | busy | refused | failed | forcedClear
  deriving DecidableEq, Repr

inductive CallTimer where
  | deposit | lineWait | ring | followOn
  deriving DecidableEq, Repr

/-- The call controller (R63). -/
structure Call where
  state : CallState := .idle
  hook : HookState := .stale
  hookInput : Bool := false
  holdFrom : Option Nat := none
  outcome : Option CallOutcome := none
  reason : Option Reason := none
  acceptance : Option Acceptance := none
  hangUp : Bool := false
  followOn : Bool := false
  heldOffHook : Bool := false
  restartEnd : Bool := false
  timer : Option (CallTimer × Nat) := none
  startTime : Option DateTime := none
  connectedSince : Option Nat := none
  duration : Nat := 0
  bandAtAnswer : Option Nat := none
  steps : Nat := 0
  afterDial : Digits := []
  deriving DecidableEq, Repr

/-! ### Tariff unit -/

/-- The calendar clock while SET (R97). -/
structure ClockTime where
  time : DateTime
  tenth : Nat
  deriving DecidableEq, Repr

/-- The activation schedule (R92). -/
inductive Schedule where
  | none
  | scheduled (time : DateTime)
  | waitingClock (time : DateTime)
  deriving DecidableEq, Repr

inductive MeterState where
  | stopped | freeInterval | stepping | pulsed | forced
  deriving DecidableEq, Repr

/-- The metering context (R103); `warned` is what the unit has last sent, CREDIT_WARNING or CREDIT_OK (R107). R103
gives a STOPPED context no mode and no count: the model's LOCAL and 0 there are its own choice (log 30). -/
structure Metering where
  state : MeterState := .stopped
  mode : Source := .localSteps
  row : Option (List TariffEntry) := none
  periodUntil : Option Nat := none
  entry : Option TariffEntry := none
  warnPassed : Bool := false
  warnCharge : Option Nat := none
  threshold : Option Nat := none
  steps : Nat := 0
  warned : Bool := false
  deriving DecidableEq, Repr

structure Tariff where
  pendingBank : List (List (Option TariffEntry)) := List.replicate 8 (List.replicate 4 none)
  schedule : Schedule := .none
  clock : Option ClockTime := none
  meter : Metering := {}
  deriving DecidableEq, Repr

/-! ### Places and alarm items -/

/-- A place of the array, named by its sector, its number and, in a ring, its sector's sequence number (R166). -/
structure Place where
  sector : Nat
  number : Nat
  seq : Nat
  deriving DecidableEq, Repr

/-- A batch item (R155). -/
structure BatchItem where
  source : Nat
  severity : Severity
  count : Nat
  first : Option DateTime
  last : Option DateTime
  place : Option Place
  deriving DecidableEq, Repr

/-! ### Line allocator -/

inductive Owner where
  | nobody | customer | report | centre
  deriving DecidableEq, Repr

/-- An order's kind with its fields (R119); an ABORT knows whether it was posted at the session limit (R128). -/
inductive OrderBody where
  | connect (digits : Digits) (cls : CallClass)
  | tone (digit : Nat)
  | release
  | report (centre terminal : Digits) (batch : List BatchItem)
  | abort (atLimit : Bool)
  deriving DecidableEq, Repr

/-- The current order (R119), with the end of its limit (R123). -/
structure Order where
  body : OrderBody
  number : Nat
  owner : Owner
  taken : Bool
  limit : Nat
  deriving DecidableEq, Repr

/-- The line allocator (R113); a waiting customer claim carries whether it is EMERGENCY, a report claim whether
it is CRITICAL (R114). -/
structure Line where
  owner : Owner := .nobody
  waitingCustomer : Option Bool := none
  waitingReport : Option Bool := none
  preempting : Option Bool := none
  slot : Option Order := none
  counter : Nat := 0
  centreUntil : Option Nat := none
  deriving DecidableEq, Repr

/-! ### Alarm unit and report unit -/

inductive ServiceState where
  | inService | coinFree | emergencyOnly
  deriving DecidableEq, Repr

inductive AlarmState where
  | quiet | raised | reporting | reported
  deriving DecidableEq, Repr

/-- Origins of alarm records (R139). -/
inductive Origin where
  | sensor | coinUnit | lineAllocator | recordStore | recovery | linePort | servicePort | automatic
  deriving DecidableEq, Repr

/-- An entry of the alarm table (R137). -/
structure AlarmEntry where
  state : AlarmState := .quiet
  count : Nat := 0
  first : Option DateTime := none
  last : Option DateTime := none
  reRaised : Bool := false
  clearPending : Bool := false
  latest : Option Place := none
  deriving DecidableEq, Repr

/-- A tamper sensor (R130 to R132): its debounced level, its hit history, and the level left by the edge that
last raised its source in BOTH mode. -/
structure Sensor where
  level : Bool := false
  hits : List Nat := []
  raisedLevel : Option Bool := none
  deriving DecidableEq, Repr

structure Alarm where
  sensors : List Sensor := List.replicate 8 {}
  entries : List AlarmEntry := List.replicate 16 {}
  service : ServiceState := .inService
  deriving DecidableEq, Repr

inductive ReportState where
  | standby | claimed | inCall | backoff
  deriving DecidableEq, Repr

inductive Centre where
  | primary | fallback
  deriving DecidableEq, Repr

/-- Outcomes of a report call (R162). -/
inductive ReportOutcome where
  | delivered | noAnswer | busy | failed | aborted
  deriving DecidableEq, Repr

/-- The report unit (R151). -/
structure Report where
  state : ReportState := .standby
  backoffUntil : Option Nat := none
  batch : List BatchItem := []
  centre : Centre := .primary
  run : Nat := 0
  failures : Nat := 0
  dialled : Centre := .primary
  rotation : Option Nat := none
  identityUnsetPosted : Bool := false
  centreUnsetPosted : Bool := false
  deriving DecidableEq, Repr

/-! ### Records -/

/-- A call record (R87); its outcome is never absent. E stands among its figures as R40 hands them over, and is none of the
fields that READ_RECORDS returns, since R87 says that the record carries none (log 33). -/
structure CallRecord where
  start : Option DateTime
  duration : Nat
  digits : Option Digits
  cls : Option CallClass
  band : Option Nat
  outcome : CallOutcome
  reason : Option Reason
  figures : Figures
  forfeited : Option Nat
  generation : Option Nat
  steps : Nat
  tallyCoins : Nat
  tallyValue : Nat
  followOn : Bool
  deriving DecidableEq, Repr

/-- The three causes of a start (R187). -/
inductive StartCause where
  | powerOn | supplyReset | restart
  deriving DecidableEq, Repr

/-- A RECOVERED record (R199); `figures`, call state and class come from a save record where there was one. -/
structure RecoveredRecord where
  time : Option DateTime
  cause : StartCause
  savePlace : Option Place
  saveTime : Option DateTime
  callState : Option CallState
  cls : Option CallClass
  figures : Option Figures
  forfeited : Option Nat
  flushed : Nat
  tallyCoins : Nat
  tallyValue : Nat
  deriving DecidableEq, Repr

/-- A COLLECTION record (R21). -/
structure CollectionRecord where
  time : Option DateTime
  tally : Tally
  capacity : Nat
  deriving DecidableEq, Repr

/-- The overflow totals (R174). -/
structure Totals where
  calls : Nat := 0
  d : Nat := 0
  k : Nat := 0
  b : Nat := 0
  r : Nat := 0
  c : Nat := 0
  j : Nat := 0
  forfeited : Nat := 0
  tallyCoins : Nat := 0
  tallyValue : Nat := 0
  first : Option DateTime := none
  last : Option DateTime := none
  deriving DecidableEq, Repr

/-- An alarm record (R139), without its marks; `cleared` tells its kind. -/
structure AlarmRecord where
  cleared : Bool
  source : Nat
  severity : Severity
  masked : Bool
  origin : Origin
  time : Option DateTime
  count : Nat
  deriving DecidableEq, Repr

/-- A save record (R189), without its marks; the call ring position as a place in ring order. -/
structure SaveRecord where
  time : Option DateTime
  ringPosition : Nat
  account : Account
  escrow : List EscrowCoin
  callState : CallState
  cls : Option CallClass
  tally : Tally
  totals : Totals
  deriving DecidableEq, Repr

/-- The records of the store (R166). -/
inductive Record where
  | call (r : CallRecord)
  | recovered (r : RecoveredRecord)
  | collection (r : CollectionRecord)
  | overflow (totals : Totals) (time : Option DateTime)
  | alarm (r : AlarmRecord)
  | save (r : SaveRecord)
  | identity (terminal : Digits) (site : Nat)
  deriving DecidableEq, Repr

/-- Mark fields, each programmed once (R166): acknowledged, reported, superseded, resolved, lock. -/
inductive MarkKind where
  | acknowledged | reported | superseded | resolved | lock
  deriving DecidableEq, Repr

/-- A programmed place: its record, or none where it is TORN (R167), and the marks programmed on it. -/
structure Cell where
  record : Option Record
  marks : List MarkKind
  deriving DecidableEq, Repr

/-! ### Record store -/

/-- An operation of the write queue (R168); a ring sector's erase programs the sequence number of its header. -/
inductive StoreOp where
  | record (place : Place) (r : Record)
  | mark (place : Place) (kind : MarkKind)
  | erase (sector seq : Nat)
  | commit
  deriving DecidableEq, Repr

/-- The program in flight, and whether it came from the reserved place (R168). -/
structure ProgramJob where
  op : StoreOp
  reserved : Bool
  deriving DecidableEq, Repr

/-- How far the erase or the commit in flight is: erasing; erasing within 10 ms of a resume; suspended for a
program; stopped by WARN; or, for a commit, programming the configuration it took (R169, R181, R188). -/
inductive ErasePhase where
  | running | slice | suspended | stopped
  | programming (cfg : Configuration)
  deriving DecidableEq, Repr

structure EraseJob where
  sector : Nat
  seq : Nat
  commit : Bool
  phase : ErasePhase
  deriving DecidableEq, Repr

/-- A ring's pointers (R171): its OPEN sector with the sequence number of that sector and the places assigned in
it, the upload mark and the FULL state, and the torn count of the last scan. Places are counted in ring order:
sequence number times places per sector, plus number. -/
structure RingState where
  sector : Nat
  seq : Nat := 0
  used : Nat := 0
  upload : Nat := 0
  full : Bool := false
  torn : Nat := 0
  deriving DecidableEq, Repr

/-- One copy of the configuration image that reads as valid (R180). -/
structure ImageCopy where
  seq : Nat
  cfg : Configuration
  deriving DecidableEq, Repr

inductive LockState where
  | unlocked | locking | locked
  deriving DecidableEq, Repr

/-- The identity (R182), the place of its newest record and the next blank place of sector 0. -/
structure Identity where
  terminal : Digits := []
  site : Nat := 0
  lock : LockState := .unlocked
  newest : Option Nat := none
  next : Nat := 0
  deriving DecidableEq, Repr

/-- A record read that waits for the array (R170). -/
structure WaitingRead where
  ring : Ring
  offset : Nat
  count : Nat
  deriving DecidableEq, Repr

/-- The nonvolatile array (R166): programmed places by key, strictly rising; the sequence numbers of the valid
sector headers by sector, strictly rising, 0 for a sector of no ring; the two image copies, none where a copy is invalid.
`erasedRaised` is the model's own note of the past, for each alarm source whether the newest of its records that an erase
has taken was a RAISED one (R194; log 18). -/
structure NvArray where
  cells : List (Nat × Cell) := []
  headers : List (Nat × Nat) := []
  image1 : Option ImageCopy := none
  image2 : Option ImageCopy := none
  erasedRaised : List Bool := List.replicate 16 false
  deriving DecidableEq, Repr

structure Store where
  array : NvArray := {}
  queue : List StoreOp := []
  reserved : Option StoreOp := none
  program : Option ProgramJob := none
  erase : Option EraseJob := none
  read : Option WaitingRead := none
  callRing : RingState := { sector := 4 }
  alarmRing : RingState := { sector := 52 }
  totals : Totals := {}
  identity : Identity := {}
  saveNext : Nat := 0
  saveOwed : Bool := false
  currentSave : Option Place := none
  supersedeAfter : Option Place := none
  nextSave : Option (Place × SaveRecord) := none
  waitingMarks : List Place := []
  deriving DecidableEq, Repr

/-! ### Supply and recovery -/

inductive SupplyState where
  | normal | warn
  deriving DecidableEq, Repr

/-- Where stage 4 and after stand: the scan has not run; the resolution's settlement runs; the sensor check is
due; a flush window is open; the marks are awaited. -/
inductive RecoveryPhase where
  | scan | settling | checking | flushing | marking
  deriving DecidableEq, Repr

/-- Start-up recovery while it runs (R192 to R199). -/
structure Recovery where
  stage : Nat := 1
  phase : RecoveryPhase := .scan
  save : Option (Place × SaveRecord) := none
  figures : Option Figures := none
  cycles : Nat := 0
  flushed : Nat := 0
  counted : Bool := false
  flushUntil : Option Nat := none
  deriving DecidableEq, Repr

structure Supply where
  state : SupplyState := .normal
  inReset : Bool := false
  restart : Option RestartMode := none
  callEnded : Bool := false
  cause : StartCause := .powerOn
  loaded : Bool := false
  recovery : Option Recovery := some {}
  deriving DecidableEq, Repr

/-! ### Port unit -/

/-- Result codes of response frames (R202). -/
inductive ResultCode where
  | ok | accepted | refusedPort | refusedState | refusedRange | refusedBusy | frameError | unknown
  deriving DecidableEq, Repr

/-- A response slot (R204); a READY slot holds the result and the fields of its frame. -/
inductive Slot where
  | empty
  | notReady
  | ready (code : ResultCode) (fields : List Byte)
  deriving DecidableEq, Repr

/-- Notice classes (R210). -/
inductive NoticeClass where
  | coin | call | line | alarm | store | system
  deriving DecidableEq, Repr

/-- The notices (R208), in the order of their codes. -/
inductive NoticeKind where
  | coinCredited | coinWithdrawn | gateTest | numberAccepted | numberRefused | callState | creditWarning | creditOk
  | activationCancelled | tariffActivated | clockUnset | lineState | centreEnded | boxNear | alarmRaised
  | alarmCleared | serviceState | reportEnded | identityUnset | centreUnset | ringState | configCommitted
  | configLost | identityLocked | supplyState | started
  deriving DecidableEq, Repr

/-- A notice record (R209): its kind, its time in tenths from midnight or unset, its eight field bytes. -/
structure Notice where
  kind : NoticeKind
  time : Option Nat
  fields : List Byte
  deriving DecidableEq, Repr

/-- A FETCH_NOTICES response not yet read in full (R211): how many notices it returned, the lost flags it
reported, and the classes of which a notice was dropped since. -/
structure Fetch where
  returned : Nat
  flags : ClassBits
  dropped : ClassBits
  deriving DecidableEq, Repr

/-- What a port sent on data out in its last select period (R200, R204): these bytes of its slot in a read select
period, or 255 for each byte of a request frame. -/
inductive DataOut where
  | ofSlot (bytes : List Byte)
  | ofRequest
  deriving DecidableEq, Repr

structure PortState where
  slot : Slot := .empty
  queue : List Notice := []
  lost : ClassBits := 0
  mask : ClassBits
  fetch : Option Fetch := none
  sent : DataOut := .ofSlot []
  deriving DecidableEq, Repr

/-- The three ports with their default masks (R210). -/
structure Ports where
  set : PortState := { mask := 0b100111 }
  line : PortState := { mask := 0b111000 }
  service : PortState := { mask := 0b101000 }
  deriving DecidableEq, Repr

end Sys2Proof.Machine
end

