-- ==== Sys2Proof/Machine/State.lean ====
section
/-! DEFINITION. The state of the part, its reset value, and the reasons a step can stop. -/

namespace Sys2Proof.Machine

open Sys2Proof

/-- No command of this part stops the machine: every request is answered and every event has an effect or is
ignored, so no fault exists. Nothing raises one: safe, since there is nothing to lean on. -/
inductive Fault where
  deriving DecidableEq, Repr

/-- The one refusal. -/
inductive Refusal where
  /-- Raised by `exec` alone, for a command that has no meaning yet; safe: the model stops. No arm uses it. -/
  | notModelled (mnemonic : String)
  deriving DecidableEq, Repr

/-- The state of the part, block by block; INVENTORY.md lists every field with its rule. -/
structure State where
  /-- The commands that wait, first in first out. -/
  pending : List Instr
  /-- The part's own timing, in tenths of a second (log 1). -/
  now : Nat
  /-- The index of the next free value (log 9). -/
  freeCount : Nat
  /-- The working configuration (R180). -/
  cfg : Configuration
  coin : CoinUnit
  account : Account
  analyser : Analyser
  call : Call
  tariff : Tariff
  line : Line
  alarm : Alarm
  report : Report
  store : Store
  supply : Supply
  ports : Ports
  deriving DecidableEq, Repr

/-- The part right after a power-on reset, before stage 1 of its recovery has run: every block at the value its
chapter gives for a reset, the array blank as in a part fresh from manufacture (R179), the working configuration
at its defaults (log 4). -/
def State.reset : State :=
  { pending := []
    now := 0
    freeCount := 0
    cfg := Configuration.initial
    coin := {}
    account := {}
    analyser := {}
    call := {}
    tariff := {}
    line := {}
    alarm := {}
    report := {}
    store := {}
    supply := {}
    ports := {} }

end Sys2Proof.Machine
end

