-- ==== Sys2Proof/Machine/Time.lean ====
section
/-! DEFINITION. The calendar (R97), day types and the band in force (R100, R101). -/

namespace Sys2Proof.Machine

open Sys2Proof

/-- A year of 2000 to 2099 has a 29 February when it is divisible by 4 (R97). -/
def leapYear (y : Nat) : Bool := y % 4 == 0

/-- The usual lengths of the months (R97). -/
def monthLength (y m : Nat) : Nat :=
  if m = 2 then (if leapYear y then 29 else 28) else if m = 4 || m = 6 || m = 9 || m = 11 then 30 else 31

def dateValid (d : Date) : Bool :=
  2000 ≤ d.year && d.year ≤ 2099 && 1 ≤ d.month && d.month ≤ 12 && 1 ≤ d.day && d.day ≤ monthLength d.year d.month

def dateOf (t : DateTime) : Date := ⟨t.year, t.month, t.day⟩

/-- A valid calendar time (R97). -/
def timeValid (t : DateTime) : Bool :=
  dateValid (dateOf t) && t.hour ≤ 23 && t.minute ≤ 59 && t.second ≤ 59

/-- Days from 1 January of the year to the first of the month. -/
def daysBeforeMonth (y m : Nat) : Nat :=
  ((List.range (m - 1)).map (fun i => monthLength y (i + 1))).sum

/-- Days since 1 January 2000. -/
def dayNumber (d : Date) : Nat :=
  (d.year - 2000) * 365 + (d.year - 2000 + 3) / 4 + daysBeforeMonth d.year d.month + (d.day - 1)

/-- The weekday, Monday 0 to Sunday 6; 1 January 2000 is a Saturday (R97). -/
def weekday (d : Date) : Nat := (dayNumber d + 5) % 7

/-- A calendar time as a count of seconds, to compare two of them. -/
def secondsOf (t : DateTime) : Nat :=
  dayNumber (dateOf t) * 86400 + t.hour * 3600 + t.minute * 60 + t.second

def minuteOfDay (t : DateTime) : Nat := t.hour * 60 + t.minute

/-- Tenths of a second from midnight (R209). -/
def tenthsOfDay (c : ClockTime) : Nat :=
  (c.time.hour * 3600 + c.time.minute * 60 + c.time.second) * 10 + c.tenth

/-- One tenth of a second on, carrying upwards; none where it would pass the end of 2099 (R97). -/
def clockTick (c : ClockTime) : Option ClockTime :=
  let t := c.time
  if c.tenth < 9 then some { c with tenth := c.tenth + 1 }
  else if t.second < 59 then some ⟨{ t with second := t.second + 1 }, 0⟩
  else if t.minute < 59 then some ⟨{ t with minute := t.minute + 1, second := 0 }, 0⟩
  else if t.hour < 23 then some ⟨{ t with hour := t.hour + 1, minute := 0, second := 0 }, 0⟩
  else if t.day < monthLength t.year t.month then
    some ⟨{ t with day := t.day + 1, hour := 0, minute := 0, second := 0 }, 0⟩
  else if t.month < 12 then some ⟨⟨t.year, t.month + 1, 1, 0, 0, 0⟩, 0⟩
  else if t.year < 2099 then some ⟨⟨t.year + 1, 1, 1, 0, 0, 0⟩, 0⟩
  else none

/-- The day type of a date: a date of the holiday list is a SUNDAY (R100). -/
def dayTypeOf (cfg : Configuration) (d : Date) : DayType :=
  if cfg.holidays.contains (some d) then .sunday
  else if weekday d = 5 then .saturday else if weekday d = 6 then .sunday else .weekday

def daySchedule (cfg : Configuration) : DayType → List SwitchPoint
  | .weekday => cfg.weekday
  | .saturday => cfg.saturday
  | .sunday => cfg.sunday

/-- The band of the latest switch point at or before a minute of the day (R101). -/
def bandAt (points : List SwitchPoint) (minute : Nat) : Nat :=
  ((points.filter (fun p => p.minute ≤ minute)).getLast?.map (·.band)).getD 0

/-- The band in force: 0 while the clock is UNSET (R101). -/
def bandInForce (s : State) : Nat :=
  match s.tariff.clock with
  | none => 0
  | some c => bandAt (daySchedule s.cfg (dayTypeOf s.cfg (dateOf c.time))) (minuteOfDay c.time)

/-- The time of day and date that records and notices carry: absent while the clock is UNSET (R97). -/
def timeOfDay (s : State) : Option DateTime := s.tariff.clock.map (·.time)

end Sys2Proof.Machine
end

