-- ==== Sys2Proof/Machine/Operands.lean ====
section
/-! DEFINITION. The layout of frame fields (R202): numbers, named values, flags, digit strings, times, absent
fields; and the byte that each named value takes, "numbered from 0 in the order in which the owning chapter first
lists its values" (log 7). -/

namespace Sys2Proof.Machine

open Sys2Proof

/-! ### Field layouts -/

/-- A number in `w` bytes, most significant byte first. -/
def numberBytes : Nat → Nat → List Byte
  | 0, _ => []
  | w + 1, n => BitVec.ofNat 8 (n / 256 ^ w) :: numberBytes w n

def byte1 (n : Nat) : List Byte := numberBytes 1 n
def byte2 (n : Nat) : List Byte := numberBytes 2 n
def byte3 (n : Nat) : List Byte := numberBytes 3 n
def byte4 (n : Nat) : List Byte := numberBytes 4 n

/-- A set or clear flag. -/
def flagByte (b : Bool) : List Byte := byte1 (if b then 1 else 0)

/-- A field that may be absent. -/
def optionBytes {α : Type} (f : α → List Byte) : Option α → List Byte
  | none => byte1 0
  | some a => byte1 1 ++ f a

/-- A digit string: its count, then one byte a digit. -/
def digitBytes (ds : Digits) : List Byte := byte1 ds.length ++ ds.flatMap byte1

/-- A date and time in seven bytes. -/
def timeBytes (t : DateTime) : List Byte :=
  byte2 t.year ++ byte1 t.month ++ byte1 t.day ++ byte1 t.hour ++ byte1 t.minute ++ byte1 t.second

/-- Digits packed two to a byte, first digit in the upper half, 15 for no digit (R209). -/
def packDigits : Digits → List Byte
  | [] => []
  | [a] => byte1 (a * 16 + 15)
  | a :: b :: rest => byte1 (a * 16 + b) ++ packDigits rest

/-- Sixteen digits packed into the eight field bytes of a notice (R209). The bytes after a shorter number hold 15 twice, no
digit, rather than the 0 of unused bytes: the model's choice (log 34). -/
def packTerminal (ds : Digits) : List Byte :=
  packDigits ds ++ List.replicate (8 - (packDigits ds).length) 0xFF

/-- Field bytes padded with zeros to the eight of a notice (R209). -/
def padFields (fs : List Byte) : List Byte := fs ++ List.replicate (8 - fs.length) 0

/-- The check byte: the sum of all bytes of the frame, itself included, is 0 modulo 256. -/
def checkByte (bytes : List Byte) : Byte := - bytes.sum

def frameOf (code : Nat) (fields : List Byte) : List Byte :=
  let body := byte1 code ++ byte1 fields.length ++ fields
  body ++ [checkByte body]

/-! ### Named values -/

def resultByte : ResultCode → Nat
  | .ok => 1 | .accepted => 2 | .refusedPort => 65 | .refusedState => 66 | .refusedRange => 67 | .refusedBusy => 68
  | .frameError => 97 | .unknown => 98

/-- The bytes sent alone in a read select period (R202). -/
def nonePending : Byte := 126
def notReadyByte : Byte := 127

def classByte : CallClass → Nat
  | .free => 0 | .localCall => 1 | .regional => 2 | .national => 3 | .mobile => 4 | .international => 5
  | .premium => 6 | .operator => 7

def classOfNumber : Nat → Option CallClass
  | 0 => some .free | 1 => some .localCall | 2 => some .regional | 3 => some .national | 4 => some .mobile
  | 5 => some .international | 6 => some .premium | 7 => some .operator | _ => none

def severityByte : Severity → Nat
  | .low => 0 | .medium => 1 | .high => 2 | .critical => 3

def effectByte : Effect → Nat
  | .none => 0 | .coinFree => 1 | .emergencyOnly => 2

def modeByte : SensorMode → Nat
  | .disabled => 0 | .rising => 1 | .falling => 2 | .both => 3

def sourceByte : Source → Nat
  | .localSteps => 0 | .exchange => 1

def ringByte : Ring → Nat
  | .call => 0 | .alarm => 1

def callStateByte : CallState → Nat
  | .idle => 0 | .collecting => 1 | .waitCoins => 2 | .waitLine => 3 | .connecting => 4 | .alerting => 5
  | .connected => 6 | .warning => 7 | .clearing => 8 | .afterCall => 9 | .settling => 10 | .refused => 11

def hookByte : HookState → Nat
  | .on => 0 | .off => 1 | .stale => 2

def outcomeByte : CallOutcome → Nat
  | .answered => 0 | .unanswered => 1 | .busy => 2 | .refused => 3 | .failed => 4 | .forcedClear => 5

def reasonByte : Reason → Nat
  | .unobtainable => 0 | .incomplete => 1 | .empty => 2 | .barred => 3 | .service => 4 | .noDeposit => 5
  | .lineBusy => 6

def analysisByte : AnalysisState → Nat
  | .stopped => 0 | .awaitingFirst => 1 | .awaitingNext => 2 | .decided => 3

/-- The metering mark, UNMETERED or METERED (R55). -/
def meteredByte (metered : Bool) : Nat := if metered then 1 else 0

def ownerByte : Owner → Nat
  | .nobody => 0 | .customer => 1 | .report => 2 | .centre => 3

def orderKindByte : OrderKind → Nat
  | .connect => 0 | .tone => 1 | .release => 2 | .report => 3 | .abort => 4

/-- The service states in the order of R141. -/
def serviceByte : ServiceState → Nat
  | .emergencyOnly => 0 | .coinFree => 1 | .inService => 2

def alarmStateByte : AlarmState → Nat
  | .quiet => 0 | .raised => 1 | .reporting => 2 | .reported => 3

def originByte : Origin → Nat
  | .sensor => 0 | .coinUnit => 1 | .lineAllocator => 2 | .recordStore => 3 | .recovery => 4
  | .linePort => 5 | .servicePort => 6 | .automatic => 7

/-- The origin of a clear, as ALARM_CLEARED and a CLEARED record number it (R139, R144): from 0 again rather than on from the
origins of a raising, the model's reading of R139's one field (log 7). -/
def clearOriginByte : Origin → Nat
  | .linePort => 0 | .servicePort => 1 | .automatic => 2 | .sensor => 0 | .coinUnit => 0 | .lineAllocator => 0
  | .recordStore => 0 | .recovery => 0

def causeByte : StartCause → Nat
  | .powerOn => 0 | .supplyReset => 1 | .restart => 2

def supplyByte : SupplyState → Nat
  | .normal => 0 | .warn => 1

def lockByte : LockState → Nat
  | .unlocked => 0 | .locking => 1 | .locked => 2

def reportOutcomeByte : ReportOutcome → Nat
  | .delivered => 0 | .noAnswer => 1 | .busy => 2 | .failed => 3 | .aborted => 4

def centreByte : Centre → Nat
  | .primary => 0 | .fallback => 1

def stageByte : SettleStage → Nat
  | .flight => 0 | .collect => 1 | .refund => 2

def digitTimerByte : DigitTimer → Nat
  | .firstDigit => 0 | .interDigit => 1

/-- The call timers are numbered after the digit timers in READ_CALL's timer field (R88). -/
def callTimerByte : CallTimer → Nat
  | .deposit => 2 | .lineWait => 3 | .ring => 4 | .followOn => 5

/-- The bit of a class in a class mask (R210). -/
def classBit : NoticeClass → ClassBits
  | .coin => 1 | .call => 2 | .line => 4 | .alarm => 8 | .store => 16 | .system => 32

/-- The code of a notice (R208). -/
def noticeByte : NoticeKind → Nat
  | .coinCredited => 1 | .coinWithdrawn => 2 | .gateTest => 3 | .numberAccepted => 4 | .numberRefused => 5
  | .callState => 6 | .creditWarning => 7 | .creditOk => 8 | .activationCancelled => 9 | .tariffActivated => 10
  | .clockUnset => 11 | .lineState => 12 | .centreEnded => 13 | .boxNear => 14 | .alarmRaised => 15
  | .alarmCleared => 16 | .serviceState => 17 | .reportEnded => 18 | .identityUnset => 19 | .centreUnset => 20
  | .ringState => 21 | .configCommitted => 22 | .configLost => 23 | .identityLocked => 24 | .supplyState => 25
  | .started => 26

/-- The class of a notice (R208). -/
def noticeClass : NoticeKind → NoticeClass
  | .coinCredited => .coin | .coinWithdrawn => .coin | .gateTest => .system | .numberAccepted => .call
  | .numberRefused => .call | .callState => .call | .creditWarning => .call | .creditOk => .call
  | .activationCancelled => .system | .tariffActivated => .system | .clockUnset => .system | .lineState => .line
  | .centreEnded => .system | .boxNear => .alarm | .alarmRaised => .alarm | .alarmCleared => .alarm
  | .serviceState => .system | .reportEnded => .alarm | .identityUnset => .system | .centreUnset => .system
  | .ringState => .store | .configCommitted => .store | .configLost => .system | .identityLocked => .system
  | .supplyState => .system | .started => .system

def noticeClassByte : NoticeClass → Nat
  | .coin => 0 | .call => 1 | .line => 2 | .alarm => 3 | .store => 4 | .system => 5

/-- One notice entry of a FETCH_NOTICES response: thirteen bytes (R211). -/
def noticeEntry (n : Notice) : List Byte :=
  byte1 (noticeByte n.kind) ++ byte1 (noticeClassByte (noticeClass n.kind))
    ++ (match n.time with | none => [0xFF, 0xFF, 0xFF] | some t => byte3 t) ++ n.fields

/-! ### Records as READ_RECORDS returns them (R176) -/

/-- D, K, B, R, C and J of a record; a record's fields hold no E (R87; log 33). -/
def figureBytes (f : Figures) : List Byte :=
  byte2 f.d ++ byte2 f.k ++ byte2 f.b ++ byte2 f.r ++ byte2 f.c ++ byte2 f.j

/-- The box tally of a record: coins, value, six channel counts, jam coins (R14, R21). -/
def tallyBytes (t : Tally) : List Byte :=
  byte2 t.coins ++ byte4 t.value ++ t.counts.flatMap byte2 ++ byte2 t.jam

/-- A record's kind and fields: CALL, RECOVERED, COLLECTION, OVERFLOW, RAISED, CLEARED; TORN follows as 6 (log 7). A save
place is its sector and its number in a byte each, the value UNKNOWN a present field of 0, a CALL record's duration the
whole seconds of R87, and an OVERFLOW record's time of day a date and time (log 34). Save and identity records lie in no
ring and are never read this way. -/
def recordBytes : Record → List Byte
  | .call r => byte1 0 ++ optionBytes timeBytes r.start ++ byte2 r.duration ++ optionBytes digitBytes r.digits
      ++ optionBytes (fun c => byte1 (classByte c)) r.cls ++ optionBytes byte1 r.band
      ++ byte1 (outcomeByte r.outcome) ++ optionBytes (fun o => byte1 (reasonByte o)) r.reason
      ++ figureBytes r.figures ++ optionBytes byte2 r.forfeited ++ byte1 r.figures.unconfirmed
      ++ optionBytes byte2 r.generation ++ byte2 r.steps ++ byte2 r.tallyCoins ++ byte4 r.tallyValue
      ++ flagByte r.followOn
  | .recovered r => byte1 1 ++ optionBytes timeBytes r.time ++ byte1 (causeByte r.cause)
      ++ optionBytes (fun (p : Place) => byte1 p.sector ++ byte1 p.number) r.savePlace ++ optionBytes timeBytes r.saveTime
      ++ optionBytes (fun c => byte1 (callStateByte c)) r.callState ++ optionBytes (fun c => byte1 (classByte c)) r.cls
      ++ optionBytes byte2 (r.figures.map (·.d)) ++ optionBytes byte2 (r.figures.map (·.k))
      ++ optionBytes byte2 (r.figures.map (·.b)) ++ optionBytes byte2 (r.figures.map (·.r))
      ++ optionBytes byte2 (r.figures.map (·.c)) ++ optionBytes byte2 (r.figures.map (·.j)) ++ optionBytes byte2 r.forfeited
      ++ optionBytes byte1 (r.figures.map (·.unconfirmed))
      ++ byte1 r.flushed ++ (if r.flushed = 0 then byte1 0 else byte1 1 ++ byte1 0)
      ++ byte2 r.tallyCoins ++ byte4 r.tallyValue
  | .collection r => byte1 2 ++ optionBytes timeBytes r.time ++ tallyBytes r.tally ++ byte2 r.capacity
  | .overflow t time => byte1 3 ++ byte2 t.calls ++ byte4 t.d ++ byte4 t.k ++ byte4 t.b ++ byte4 t.r ++ byte4 t.c
      ++ byte4 t.j ++ byte4 t.forfeited ++ byte2 t.tallyCoins ++ byte4 t.tallyValue
      ++ optionBytes timeBytes t.first ++ optionBytes timeBytes t.last ++ optionBytes timeBytes time
  | .alarm r => byte1 (if r.cleared then 5 else 4) ++ byte1 r.source ++ byte1 (severityByte r.severity)
      ++ flagByte r.masked ++ byte1 (if r.cleared then clearOriginByte r.origin else originByte r.origin)
      ++ optionBytes timeBytes r.time ++ byte1 r.count
  | .save _ => []
  | .identity _ _ => []

/-- The marks of a ring record: of an alarm record the reported mark, which R139 lists behind the count, then, as of every
ring record, the acknowledged mark, for which the manual names no place (R166, R176; log 7). -/
def markBytes (c : Cell) : List Byte :=
  match c.record with
  | some (.alarm _) => flagByte (c.marks.contains .reported) ++ flagByte (c.marks.contains .acknowledged)
  | some _ => flagByte (c.marks.contains .acknowledged)
  | none => []

/-- One item of a READ_RECORDS response; a TORN place is an item of kind TORN with no fields (R176). -/
def cellBytes (c : Cell) : List Byte :=
  match c.record with
  | none => byte1 6
  | some r => recordBytes r ++ markBytes c

end Sys2Proof.Machine
end

