-- ==== Sys2Proof/Machine/Flags.lean ====
section
/-! DEFINITION. What is computed from the state and never stored: the outputs of the part (inhibits, diverter,
coils, attention lines) and the derived figures the rules name. -/

namespace Sys2Proof.Machine

open Sys2Proof

/-! ### Coin unit -/

/-- Channel k's value, 0 for a disabled channel and for a number that is no channel (R1). -/
def channelValue (cfg : Configuration) (k : Nat) : Nat :=
  if k = 0 then 0 else cfg.coinValues.getD (k - 1) 0

/-- The channel-inhibit outputs (R1). -/
def channelInhibit (cfg : Configuration) (k : Nat) : Bool := channelValue cfg k == 0

/-- The coin-taking states (R16). -/
def coinTaking (c : Call) : Bool :=
  match c.state with
  | .collecting => true
  | .waitCoins => true
  | .waitLine => true
  | .connecting => true
  | .alerting => true
  | .connected => true
  | .warning => true
  | .afterCall => match c.timer with
    | some (.followOn, _) => true
    | _ => false
  | .idle => false
  | .clearing => false
  | .settling => false
  | .refused => false

/-- Whether the account leaves room for one more coin of the greatest value (R16, R25). -/
def roomForCoin (s : State) : Bool :=
  s.account.d + s.account.k + s.cfg.coinValues.foldl max 0 ≤ 65535

/-- The master inhibit output: released while all four conditions of R16 hold. -/
def masterInhibit (s : State) : Bool :=
  !(coinTaking s.call && (s.alarm.service == .inService) && (s.supply.state == .normal) && roomForCoin s)

/-- The overflow diverter is held for an OVERFLOW flight (R3). -/
def diverter (c : CoinUnit) : Bool :=
  match c.flight with
  | some f => f.kind == .overflow
  | none => false

/-- The collect coil (R9, R11). -/
def collectCoil (c : CoinUnit) : Bool :=
  match c.gateOp with
  | some g => g.motion == .collect
  | none => false

def flushOpen (u : Supply) : Bool :=
  match u.recovery with
  | some r => r.flushUntil.isSome
  | none => false

/-- The refund coil: a REFUND operation, a gate test or a flush cycle (R9, R23, R197). -/
def refundCoil (s : State) : Bool :=
  (match s.coin.gateOp with
    | some g => g.motion == .refund
    | none => false) || s.coin.gateTest.isSome || flushOpen s.supply

/-- The near level: nine tenths of the capacity, rounded up (R15). -/
def nearLevel (capacity : Nat) : Nat := (capacity * 9 + 9) / 10

def escrowValue (l : List EscrowCoin) : Nat := (l.map (·.value)).sum

/-- The committed value: the n oldest escrow coins (R34). -/
def committedValue (s : State) : Nat := escrowValue (s.coin.escrow.take s.account.n)

/-- COLLECT entries queued plus a COLLECT operation in flight (R8). -/
def collectsClaimed (c : CoinUnit) : Nat :=
  (c.gateQueue.filter (· == .collect)).length + (if collectCoil c then 1 else 0)

/-- The gate is free: no operation, no gate test, no flush window (R9, R23). -/
def gateFree (s : State) : Bool :=
  s.coin.gateOp.isNone && s.coin.gateTest.isNone && !flushOpen s.supply

/-- The collection condition of the box door sensor: the collection window is open (R20, R133). -/
def collectionCondition (s : State) : Bool := s.coin.windowUntil.isSome

/-! ### Account, call, line -/

/-- The available credit A = E + B - C (R25). -/
def available (a : Account) : Nat := a.e + a.b - a.c

/-- The connected duration in whole seconds, stopping at 65535 (R72). -/
def connectedDuration (s : State) : Nat :=
  match s.call.connectedSince with
  | none => s.call.duration
  | some t => min 65535 ((s.now - t) / 10)

def orderKind : OrderBody → OrderKind
  | .connect _ _ => .connect
  | .tone _ => .tone
  | .release => .release
  | .report _ _ _ => .report
  | .abort _ => .abort

/-- The kind of the current order. -/
def currentKind (l : Line) : Option OrderKind := l.slot.map (fun o => orderKind o.body)

/-- A TONE of the call is current (R82, R88). -/
def toneCurrent (l : Line) : Bool := currentKind l == some .tone

/-- The batch of the report call in progress holds a CRITICAL source (R116, R156). -/
def batchCritical (r : Report) : Bool := r.batch.any (fun i => i.severity == .critical)

/-! ### Alarm unit -/

def sourceSetup (cfg : Configuration) (i : Nat) : SourceSetup := cfg.sources.getD i ⟨.low, false, .none⟩

def sensorSetup (cfg : Configuration) (i : Nat) : SensorSetup := cfg.sensors.getD i ⟨.disabled, 1, 10⟩

def alarmEntry (a : Alarm) (i : Nat) : AlarmEntry := a.entries.getD i {}

def sensorState (a : Alarm) (i : Nat) : Sensor := a.sensors.getD i {}

/-- The active level of a sensor: high in RISING, low in FALLING, the level of the last raising edge in BOTH,
none in DISABLED (R131). -/
def activeLevel (s : State) (i : Nat) : Option Bool :=
  match (sensorSetup s.cfg i).mode with
  | .rising => some true
  | .falling => some false
  | .both => (sensorState s.alarm i).raisedLevel
  | .disabled => none

/-- The input stands at its active level (R131, R143). -/
def atActiveLevel (s : State) (i : Nat) : Bool :=
  activeLevel s i == some (sensorState s.alarm i).level

/-- The unmasked sources that are not QUIET and have this effect, in rising order (R141). -/
def effectiveSources (s : State) (e : Effect) : List Nat :=
  (List.range 16).filter (fun i =>
    (alarmEntry s.alarm i).state != .quiet && !(sourceSetup s.cfg i).masked && (sourceSetup s.cfg i).effect == e)

/-- The derived service state (R141). -/
def derivedService (s : State) : ServiceState :=
  if effectiveSources s .emergencyOnly != [] then .emergencyOnly
  else if effectiveSources s .coinFree != [] then .coinFree else .inService

/-- The sources that decide the derived service state. -/
def decidingSources (s : State) : List Nat :=
  match derivedService s with
  | .emergencyOnly => effectiveSources s .emergencyOnly
  | .coinFree => effectiveSources s .coinFree
  | .inService => []

/-- Unmasked RAISED sources (R152, R155). -/
def openSource (s : State) (i : Nat) : Bool :=
  (alarmEntry s.alarm i).state == .raised && !(sourceSetup s.cfg i).masked

def openSources (s : State) : List Nat := (List.range 16).filter (openSource s)

/-- Unmasked RAISED sources at or above the report threshold (R152). -/
def urgentSources (s : State) : List Nat :=
  (openSources s).filter (fun i => severityByte s.cfg.threshold ≤ severityByte (sourceSetup s.cfg i).severity)

/-- A report is needed (R152). -/
def reportNeeded (s : State) : Bool :=
  s.store.identity.lock == .locked && s.cfg.primary != [] && urgentSources s != []

/-- The claim's severity mark: CRITICAL when an unmasked RAISED source is (R154). -/
def claimCritical (s : State) : Bool :=
  (openSources s).any (fun i => (sourceSetup s.cfg i).severity == .critical)

/-- The batch order (R156). -/
def batchOrder (s : State) : List Nat :=
  [Severity.critical, .high, .medium, .low].flatMap (fun sev =>
    let l := (openSources s).filter (fun i => (sourceSetup s.cfg i).severity == sev)
    match s.cfg.priority, s.report.rotation with
    | .rotating, some p => l.filter (p < ·) ++ l.filter (· ≤ p)
    | _, _ => l)

/-! ### Supply and ports -/

/-- Recovery runs (R192). -/
def recovering (s : State) : Bool := s.supply.recovery.isSome

/-- The part has power and the scan of its recovery has run, so that events reach its blocks (R179, R187). -/
def awake (s : State) : Bool :=
  !s.supply.inReset && (match s.supply.recovery with
    | some r => r.phase != .scan
    | none => true)

def portOf (ps : Ports) : Port → PortState
  | .set => ps.set
  | .line => ps.line
  | .service => ps.service

/-- The attention outputs (R201). -/
def attention (s : State) (p : Port) : Bool :=
  (portOf s.ports p).queue != [] || (p == .line && (match s.line.slot with
    | some o => !o.taken
    | none => false))

end Sys2Proof.Machine
end

