-- ==== Sys2Proof/Machine/Ops.lean ====
section
/-! DEFINITION. The shared operations of the port unit: notices (R208 to R211), the response slot (R204), taking
a request (R203), and the array's reads and writes (R166). -/

namespace Sys2Proof.Machine

open Sys2Proof

/-! ### Ports -/

def setPort (p : Port) (v : PortState) (ps : Ports) : Ports :=
  match p with
  | .set => { ps with set := v }
  | .line => { ps with line := v }
  | .service => { ps with service := v }

def updatePort (p : Port) (f : PortState → PortState) (s : State) : State :=
  { s with ports := setPort p (f (portOf s.ports p)) s.ports }

/-- A notice of one or two records offered to one port (R209): queued where the mask enables its class and all
its records fit, else dropped with the class's lost flag set. -/
def offer (ns : List Notice) (bit : ClassBits) (v : PortState) : PortState :=
  if v.mask &&& bit = 0 then v
  else if v.queue.length + ns.length ≤ Config.noticePlaces then { v with queue := v.queue ++ ns }
  else { v with
    lost := v.lost ||| bit
    fetch := v.fetch.map (fun f => { f with dropped := f.dropped ||| bit }) }

/-- The time a notice record carries (R209). -/
def noticeTime (s : State) : Option Nat := s.tariff.clock.map tenthsOfDay

def offerAll (k : NoticeKind) (fields : List (List Byte)) (s : State) : State :=
  let ns := fields.map (fun f => { kind := k, time := noticeTime s, fields := padFields f : Notice })
  let give := offer ns (classBit (noticeClass k))
  if k = .boxNear then { s with ports := { s.ports with line := give s.ports.line } }
  else { s with ports :=
    { set := give s.ports.set, line := give s.ports.line, service := give s.ports.service } }

/-- Posting a notice: offered to all three ports, BOX_NEAR to the line port alone (R209). -/
def postNotice (k : NoticeKind) (fields : List Byte) (s : State) : State := offerAll k [fields] s

/-- The owner's answer to a request: a result and fields, or none while a record read waits (R204). -/
abbrev Reply := Option (ResultCode × List Byte)

def replyOk (fields : List Byte) : Reply := some (.ok, fields)
def replyAccepted : Reply := some (.accepted, [])
def refuseState : Reply := some (.refusedState, [])
def refuseRange : Reply := some (.refusedRange, [])
def refuseBusy : Reply := some (.refusedBusy, [])

/-- The answer placed in the port's response slot (R204). -/
def answerPort (p : Port) (r : Reply) (s : State) : State :=
  updatePort p (fun v => { v with slot := match r with
    | some (code, fields) => .ready code fields
    | none => .notReady }) s

/-- A suspended erase resumes once neither a program nor a waiting read holds it, and then runs its slice (R169,
R170). -/
def resumeErase (st : Store) : Store :=
  if st.program.isSome || st.read.isSome then st
  else { st with erase := st.erase.map (fun j => if j.phase = .suspended then { j with phase := .slice } else j) }

/-- A taken frame empties the slot, discards a response not yet read, and withdraws a waiting read, which then
suspends no erase (R204). While it came in the part sent bytes of 255 (R200). -/
def takeFrame (p : Port) (s : State) : State :=
  let waiting := (portOf s.ports p).slot == .notReady
  let s := updatePort p (fun v => { v with slot := .empty, fetch := none, sent := .ofRequest }) s
  if waiting then { s with store := resumeErase { s.store with read := none } } else s

/-- The requests by their place in the catalogue (R205). -/
inductive Request where
  | key | readAccount | readCall | readStatus | fetchNotices | setNoticeMask | fetchOrder | orderDone | lineEvent
  | claimCentre | endCentre | setClock | readClock | writeCalendar | writeTariff | readTariff | activateTariff
  | writePlan | readPlan | writeCoin | writeAlarmSetup | writeSetting | commitConfig | readRecords | ackRecords
  | readAlarms | ackAlarms | clearAlarm | writeIdentity | readIdentity | lockIdentity | restart | openCollection
  | closeCollection | readTally | testGate
  deriving DecidableEq, Repr

/-- The ports the catalogue gives a request (R205). -/
def permitted (q : Request) (p : Port) : Bool :=
  match q with
  | .key => p == .set
  | .readAccount => p == .set || p == .line
  | .readCall => p == .set || p == .line
  | .readStatus => true
  | .fetchNotices => true
  | .setNoticeMask => true
  | .readAlarms => p == .line || p == .service
  | .clearAlarm => p == .line || p == .service
  | .writeIdentity => p == .line || p == .service
  | .readIdentity => true
  | .openCollection => p == .service
  | .closeCollection => p == .service
  | .readTally => p == .service
  | .testGate => p == .service
  | .fetchOrder => p == .line
  | .orderDone => p == .line
  | .lineEvent => p == .line
  | .claimCentre => p == .line
  | .endCentre => p == .line
  | .setClock => p == .line
  | .readClock => p == .line
  | .writeCalendar => p == .line
  | .writeTariff => p == .line
  | .readTariff => p == .line
  | .activateTariff => p == .line
  | .writePlan => p == .line
  | .readPlan => p == .line
  | .writeCoin => p == .line
  | .writeAlarmSetup => p == .line
  | .writeSetting => p == .line
  | .commitConfig => p == .line
  | .readRecords => p == .line
  | .ackRecords => p == .line
  | .ackAlarms => p == .line
  | .lockIdentity => p == .line
  | .restart => p == .line

/-- The two requests answered as usual during recovery (R192). -/
def answeredInRecovery (q : Request) : Bool := q == .readStatus || q == .fetchNotices

/-- Taking a well-formed request frame: checks 4 and 5 of R203, then the owner. A part held in reset has no power
and takes no frame (log 5). -/
def takeRequest (q : Request) (p : Port) (owner : State → State × Reply) (s : State) : State :=
  if s.supply.inReset then s
  else if !permitted q p then answerPort p (some (.refusedPort, [])) (takeFrame p s)
  else if recovering s && !answeredInRecovery q then answerPort p refuseState (takeFrame p s)
  else answerPort p (owner (takeFrame p s)).2 (owner (takeFrame p s)).1

/-- An event that is no request reaches the blocks of a part that is awake. -/
def whenAwake (f : State → State) (s : State) : State := if awake s then f s else s

/-! ### The array -/

/-- The key of a place. -/
def placeKey (sector number : Nat) : Nat := sector * 128 + number

/-- The cell list in its canonical form: keys strictly rising, so that a place is listed once; a blank place is
unlisted. -/
abbrev cellsWf (cells : List (Nat × Cell)) : Prop := cells.Pairwise (fun a b => a.1 < b.1)

/-- The sector headers in the same form. -/
abbrev headersWf (hs : List (Nat × Nat)) : Prop := hs.Pairwise (fun a b => a.1 < b.1)

/-- What a place holds: none for a blank one. -/
def readCell (key : Nat) : List (Nat × Cell) → Option Cell
  | [] => none
  | (k, c) :: rest => if k = key then some c else readCell key rest

/-- Writing a place, in key order. -/
def writeCell (key : Nat) (v : Cell) : List (Nat × Cell) → List (Nat × Cell)
  | [] => [(key, v)]
  | (k, c) :: rest =>
    if key < k then (key, v) :: (k, c) :: rest
    else if key = k then (key, v) :: rest
    else (k, c) :: writeCell key v rest

/-- Erasing a whole sector (R166). -/
def eraseCells (sector : Nat) (cells : List (Nat × Cell)) : List (Nat × Cell) :=
  cells.filter (fun kc => kc.1 / 128 != sector)

/-- The programmed places of a sector, in place order. -/
def sectorCells (sector : Nat) (cells : List (Nat × Cell)) : List (Nat × Cell) :=
  (cells.filter (fun kc => kc.1 / 128 == sector)).map (fun kc => (kc.1 % 128, kc.2))

/-- The sequence number in a sector's header; none where the header is invalid or blank. -/
def headerSeq (sector : Nat) : List (Nat × Nat) → Option Nat
  | [] => none
  | (k, q) :: rest => if k = sector then some q else headerSeq sector rest

/-- Programming a sector's header. -/
def writeHeader (sector q : Nat) : List (Nat × Nat) → List (Nat × Nat)
  | [] => [(sector, q)]
  | (k, v) :: rest =>
    if sector < k then (sector, q) :: (k, v) :: rest
    else if sector = k then (sector, q) :: rest
    else (k, v) :: writeHeader sector q rest

/-- The header is the last step of each erase, but for sector 0, which has none (R166). -/
def programHeader (sector q : Nat) (a : NvArray) : NvArray :=
  if sector = 0 then a else { a with headers := writeHeader sector q a.headers }

def dropHeader (sector : Nat) (hs : List (Nat × Nat)) : List (Nat × Nat) := hs.filter (fun h => h.1 != sector)

/-- Programming a place once (R166): a blank place takes the cell, a programmed one stays as it is until its erase. -/
def programBlank (key : Nat) (v : Cell) (a : NvArray) : NvArray :=
  if (readCell key a.cells).isSome then a else { a with cells := writeCell key v a.cells }

/-- Programming a mark field once (R166): a mark already programmed stays, a blank place takes none. -/
def programMark (key : Nat) (m : MarkKind) (a : NvArray) : NvArray :=
  match readCell key a.cells with
  | none => a
  | some c =>
    if c.marks.contains m then a
    else { a with cells := writeCell key { c with marks := c.marks ++ [m] } a.cells }

end Sys2Proof.Machine
end

