-- ==== Sys2Proof/Machine/Rings.lean ====
section
/-! DEFINITION. The write queue and the two rings of the record store (R168, R171 to R173): places, postings, owed
erases, and the scan (R179). -/

namespace Sys2Proof.Machine

open Sys2Proof

/-! ### Regions (R166) -/

def ringFirst : Ring → Nat
  | .call => 4
  | .alarm => 52

def ringSectors : Ring → Nat
  | .call => 48
  | .alarm => 12

def ringPlaces : Ring → Nat
  | .call => 64
  | .alarm => 128

def savePlaces : Nat := 64
def identityPlaces : Nat := 64
def saveSector : Nat := 3

/-- The sector `k` places further on in ring order. -/
def ringAdvance (r : Ring) (sector k : Nat) : Nat := ringFirst r + (sector - ringFirst r + k) % ringSectors r

def nextSector (r : Ring) (sector : Nat) : Nat := ringAdvance r sector 1

def ringOf (st : Store) : Ring → RingState
  | .call => st.callRing
  | .alarm => st.alarmRing

def setRing (r : Ring) (v : RingState) (st : Store) : Store :=
  match r with
  | .call => { st with callRing := v }
  | .alarm => { st with alarmRing := v }

/-! ### The queue (R168) -/

/-- The queue places taken: queued operations and those of them in flight, the reserved place apart (log 12). -/
def queueUsed (st : Store) : Nat :=
  st.queue.length
    + (match st.program with
      | some j => if j.reserved then 0 else 1
      | none => 0)
    + (if st.erase.isSome then 1 else 0)

def queueHasRoom (st : Store) : Bool := queueUsed st < Config.queuePlaces

def isEraseOf (sector : Nat) : StoreOp → Bool
  | .erase x _ => x == sector
  | .record _ _ => false
  | .mark _ _ => false
  | .commit => false

/-- An ERASE of the sector is queued. -/
def eraseQueued (st : Store) (sector : Nat) : Bool := st.queue.any (isEraseOf sector)

/-- An ERASE of the sector is in flight. -/
def erasing (st : Store) (sector : Nat) : Bool :=
  match st.erase with
  | some j => j.sector == sector && !j.commit
  | none => false

/-- Appending an operation as the newest, where the queue has room. -/
def enqueue (op : StoreOp) (st : Store) : Option Store :=
  if queueHasRoom st then some { st with queue := st.queue ++ [op] } else none

/-! ### Ring contents -/

/-- A place's position in ring order. -/
def ringPosition (r : Ring) (seq number : Nat) : Nat := seq * ringPlaces r + number

/-- The position of the ring's next place (R171). -/
def nextPosition (r : Ring) (st : Store) : Nat := ringPosition r (ringOf st r).seq (ringOf st r).used

/-- The programmed places of one sector with a valid header: position, place, contents. -/
def ringSectorCells (r : Ring) (a : NvArray) (sector : Nat) : List (Nat × Place × Cell) :=
  match headerSeq sector a.headers with
  | none => []
  | some q => (sectorCells sector a.cells).map (fun nc => (ringPosition r q nc.1, ⟨sector, nc.1, q⟩, nc.2))

/-- Every programmed place of the ring in ring order: the sectors that follow the OPEN one first, the OPEN one
last (R171). -/
def ringCells (r : Ring) (open_ : Nat) (a : NvArray) : List (Nat × Place × Cell) :=
  (List.range (ringSectors r)).flatMap (fun k => ringSectorCells r a (ringAdvance r open_ (k + 1)))

/-- The records present: the programmed places from the upload mark on (R171). -/
def ringPresent (r : Ring) (st : Store) : List (Nat × Place × Cell) :=
  (ringCells r (ringOf st r).sector st.array).filter (fun x => (ringOf st r).upload ≤ x.1)

/-- Records of a sector not yet acknowledged (R172). -/
def sectorUnacked (r : Ring) (st : Store) (sector : Nat) : Bool :=
  (ringSectorCells r st.array sector).any (fun x => (ringOf st r).upload ≤ x.1)

/-- Sector states (R171); a sector whose header is not valid is none of the four and is owed an erase (R179), and so is one
left blank on an earlier lap, whose header does not number it as the next in order of use (R171; log 32). -/
inductive SectorState where
  | blank | stale | opened | used | eraseQueued | erasing | invalid
  deriving DecidableEq, Repr

def sectorState (r : Ring) (st : Store) (sector : Nat) : SectorState :=
  if (ringOf st r).sector = sector then .opened
  else if erasing st sector then .erasing
  else if eraseQueued st sector then .eraseQueued
  else if headerSeq sector st.array.headers = none then .invalid
  else if sectorCells sector st.array.cells = [] then
    if headerSeq sector st.array.headers = some ((ringOf st r).seq + 1) then .blank else .stale
  else .used

/-- A sector that the ring can open next: BLANK with the number that follows the OPEN sector's, or its ERASE queued or in
flight (R172). -/
def openable (r : Ring) (st : Store) (sector : Nat) : Bool :=
  match sectorState r st sector with
  | .blank => true
  | .stale => false
  | .eraseQueued => true
  | .erasing => true
  | .opened => false
  | .used => false
  | .invalid => false

/-- The ring is owed an erase of the sector after the OPEN one (R172). -/
def eraseOwed (r : Ring) (st : Store) : Bool := !openable r st (nextSector r (ringOf st r).sector)

/-- The owed erase can be queued: owed, every record of the sector before the upload mark, room (R172). -/
def eraseEligible (r : Ring) (st : Store) : Bool :=
  eraseOwed r st && !sectorUnacked r st (nextSector r (ringOf st r).sector) && queueHasRoom st

/-- Queueing the owed erase: the header gets the OPEN sector's number plus one, and a FULL ring leaves FULL
(R172, R173). -/
def queueOwedErase (r : Ring) (st : Store) : Store :=
  setRing r { ringOf st r with full := false }
    { st with queue := st.queue ++ [.erase (nextSector r (ringOf st r).sector) ((ringOf st r).seq + 1)] }

/-- The OPEN sector that takes the next record: the present one while it has places, else the following sector
where that can be opened (R172). -/
def openFor (r : Ring) (st : Store) : Option RingState :=
  let g := ringOf st r
  if g.used < ringPlaces r then some g
  else if openable r st (nextSector r g.sector) then
    some { g with sector := nextSector r g.sector, seq := g.seq + 1, used := 0 }
  else none

/-- The ring becomes FULL at the posting that assigns the last place of its OPEN sector while the next sector
holds unacknowledged records and no ERASE of it is queued or in flight (R173). -/
def becomesFull (r : Ring) (st : Store) : Bool :=
  let g := ringOf st r
  g.used == ringPlaces r && eraseOwed r st && sectorUnacked r st (nextSector r g.sector)

/-- Posting a ring record (R168, R172, R173): the new store and the record's place, or none where the queue has
no room or the ring is FULL. -/
def postRing (r : Ring) (rec : Record) (st : Store) : Option (Store × Place) :=
  if (ringOf st r).full then none
  else match openFor r st with
    | none => none
    | some g =>
      let place : Place := ⟨g.sector, g.used, g.seq⟩
      match enqueue (.record place rec) st with
      | none => none
      | some st1 =>
        let st2 := setRing r { g with used := g.used + 1 } st1
        if becomesFull r st2 then some (setRing r { ringOf st2 r with full := true } st2, place)
        else some (st2, place)

/-! ### The scan (R179) -/

/-- The newest sector: the valid header with the greatest sequence number. -/
def newestHeader (r : Ring) (hs : List (Nat × Nat)) : Option (Nat × Nat) :=
  (hs.filter (fun h => ringFirst r ≤ h.1 && h.1 < ringFirst r + ringSectors r)).foldl
    (fun best h => match best with
      | none => some h
      | some b => if b.2 < h.2 then some h else some b) none

/-- The first place after the last programmed one. -/
def placesUsed (sector : Nat) (cells : List (Nat × Cell)) : Nat :=
  ((sectorCells sector cells).getLast?.map (fun nc => nc.1 + 1)).getD 0

/-- The upload mark: after the newest record whose acknowledged mark reads set, else the oldest record. -/
def scanUpload (l : List (Nat × Place × Cell)) : Nat :=
  match (l.filter (fun x => x.2.2.marks.contains .acknowledged)).getLast? with
  | some x => x.1 + 1
  | none => (l.head?.map (·.1)).getD 0

/-- The ring as the scan finds it; a ring without a valid header opens its first sector with sequence 0, whose
erase is queued. -/
def scanRing (r : Ring) (st : Store) : Store :=
  match newestHeader r st.array.headers with
  | none =>
    setRing r { sector := ringFirst r } { st with queue := st.queue ++ [.erase (ringFirst r) 0] }
  | some (sector, seq) =>
    let all := ringCells r sector st.array
    let upload := scanUpload all
    let st1 := setRing r
      { sector := sector, seq := seq, used := placesUsed sector st.array.cells, upload := upload
        torn := (all.filter (fun x => upload ≤ x.1 && x.2.2.record.isNone)).length } st
    setRing r { ringOf st1 r with full := becomesFull r st1 } st1

/-- The scan's queueing of an erase that can be queued at once. -/
def scanErase (r : Ring) (st : Store) : Store := if eraseEligible r st then queueOwedErase r st else st

/-- The identity the scan finds (R182, R183): the record that bears the lock mark, else the newest valid one. In a half-erased
sector 0 the next blank place is taken to be the one after the highest programmed place (log 11). -/
def scanIdentity (a : NvArray) : Identity :=
  let l := sectorCells 0 a.cells
  let valid := l.filter (fun nc => nc.2.record.isSome)
  let chosen := match (valid.filter (fun nc => nc.2.marks.contains .lock)).getLast? with
    | some nc => some nc
    | none => valid.getLast?
  match chosen with
  | some (n, c) => match c.record with
    | some (.identity t site) =>
      { terminal := t, site := site, lock := if c.marks.contains .lock then .locked else .unlocked
        newest := some n, next := placesUsed 0 a.cells }
    | _ => { next := placesUsed 0 a.cells }
  | none => { next := placesUsed 0 a.cells }

/-- The image copy that is loaded: the valid one with the greater commit sequence number (R180). -/
def loadedImage (a : NvArray) : Option ImageCopy :=
  match a.image1, a.image2 with
  | some x, some y => if x.seq < y.seq then some y else some x
  | some x, none => some x
  | none, y => y

/-- Queueing the erase owed to the save area (R185). -/
def queueSave (st : Store) : Store := { st with saveOwed := false, queue := st.queue ++ [.erase saveSector 0] }

/-- The save area as the scan finds it: the erase of a sector 3 without a valid header is owed, and queued where the
queue allows (R179, R185, R193). -/
def scanSave (st : Store) : Store :=
  if (headerSeq saveSector st.array.headers).isSome then
    { st with saveNext := placesUsed saveSector st.array.cells, saveOwed := false }
  else
    let t := { st with saveNext := 0, saveOwed := true }
    if queueHasRoom t then queueSave t else t

/-- The store's part of the scan (R179, R185): rings, identity, save area. It queues first the erase of the first sector of
a ring without a valid header, then the erases the rings are owed, the call ring's before the alarm ring's each time, then
the save area's: the model's choice (log 41). -/
def scanStore (st : Store) : Store :=
  let st := scanErase .alarm (scanErase .call (scanRing .alarm (scanRing .call st)))
  scanSave { st with identity := scanIdentity st.array }

/-- The valid save records of sector 3, oldest first; none where its header is not valid (R185, R193). -/
def saveRecords (a : NvArray) : List (Place × SaveRecord × Cell) :=
  match headerSeq saveSector a.headers with
  | none => []
  | some q => (sectorCells saveSector a.cells).filterMap (fun nc => match nc.2.record with
    | some (.save r) => some (⟨saveSector, nc.1, q⟩, r, nc.2)
    | _ => none)

/-- The save area has a place it may use (R185). -/
def savePlaceUsable (st : Store) : Bool :=
  (headerSeq saveSector st.array.headers).isSome && !erasing st saveSector && st.saveNext < savePlaces

/-- The save area is due an erase: 48 or more places used and every save record marked (R185). A TORN place, which can bear
neither mark, does not hold the erase back: the model's choice (log 38). -/
def saveEraseDue (st : Store) : Bool :=
  48 ≤ st.saveNext && !eraseQueued st saveSector && !erasing st saveSector
    && (sectorCells saveSector st.array.cells).length == st.saveNext
    && (saveRecords st.array).all (fun x => x.2.2.marks.contains .superseded || x.2.2.marks.contains .resolved)

end Sys2Proof.Machine
end

