-- ==== Sys2Proof/Machine/AlarmOps.lean ====
section
/-! DEFINITION. Shared operations of the line allocator, the report unit and the alarm unit: the owner and the
order slot (R113, R119, R120), the report claim, the grant and the weighing (R152 to R157), raising and clearing
(R138 to R145). -/

namespace Sys2Proof.Machine

open Sys2Proof

/-! ### Owner and order slot -/

/-- A change of owner posts LINE_STATE (R113). -/
def setOwner (o : Owner) (s : State) : State :=
  if s.line.owner = o then s
  else postNotice .lineState (byte1 (ownerByte o)) { s with line := { s.line with owner := o } }

/-- The order counter's next value, 1 after 255 (R119). -/
def nextOrderNumber (n : Nat) : Nat := if 255 ≤ n then 1 else n + 1

/-- An order enters the slot as POSTED, with its new number and its own limit (R119, R120). -/
def enterSlot (body : OrderBody) (s : State) : State :=
  { s with line := { s.line with
      counter := nextOrderNumber s.line.counter
      slot := some
        { body := body, number := nextOrderNumber s.line.counter, owner := s.line.owner, taken := false
          limit := s.now + Config.orderLimit (orderKind body) } } }

inductive Posting where
  | posted | notOwner | slotBusy
  deriving DecidableEq, Repr

/-- How a posting by a party is taken (R120). -/
def postingOf (party : Owner) (body : OrderBody) (l : Line) : Posting :=
  if party ≠ l.owner then .notOwner
  else match orderKind body with
    | .release => .posted
    | .abort => .posted
    | .connect => if l.slot.isNone then .posted else .slotBusy
    | .tone => if l.slot.isNone then .posted else .slotBusy
    | .report => if l.slot.isNone then .posted else .slotBusy

/-- Posting an order (R120): RELEASE and ABORT replace; an ABORT leaves a current ABORT; the others go into an
EMPTY slot. -/
def postOrder (party : Owner) (body : OrderBody) (s : State) : State :=
  match postingOf party body s.line with
  | .posted => if orderKind body = .abort ∧ currentKind s.line = some .abort then s else enterSlot body s
  | .notOwner => s
  | .slotBusy => s

def emptySlot (s : State) : State := { s with line := { s.line with slot := none } }

/-! ### Moves of the report unit in the alarm table (R142) -/

inductive AlarmMove where
  | batch | delivered | returned | acknowledged | resumed
  deriving DecidableEq, Repr

/-- The move of an entry, or none where it is refused (R142). -/
def moveEntry (m : AlarmMove) (e : AlarmEntry) : Option AlarmEntry :=
  match m, e.state with
  | .batch, .raised => some { e with state := .reporting }
  | .delivered, .reporting => some { e with state := .reported }
  | .returned, .reporting => some { e with state := .raised, reRaised := false }
  | .acknowledged, .raised => some { e with state := .reported, reRaised := false }
  | .resumed, .reported => if e.reRaised then some { e with state := .raised, reRaised := false } else none
  | _, _ => none

def setEntry (i : Nat) (e : AlarmEntry) (s : State) : State :=
  { s with alarm := { s.alarm with entries := s.alarm.entries.set i e } }

/-- Asking a move: the state moved, or none where it is refused. -/
def moveSource (m : AlarmMove) (i : Nat) (s : State) : Option State :=
  (moveEntry m (alarmEntry s.alarm i)).map (fun e => setEntry i e s)

/-! ### The report unit: grant and weighing -/

/-- To end the run (R152). -/
def endRun (s : State) : State :=
  { s with report := { s.report with failures := 0, run := 0, centre := .primary } }

/-- The batch item of a source at this moment (R155). -/
def batchItem (s : State) (i : Nat) : BatchItem :=
  let e := alarmEntry s.alarm i
  { source := i, severity := (sourceSetup s.cfg i).severity, count := e.count, first := e.first, last := e.last
    place := e.latest }

/-- Gathering the batch: each source moved to REPORTING becomes an item; one refused stays out (R155). -/
def gatherBatch : List Nat → State → State × List BatchItem
  | [], s => (s, [])
  | i :: rest, s =>
    match moveSource .batch i s with
    | none => gatherBatch rest s
    | some s' => ((gatherBatch rest s').1, batchItem s i :: (gatherBatch rest s').2)

/-- The centre in use at a grant: an empty fallback number returns it to PRIMARY (R157). -/
def settleCentre (s : State) : State :=
  if s.report.centre = .fallback ∧ s.cfg.fallback = [] then
    { s with report := { s.report with centre := .primary, run := 0 } }
  else s

def centreNumber (cfg : Configuration) : Centre → Digits
  | .primary => cfg.primary
  | .fallback => cfg.fallback

/-- The report unit answers NOTHING: it ends the run and goes to STANDBY (R155). -/
def answerNothing (s : State) : State :=
  endRun { s with report := { s.report with state := .standby } }

/-- The report unit's answer to GRANTED: the REPORT order to post, or NOTHING (R155, R157). -/
def reportGranted (s : State) : State × Option OrderBody :=
  if !reportNeeded s then (answerNothing s, none)
  else
    let g := gatherBatch (batchOrder s) s
    if g.2 = [] then (answerNothing g.1, none)
    else
      let s := settleCentre g.1
      ({ s with report := { s.report with state := .inCall, batch := g.2, dialled := s.report.centre } },
        some (.report (centreNumber s.cfg s.report.centre) s.store.identity.terminal g.2))

/-- Granting a report claim (R115): the owner becomes REPORT and a REPORT order is posted, or, for NOTHING, the
owner returns to NONE. -/
def grantReport (s : State) : State :=
  match reportGranted (setOwner .report s) with
  | (s', some body) => postOrder .report body s'
  | (s', none) => setOwner .nobody s'

/-- Making the report claim (R114 to R116, R154). -/
def makeReportClaim (s : State) : State :=
  let s := { s with report := { s.report with state := .claimed } }
  match s.line.owner with
  | .nobody => grantReport s
  | .report => s
  | .customer => { s with line := { s.line with waitingReport := some (claimCritical s) } }
  | .centre => { s with line := { s.line with waitingReport := some (claimCritical s) } }

/-- Withdrawing the report claim (R114). -/
def withdrawReportClaim (s : State) : State := { s with line := { s.line with waitingReport := none } }

/-- Re-marking the waiting claim where its mark has changed (R154). -/
def remarkReportClaim (s : State) : State :=
  { s with line := { s.line with waitingReport := s.line.waitingReport.map (fun _ => claimCritical s) } }

/-- The once-per-start notices of a weighing that finds sources waiting (R153). -/
def postUnset (s : State) : State :=
  let waiting := urgentSources s
  if waiting = [] then s
  else if s.store.identity.lock ≠ .locked then
    if s.report.identityUnsetPosted then s
    else postNotice .identityUnset (byte1 waiting.length)
      { s with report := { s.report with identityUnsetPosted := true } }
  else if s.cfg.primary = [] then
    if s.report.centreUnsetPosted then s
    else postNotice .centreUnset (byte1 waiting.length)
      { s with report := { s.report with centreUnsetPosted := true } }
  else s

/-- The weighing's action by the report state (R152). -/
def weighAct (s : State) : State :=
  match s.report.state with
  | .standby => if reportNeeded s then makeReportClaim s else s
  | .claimed =>
    if reportNeeded s then remarkReportClaim s
    else endRun (withdrawReportClaim { s with report := { s.report with state := .standby } })
  | .inCall => s
  | .backoff =>
    if reportNeeded s then s
    else endRun { s with report := { s.report with state := .standby, backoffUntil := none } }

/-- The report unit weighs the report need (R152); not before recovery has ended (R151). -/
def weigh (s : State) : State := if recovering s then s else weighAct (postUnset s)

/-! ### The alarm unit -/

/-- The source the SERVICE_STATE notice names: the one that decided, or one of several (R141; log 9). -/
def decidingSource (s : State) : Option Nat :=
  match decidingSources s with
  | [] => none
  | [i] => some i
  | l => some (l.getD (Config.decidingChoice s.freeCount % l.length) 0)

/-- Deriving the service state afresh (R141). -/
def deriveService (s : State) : State :=
  if derivedService s = s.alarm.service then s
  else postNotice .serviceState (byte1 (serviceByte (derivedService s)) ++ optionBytes byte1 (decidingSource s))
    { s with
      freeCount := s.freeCount + 1
      alarm := { s.alarm with service := derivedService s } }

/-- Posting a ring record, with RING_STATE where the ring becomes FULL (R172, R173). -/
def postRecord (r : Ring) (rec : Record) (s : State) : Option (State × Place) :=
  match postRing r rec s.store with
  | none => none
  | some (st, place) =>
    let s' := { s with store := st }
    if (ringOf st r).full then some (postNotice .ringState (byte1 (ringByte r) ++ byte1 0) s', place)
    else some (s', place)

/-- The alarm unit tells the report unit of a raising: a source seen again since it was reported is resumed, then
the need is weighed (R140, R152). -/
def tellRaised (i : Nat) (s : State) : State :=
  if recovering s then s
  else weigh ((moveSource .resumed i s).getD s)

/-- The table entry after a raising (R138). -/
def raiseEntry (time : Option DateTime) (e : AlarmEntry) : AlarmEntry :=
  let counted := min 255 (e.count + 1)
  match e.state with
  | .quiet => { e with state := .raised, count := 1, first := time, last := time, clearPending := false }
  | .raised => { e with count := counted, last := time, clearPending := false }
  | .reporting => { e with count := counted, last := time, reRaised := true, clearPending := false }
  | .reported => { e with count := counted, last := time, reRaised := true, clearPending := false }

/-- The number of the source STORE (R134). -/
abbrev srcStore : Nat := 14
abbrev srcBoxDoor : Nat := 0
abbrev srcSlugStorm : Nat := 8
abbrev srcStringFraud : Nat := 9
abbrev srcReturnBlocked : Nat := 10
abbrev srcCoinJam : Nat := 11
abbrev srcBoxFull : Nat := 12
abbrev srcLineFault : Nat := 13
abbrev srcSupply : Nat := 15

/-- The alarm record of a raising or a clear (R139). -/
def alarmRecord (cleared : Bool) (i : Nat) (origin : Origin) (count : Nat) (s : State) : Record :=
  .alarm { cleared := cleared, source := i, severity := (sourceSetup s.cfg i).severity
           masked := (sourceSetup s.cfg i).masked, origin := origin, time := timeOfDay s, count := count }

/-- A raising (R138 to R141): the entry, the alarm record, ALARM_RAISED, the service state where the raising left
QUIET, the telling. `lost` is what the store does for a lost record (R139, R173): the raising of STORE goes wholly before
the lost record's own notice, an order the manual does not give (log 8). -/
def raiseWith (lost : State → State) (i : Nat) (origin : Origin) (s : State) : State :=
  let before := alarmEntry s.alarm i
  let e := raiseEntry (timeOfDay s) before
  let s := setEntry i e s
  let s := match postRecord .alarm (alarmRecord false i origin e.count s) s with
    | some (s', place) => setEntry i { e with latest := some place } s'
    | none => lost (setEntry i { e with latest := none } s)
  let s := postNotice .alarmRaised
    (byte1 i ++ byte1 (severityByte (sourceSetup s.cfg i).severity) ++ byte1 (alarmStateByte e.state)
      ++ byte1 e.count ++ flagByte (sourceSetup s.cfg i).masked) s
  let s := if before.state = .quiet then deriveService s else s
  tellRaised i s

/-- The store raises STORE; a lost record of STORE itself raises nothing further (R139, R173). -/
def raiseStore (s : State) : State := raiseWith id srcStore .recordStore s

/-- A raising of any source (R138), the store's waiting work apart (log 14). -/
def raiseNow (i : Nat) (origin : Origin) (s : State) : State :=
  if i = srcStore then raiseWith id i origin s else raiseWith raiseStore i origin s

/-- Emptying a sensor's hit history; a clear or a write of the setup also takes the active level of BOTH mode
(R136, R144). -/
def clearSensor (i : Nat) (s : State) : State :=
  { s with alarm := { s.alarm with
      sensors := s.alarm.sensors.set i { sensorState s.alarm i with hits := [], raisedLevel := none } } }

/-- A clear (R144): entry, sensor, CLEARED record, ALARM_CLEARED, service state, telling. The raising of STORE for a lost
record goes before the clear's own notice (log 8). -/
def clearSource (i : Nat) (origin : Origin) (s : State) : State :=
  let count := (alarmEntry s.alarm i).count
  let s := setEntry i {} s
  let s := if i < 8 then clearSensor i s else s
  let s := match postRecord .alarm (alarmRecord true i origin count s) s with
    | some (s', _) => s'
    | none => if i = srcStore then s else raiseStore s
  let s := postNotice .alarmCleared (byte1 i ++ byte1 count ++ byte1 (clearOriginByte origin)) s
  weigh (deriveService s)

/-- An automatic clear (R145). -/
def autoClear (i : Nat) (s : State) : State :=
  match (alarmEntry s.alarm i).state with
  | .quiet => s
  | .raised => clearSource i .automatic s
  | .reported => clearSource i .automatic s
  | .reporting => setEntry i { alarmEntry s.alarm i with clearPending := true } s

/-- A move out of REPORTING, after which a pending clear is carried out (R142, R145). -/
def leaveReporting (m : AlarmMove) (i : Nat) (s : State) : State :=
  match moveSource m i s with
  | none => s
  | some s' => if (alarmEntry s.alarm i).clearPending then clearSource i .automatic s' else s'

end Sys2Proof.Machine
end

