-- ==== Sys2Proof/Machine/StoreOps.lean ====
section
/-! DEFINITION. The record store's own work: what waits for a freed place (R168, R172, R174, R175, R185, R196),
the postings of other blocks, and the engine that takes operations from the queue (R168 to R170, R181, R188). -/

namespace Sys2Proof.Machine

open Sys2Proof

/-! ### Waiting work -/

/-- The condition for which STORE stands is over: both rings not FULL and the totals zero (R175). -/
def storeConditionOver (st : Store) : Bool := !st.callRing.full && !st.alarmRing.full && st.totals == {}

/-- The automatic clear that the store asks when its condition has ended (R175). -/
def askStoreClear (s : State) : State := if storeConditionOver s.store then autoClear srcStore s else s

/-- What waits for a place of the write queue, in the order of R168. -/
inductive WaitingWork where
  | mark (place : Place)
  | ringErase (r : Ring)
  | saveErase
  | overflow
  deriving DecidableEq, Repr

/-- An OVERFLOW record is owed: the totals hold a call and the call ring is not FULL (R175). -/
def overflowOwed (st : Store) : Bool := 0 < st.totals.calls && !st.callRing.full

/-- The first work that waits and can have a place (R168). -/
def nextWork (st : Store) : Option WaitingWork :=
  if !queueHasRoom st then none
  else match st.waitingMarks with
    | p :: _ => some (.mark p)
    | [] =>
      if eraseEligible .call st then some (.ringErase .call)
      else if eraseEligible .alarm st then some (.ringErase .alarm)
      else if st.saveOwed then some .saveErase
      else if overflowOwed st then some .overflow
      else none

/-- Posting a resolved mark that waited (R196). -/
def postWaitingMark (p : Place) (s : State) : State :=
  { s with store := { s.store with waitingMarks := s.store.waitingMarks.tail, queue := s.store.queue ++ [.mark p .resolved] } }

/-- Queueing a ring's owed erase; a FULL ring leaves FULL, with RING_STATE OPEN and the test of STORE (R172, R173,
R175). -/
def queueRingErase (r : Ring) (s : State) : State :=
  let s' := { s with store := queueOwedErase r s.store }
  if (ringOf s.store r).full then askStoreClear (postNotice .ringState (byte1 (ringByte r) ++ byte1 1) s') else s'

/-- Queueing the erase owed to the save area (R185). -/
def queueSaveErase (s : State) : State :=
  { s with store := queueSave s.store }

/-- Posting the OVERFLOW record; the totals return to zero in the same step (R175). The time of day of its posting is kept
with its date, the model's choice (log 34). -/
def postOverflow (s : State) : State :=
  match postRecord .call (.overflow s.store.totals (timeOfDay s)) s with
  | none => s
  | some (s', _) => askStoreClear { s' with store := { s'.store with totals := {} } }

def doWork (w : WaitingWork) (s : State) : State :=
  match w with
  | .mark p => postWaitingMark p s
  | .ringErase r => queueRingErase r s
  | .saveErase => queueSaveErase s
  | .overflow => postOverflow s

/-- The store's waiting work while the queue has places for it: each step takes a place of the eight. -/
def settleWork : Nat → State → State
  | 0, s => s
  | n + 1, s =>
    match nextWork s.store with
    | none => s
    | some w => settleWork n (doWork w s)

/-- The work that goes ahead of any other posting (R168, R175; log 14). -/
def settleWaiting (s : State) : State := settleWork Config.queuePlaces s

/-- A freed place of the queue, taken by a waiting mark of recovery or the save area's erase where these come first
(R168); a ring's owed erase and an OVERFLOW record are commands of their own. -/
def freedPlace (s : State) : State :=
  match nextWork s.store with
  | some (.mark p) => postWaitingMark p s
  | some .saveErase => queueSaveErase s
  | some (.ringErase _) => s
  | some .overflow => s
  | none => s

/-! ### Postings -/

/-- A raising by any block, after the store's waiting work (R138; log 14). -/
def raise (i : Nat) (origin : Origin) (s : State) : State := raiseNow i origin (settleWaiting s)

def cap16 (n : Nat) : Nat := min 65535 n
def cap32 (n : Nat) : Nat := min 4294967295 n

/-- The money of a call or recovered record, counted into the totals: its figures, forfeited amount, tally and
start time, which a recovered record does not have (R174, R199; log 20). -/
def countTotals (f : Option Figures) (forfeited : Option Nat) (coins value : Nat) (start : Option DateTime)
    (t : Totals) : Totals :=
  let g := f.getD ⟨0, 0, 0, 0, 0, 0, 0, 0⟩
  { calls := cap16 (t.calls + 1)
    d := cap32 (t.d + g.d), k := cap32 (t.k + g.k), b := cap32 (t.b + g.b), r := cap32 (t.r + g.r)
    c := cap32 (t.c + g.c), j := cap32 (t.j + g.j), forfeited := cap32 (t.forfeited + forfeited.getD 0)
    tallyCoins := coins, tallyValue := value
    first := if t.calls = 0 then start else t.first
    last := start }

/-- The totals with a refused call or recovered record counted in (R174). -/
def countRecord (rec : Record) (t : Totals) : Totals :=
  match rec with
  | .call r => countTotals (some r.figures) r.forfeited r.tallyCoins r.tallyValue r.start t
  | .recovered r => countTotals r.figures r.forfeited r.tallyCoins r.tallyValue none t
  | .collection _ => t
  | .overflow _ _ => t
  | .alarm _ => t
  | .save _ => t
  | .identity _ _ => t

/-- Posting a call or recovered record: a refused one goes into the totals and raises STORE (R173, R174). -/
def postCallRing (rec : Record) (s : State) : State :=
  let s := settleWaiting s
  match postRecord .call rec s with
  | some (s', _) => s'
  | none => raiseStore { s with store := { s.store with totals := countRecord rec s.store.totals } }

/-- Posting a reported mark; one refused is lost and raises STORE (R159, R178). -/
def postReportedMark (place : Option Place) (s : State) : State :=
  match place with
  | none => s
  | some p =>
    let s := settleWaiting s
    match enqueue (.mark p .reported) s.store with
    | some st => { s with store := st }
    | none => raiseStore s

/-- Posting a resolved mark of recovery, after the store's waiting work; one refused waits for a freed place (R175,
R196). -/
def postResolvedMark (p : Place) (s : State) : State :=
  let s := settleWaiting s
  match enqueue (.mark p .resolved) s.store with
  | some st => { s with store := st }
  | none => { s with store := { s.store with waitingMarks := s.store.waitingMarks ++ [p] } }

def isCommit : StoreOp → Bool
  | .commit => true
  | .record _ _ => false
  | .mark _ _ => false
  | .erase _ _ => false

/-- Posting a COMMIT: it joins one queued and not yet in flight, else takes a place; answers whether it was taken
(R181). -/
def postCommit (s : State) : State × Bool :=
  let s := settleWaiting s
  if s.store.queue.any isCommit then (s, true)
  else match enqueue .commit s.store with
    | some st => ({ s with store := st }, true)
    | none => (s, false)

/-! ### The engine -/

/-- The sector a program operation writes to. -/
def programSector : StoreOp → Option Nat
  | .record p _ => some p.sector
  | .mark p _ => some p.sector
  | .erase _ _ => none
  | .commit => none

/-- The image sector a COMMIT takes: an invalid copy, the first where both are, else the copy with the smaller
commit sequence number (R181; log 10). -/
def commitSector (a : NvArray) : Nat :=
  match a.image1, a.image2 with
  | none, _ => 1
  | some _, none => 2
  | some x, some y => if x.seq < y.seq then 1 else 2

/-- The note of each source's newest erased alarm record, after the erase of a sector (R194; log 18). -/
def noteErased (sector : Nat) (a : NvArray) : List Bool :=
  (sectorCells sector a.cells).foldl (fun l nc => match nc.2.record with
    | some (.alarm r) => l.set r.source (!r.cleared)
    | _ => l) a.erasedRaised

/-- An erase makes its sector unreadable as it begins: its header, and, but for sector 0, its places (R166, R171). -/
def beginErase (sector seq : Nat) (st : Store) : Store :=
  { st with
    erase := some { sector := sector, seq := seq, commit := false, phase := .running }
    array := { st.array with
      headers := dropHeader sector st.array.headers
      cells := if sector = 0 then st.array.cells else eraseCells sector st.array.cells
      erasedRaised := noteErased sector st.array } }

/-- A COMMIT begins with the erase of its image sector, whose header and copy are unreadable from then on (R166, R181). -/
def beginCommit (st : Store) : Store :=
  let k := commitSector st.array
  let a := { st.array with headers := dropHeader k st.array.headers }
  { st with
    erase := some { sector := k, seq := 0, commit := true, phase := .running }
    array := if k = 1 then { a with image1 := none } else { a with image2 := none } }

/-- Starting one operation that has left its place in the queue or the reserved place. -/
def beginOp (op : StoreOp) (reserved : Bool) (st : Store) : Store :=
  match op with
  | .record _ _ => { st with program := some { op := op, reserved := reserved } }
  | .mark _ _ => { st with program := some { op := op, reserved := reserved } }
  | .erase sector seq => beginErase sector seq st
  | .commit => beginCommit st

/-- The queue split at its oldest PROGRAM: what lies ahead of it, the program, what lies behind. -/
def splitProgram : List StoreOp → Option (List StoreOp × StoreOp × List StoreOp)
  | [] => none
  | op :: rest =>
    if (programSector op).isSome then some ([], op, rest)
    else (splitProgram rest).map (fun x => (op :: x.1, x.2.1, x.2.2))

/-- In WARN the store passes over ERASE and COMMIT and takes the oldest queued PROGRAM, unless its sector's ERASE
is queued ahead of it or stopped in flight (R188). -/
def takeInWarn (st : Store) : Store :=
  match st.reserved with
  | some op => beginOp op true { st with reserved := none }
  | none =>
    match splitProgram st.queue with
    | none => st
    | some (ahead, op, behind) =>
      let sector := (programSector op).getD 0
      if ahead.any (isEraseOf sector) || erasing st sector then st
      else beginOp op false { st with queue := ahead ++ behind }

/-- With nothing in flight the store takes the reserved place, else the oldest queued operation (R168). -/
def takeNext (st : Store) : Store :=
  match st.reserved, st.queue with
  | some op, _ => beginOp op true { st with reserved := none }
  | none, op :: rest => beginOp op false { st with queue := rest }
  | none, [] => st

/-- While an erase runs, a program of another sector at the head suspends it (R169). -/
def takePassing (j : EraseJob) (st : Store) : Store :=
  let suspended := { st with erase := some { j with phase := .suspended } }
  let passes (op : StoreOp) : Bool := (programSector op).isSome && programSector op != some j.sector
  match st.reserved, st.queue with
  | some op, _ => if passes op then beginOp op true { suspended with reserved := none } else st
  | none, op :: rest => if passes op then beginOp op false { suspended with queue := rest } else st
  | none, [] => st

/-- The store takes its next operation, where it can; a waiting read is served first (R168 to R170, R188). -/
def startOperation (warn : Bool) (st : Store) : Store :=
  if st.program.isSome || st.read.isSome then st
  else match st.erase with
    | none => if warn then takeInWarn st else takeNext st
    | some j => match j.phase with
      | .running => if warn then st else takePassing j st
      | .stopped => takeInWarn st
      | .slice => st
      | .suspended => st
      | .programming _ => st

/-- The end of a program: its place in the queue is freed, a suspended erase goes on, and the save record that a
rise of the supply found in flight is to be superseded (R168, R169, R190). -/
def endProgram (st : Store) : Store := resumeErase { st with program := none }

/-- A record program ends (R168): a blank place takes the record, a programmed one stays as it is (R166). -/
def programRecord (place : Place) (r : Record) (st : Store) : Store :=
  { st with array := programBlank (placeKey place.sector place.number) { record := some r, marks := [] } st.array }

/-- Placing the superseded mark of a save record whose program has just ended (R190). -/
def supersedeEnded (place : Place) (st : Store) : Store :=
  if st.supersedeAfter = some place then
    { st with supersedeAfter := none, reserved := some (.mark place .superseded) }
  else st

/-- A mark is programmed; a reported mark only where its sector still bears the sequence number named with the
place (R178). -/
def programMarkOp (place : Place) (kind : MarkKind) (st : Store) : Store :=
  if kind = .reported ∧ headerSeq place.sector st.array.headers ≠ some place.seq then st
  else { st with array := programMark (placeKey place.sector place.number) kind st.array }

/-- The save record that waited takes the reserved place when the superseded mark's program has ended (R190). -/
def placeWaitingSave (st : Store) : Store :=
  match st.nextSave with
  | some (p, r) => { st with nextSave := none, reserved := some (.record p (.save r)) }
  | none => st

/-- The test of the save area's owed erase (R185, R190, R198). -/
def testSaveErase (st : Store) : Store := if saveEraseDue st then { st with saveOwed := true } else st

/-- An erase and its header program end: the sector is BLANK (R166, R171); in the save area the next place is
place 0 (R185). -/
def finishErase (j : EraseJob) (st : Store) : Store :=
  { st with
    erase := none
    saveNext := if j.sector = saveSector then 0 else st.saveNext
    array := programHeader j.sector j.seq { st.array with cells := eraseCells j.sector st.array.cells } }

/-- The erase of a COMMIT has ended with its header programmed, and the configuration is programmed as it stands now (R166,
R181). -/
def commitErased (j : EraseJob) (s : State) : State :=
  { s with store := { s.store with
      erase := some { j with phase := .programming s.cfg }, array := programHeader j.sector j.seq s.store.array } }

/-- The commit sequence number of the image copy being made: one greater than the other copy's, a free value of its range
where there is none (R180, R181; log 10). That it goes on past 4,294,967,295 with no wrap is the model's choice (log 10). -/
def commitSequence (sector : Nat) (s : State) : Nat :=
  match (if sector = 1 then s.store.array.image2 else s.store.array.image1) with
  | some other => other.seq + 1
  | none => Config.firstCommitSequence s.freeCount % 4294967296

/-- A COMMIT ends with its image copy valid, and CONFIG_COMMITTED (R181). -/
def finishCommit (sector : Nat) (cfg : Configuration) (s : State) : State :=
  let q := commitSequence sector s
  let copy : ImageCopy := { seq := q, cfg := cfg }
  let array := if sector = 1 then { s.store.array with image1 := some copy } else { s.store.array with image2 := some copy }
  postNotice .configCommitted (byte4 q ++ byte2 cfg.generation)
    { s with freeCount := s.freeCount + 1, store := { s.store with erase := none, array := array } }

/-! ### Reading (R170, R176) -/

/-- The array is free for a record read: no program, and no erase that cannot be suspended now. -/
def readable (st : Store) : Bool :=
  st.program.isNone && (match st.erase with
    | none => true
    | some j => match j.phase with
      | .running => true
      | .suspended => true
      | .stopped => true
      | .slice => false
      | .programming _ => false)

/-- An erase that runs or was suspended is resumed after the read, with its slice (R169, R170). -/
def afterRead (st : Store) : Store :=
  { st with
    read := none
    erase := st.erase.map (fun j => match j.phase with
      | .running => { j with phase := .slice }
      | .suspended => { j with phase := .slice }
      | .slice => j
      | .stopped => j
      | .programming _ => j) }

/-- As many whole items as the response frame carries, never fewer than one (R176). -/
def fitItems (room : Nat) : List (List Byte) → List (List Byte)
  | [] => []
  | x :: rest => if x.length ≤ room then x :: fitItems (room - x.length) rest else []

def fitRecords (room : Nat) (items : List (List Byte)) : List (List Byte) :=
  match items with
  | [] => []
  | x :: rest => x :: fitItems (room - x.length) rest

/-- The fields of a READ_RECORDS response (R176): records present, FULL, torn count, the count returned, the items. That the
count stands there, in one byte, and that no item bears a length is the model's choice (log 34). -/
def recordsFields (r : Ring) (offset count : Nat) (st : Store) : List Byte :=
  let present := ringPresent r st
  let items := fitRecords 114 (((present.drop offset).take count).map (fun x => cellBytes x.2.2))
  byte2 present.length ++ flagByte (ringOf st r).full ++ byte2 (ringOf st r).torn ++ byte1 items.length ++ items.flatten

/-! ### Supply crossings (R188 to R190) -/

/-- An ERASE in flight is stopped and a COMMIT in flight abandoned at WARN falling (R188). -/
def stopErase (st : Store) : Store :=
  { st with erase := match st.erase with
    | none => none
    | some j => if j.commit then none else some { j with phase := .stopped } }

/-- A stopped erase starts again from its beginning (R190), also beside a program that is still in flight, for whose end it
does not wait: the model's choice (log 39). -/
def restartErase (st : Store) : Store :=
  { st with erase := st.erase.map (fun j => if j.phase = .stopped then { j with phase := .running } else j) }

/-- The reserved place is in use, or the superseded mark of an earlier save record goes before the next one
(R190). -/
def reservedTaken (st : Store) : Bool :=
  st.reserved.isSome || st.supersedeAfter.isSome || (match st.program with
    | some j => j.reserved
    | none => false)

/-- The save record takes the save area's next place and the reserved place, or waits for it (R188, R190). -/
def placeSave (r : SaveRecord) (st : Store) : Store :=
  if !savePlaceUsable st then st
  else
    let place : Place := ⟨saveSector, st.saveNext, (headerSeq saveSector st.array.headers).getD 0⟩
    let st' := { st with saveNext := st.saveNext + 1, currentSave := some place }
    if reservedTaken st then { st' with nextSave := some (place, r) }
    else { st' with reserved := some (.record place (.save r)) }

def isRecordOp : StoreOp → Bool
  | .record _ _ => true
  | .mark _ _ => false
  | .erase _ _ => false
  | .commit => false

/-- The save record of this WARN is withdrawn, so that nothing is written and the next place moves back by one (R190). The
places used before it may then be all marked, and an erase that is so owed is queued at once where it can have a place
(R168, R185). -/
def withdrawSave (st : Store) : Store :=
  let back := { st with saveNext := st.saveNext - 1, currentSave := none }
  let owed := { back with saveOwed := true }
  if !saveEraseDue back then back else if nextWork owed = some .saveErase then queueSave owed else owed

/-- The save record of this WARN at its end: withdrawn where its program has not begun, else to be superseded
(R190). -/
def settleSave (st : Store) : Store :=
  if st.nextSave.isSome then withdrawSave { st with nextSave := none }
  else match st.currentSave with
    | none => st
    | some p =>
      if (st.reserved.map isRecordOp).getD false then
        withdrawSave { st with reserved := none }
      else match st.program with
        | some { op := .record q _, reserved := _ } =>
          if q = p then { st with supersedeAfter := some p, currentSave := none }
          else { st with reserved := some (.mark p .superseded), currentSave := none }
        | _ => { st with reserved := some (.mark p .superseded), currentSave := none }

end Sys2Proof.Machine
end

