-- ==== Sys2Proof/Machine/LineOps.lean ====
section
/-! DEFINITION. The line allocator's claims, grants, pre-emption and arbiter (R113 to R118), with what the call
controller does at a grant (R67), and the call state's own operations (R63). -/

namespace Sys2Proof.Machine

open Sys2Proof

/-! ### The call state -/

/-- CONNECTED and WARNING, between which no CALL_STATE is posted (R63). -/
def answered (x : CallState) : Bool := x == .connected || x == .warning

/-- The fields of a CALL_STATE notice (R63, R208). -/
def callStateFields (c : Call) : List Byte :=
  byte1 (callStateByte c.state) ++ optionBytes (fun o => byte1 (outcomeByte o)) c.outcome
    ++ optionBytes (fun r => byte1 (reasonByte r)) c.reason

/-- A change of call state, with its CALL_STATE notice (R63). -/
def setCallState (x : CallState) (s : State) : State :=
  let s' := { s with call := { s.call with state := x } }
  if s.call.state = x || (answered s.call.state && answered x) then s'
  else postNotice .callState (callStateFields s'.call) s'

/-- Fixing the outcome: the first event that fixes it stands (R63). -/
def fixOutcome (o : CallOutcome) (reason : Option Reason) (s : State) : State :=
  if s.call.outcome.isSome then s else { s with call := { s.call with outcome := some o, reason := reason } }

def startCallTimer (t : CallTimer) (d : Nat) (s : State) : State :=
  { s with call := { s.call with timer := some (t, s.now + d) } }

def stopCallTimer (s : State) : State := { s with call := { s.call with timer := none } }

def callTimerRuns (t : CallTimer) (s : State) : Bool :=
  match s.call.timer with
  | some (x, _) => x == t
  | none => false

/-! ### Claims and grants -/

/-- Granting the customer claim (R115): the owner becomes CUSTOMER and, in the same step, CONNECT is posted and
the call moves to CONNECTING (R67). -/
def grantCustomer (s : State) : State :=
  let s := stopCallTimer (setOwner .customer s)
  match s.call.acceptance with
  | none => s
  | some a => setCallState .connecting (postOrder .customer (.connect a.digits a.cls) s)

/-- Starting a pre-emption: the claim becomes the pre-empting claim and ABORT is posted for the owner, where none
is current (R116, R117). -/
def startPreemption (emergency : Bool) (s : State) : State :=
  postOrder s.line.owner (.abort false) { s with line := { s.line with preempting := some emergency } }

/-- The call controller already has a claim with the allocator (R114). -/
def customerClaimHeld (l : Line) : Bool :=
  l.waitingCustomer.isSome || l.preempting.isSome || l.owner == .customer

def waitCustomer (emergency : Bool) (s : State) : State :=
  { s with line := { s.line with waitingCustomer := some emergency } }

/-- A customer claim, by the owner (R114 to R116). -/
def makeCustomerClaim (emergency : Bool) (s : State) : State :=
  if customerClaimHeld s.line then s
  else match s.line.owner with
    | .nobody => grantCustomer s
    | .customer => s
    | .report => if emergency || !batchCritical s.report then startPreemption emergency s else waitCustomer emergency s
    | .centre => if emergency then startPreemption emergency s else waitCustomer emergency s

/-- Withdrawing the customer claim, waiting or pre-empting; an ABORT under way runs on (R114). -/
def withdrawCustomerClaim (s : State) : State :=
  { s with line := { s.line with waitingCustomer := none, preempting := none } }

def grantWaitingCustomer (s : State) : State :=
  grantCustomer { s with line := { s.line with waitingCustomer := none } }

/-- The waiting report claim is granted; where it is answered NOTHING the arbiter runs again (R115, R118). -/
def grantWaitingReport (s : State) : State :=
  let s := grantReport { s with line := { s.line with waitingReport := none } }
  if s.line.owner = .nobody ∧ s.line.waitingCustomer.isSome then grantWaitingCustomer s else s

/-- The arbiter's choice (R118). -/
def arbiter (s : State) : State :=
  match s.line.waitingCustomer, s.line.waitingReport with
  | some true, _ => grantWaitingCustomer s
  | some false, some true => grantWaitingReport s
  | some false, some false => grantWaitingCustomer s
  | some false, none => grantWaitingCustomer s
  | none, some _ => grantWaitingReport s
  | none, none => s

/-- After an ownership has ended: the pre-empting claim is granted, or else the arbiter runs (R117). -/
def handOn (s : State) : State :=
  if s.line.preempting.isSome then grantCustomer { s with line := { s.line with preempting := none } } else arbiter s

/-- The call enters WAIT_LINE and makes its claim (R67). -/
def enterWaitLine (s : State) : State :=
  let emergency := (s.call.acceptance.map (·.emergency)).getD false
  makeCustomerClaim emergency (startCallTimer .lineWait Config.lineWait (setCallState .waitLine s))

/-- An ownership ends: the slot is EMPTY and the owner NONE in the same step (R119). -/
def freeLine (s : State) : State := setOwner .nobody (emptySlot s)

/-- The causes of CENTRE_ENDED, in the order of R128. -/
inductive CentreCause where
  | ended | preEmpted | expired | lineLost | failed
  deriving DecidableEq, Repr

def centreCauseByte : CentreCause → Nat
  | .ended => 0 | .preEmpted => 1 | .expired => 2 | .lineLost => 3 | .failed => 4

/-- The end of a centre session (R128): its timer stops and CENTRE_ENDED is posted. -/
def endCentreSession (c : CentreCause) (s : State) : State :=
  postNotice .centreEnded (byte1 (centreCauseByte c)) { s with line := { s.line with centreUntil := none } }

end Sys2Proof.Machine
end

