-- ==== Sys2Proof/Machine/AccountOps.lean ====
section
/-! DEFINITION. Shared operations between the account, the tariff unit's warnings and the call's clearing: entry to
CLEARING and the forced clear (R74, R75, R111), the report of credit (R32, R66, R107, R110), charges and the
shortfall check (R33, R34), gate results (R30, R31) and the stages of settlement (R36, R37). -/

namespace Sys2Proof.Machine

open Sys2Proof

/-! ### Clearing -/

/-- The tariff unit's end of metering (R111): the count is handed over and the context is STOPPED. -/
def stopMetering (s : State) : State :=
  if s.tariff.meter.state = .stopped then s
  else { s with
    call := { s.call with steps := s.tariff.meter.steps }
    tariff := { s.tariff with meter := {} } }

/-- The connected duration stops counting (R72, R74). -/
def stopConnected (s : State) : State :=
  { s with call := { s.call with duration := connectedDuration s, connectedSince := none } }

/-- What stops when the call leaves its answered or dialling states: timer, metering, duration, after-dial queue
(R74, R78). -/
def stopCallWork (s : State) : State :=
  let s := stopConnected (stopMetering (stopCallTimer s))
  { s with call := { s.call with afterDial := [] } }

/-- Entry to CLEARING with the outcome fixed by the cause (R74). -/
def enterClearing (o : CallOutcome) (s : State) : State :=
  setCallState .clearing (postOrder .customer .release (stopCallWork (fixOutcome o none s)))

/-- The tariff unit's forced clear (R75, R108): the context becomes FORCED, and a call in CONNECTED or WARNING
goes to CLEARING. -/
def forcedClear (s : State) : State :=
  let s := { s with tariff := { s.tariff with meter := { s.tariff.meter with state := .forced, periodUntil := none } } }
  if answered s.call.state then enterClearing .forcedClear s else s

/-! ### Warnings -/

/-- The tenths left of the present period. -/
def periodLeft (s : State) : Option Nat := s.tariff.meter.periodUntil.map (fun t => t - s.now)

def setWarned (w : Bool) (s : State) : State :=
  { s with tariff := { s.tariff with meter := { s.tariff.meter with warned := w } } }

/-- CREDIT_WARNING is sent and posted (R107, R110); the call takes it in CONNECTED alone (R72). One number of three bytes,
wide enough for the threshold, carries the warning charge or the threshold, with no form byte (log 34). -/
def sendWarning (amount : Nat) (s : State) : State :=
  let s := setWarned true s
  let s := if s.call.state = .connected then setCallState .warning s else s
  postNotice .creditWarning (byte3 amount ++ byte2 (available s.account) ++ optionBytes byte2 (periodLeft s)) s

/-- CREDIT_OK is sent and posted (R106, R107, R110); the call takes it in WARNING alone (R72). -/
def sendOk (s : State) : State :=
  let s := setWarned false s
  let s := if s.call.state = .warning then setCallState .connected s else s
  postNotice .creditOk (byte2 (available s.account)) s

/-- Comparing A with the amount the caller will need (R107, R110). -/
def judge (amount : Nat) (s : State) : State :=
  if available s.account < amount then (if s.tariff.meter.warned then s else sendWarning amount s)
  else if s.tariff.meter.warned then sendOk s else s

/-- The amount that reports of A are compared with: the warning charge once its point has passed, or the warning
threshold (R107, R110). -/
def warnAmount (m : Metering) : Option Nat :=
  match m.state with
  | .freeInterval => if m.warnPassed then m.warnCharge else none
  | .stepping => if m.warnPassed then m.warnCharge else none
  | .pulsed => m.threshold
  | .stopped => none
  | .forced => none

/-- The account's report of A to the call controller: in WAIT_COINS it is compared with the deposit (R32, R66). -/
def reportToCall (s : State) : State :=
  match s.call.state, s.call.acceptance with
  | .waitCoins, some a => if a.deposit ≤ available s.account then enterWaitLine (stopCallTimer s) else s
  | _, _ => s

/-- The account's report of A to the tariff unit (R32, R107, R110). -/
def reportToTariff (s : State) : State :=
  match warnAmount s.tariff.meter with
  | some amount => judge amount s
  | none => s

def reportCredit (s : State) : State := reportToTariff (reportToCall s)

/-! ### Charges and the shortfall check -/

/-- A COLLECT request to the coin unit: none is NO_ESCROW_COIN at posting (R8). -/
def postCollect (s : State) : Option State :=
  if s.coin.escrow.length ≤ collectsClaimed s.coin then none
  else some { s with coin := { s.coin with gateQueue := s.coin.gateQueue ++ [.collect] } }

/-- A REFUND_ALL request; one queued leaves the queue as it is (R8). -/
def postRefundAll (s : State) : State :=
  if s.coin.gateQueue.contains .refundAll then s
  else { s with coin := { s.coin with gateQueue := s.coin.gateQueue ++ [.refundAll] } }

/-- The shortfall check (R34): while C exceeds B plus the committed value, one COLLECT is posted. -/
def shortfallFor : Nat → State → State
  | 0, s => s
  | k + 1, s =>
    if s.account.c ≤ s.account.b + committedValue s then s
    else match postCollect s with
      | none => s
      | some s' => shortfallFor k { s' with account := { s'.account with n := s'.account.n + 1 } }

/-- The check posts at most one COLLECT for each coin of the list. -/
def shortfall (s : State) : State := shortfallFor s.coin.escrow.length s

/-- The account's answer to a charge, by its phase (R33). -/
def chargeAnswer (m : Nat) (a : Account) : ChargeAnswer :=
  match a.phase with
  | .idle => .notOpen
  | .settling _ _ => .notOpen
  | .opened true => .closing
  | .opened false => if m ≤ available a then .charged else .short

/-- C after a charge: raised by m, or by A where m is greater (R33). -/
def chargedAccount (m : Nat) (a : Account) : Account :=
  match chargeAnswer m a with
  | .charged => { a with c := a.c + m }
  | .short => { a with c := a.c + available a }
  | .notOpen => a
  | .closing => a

/-- A charge with its shortfall check (R33, R34). The report of A that follows finds the tariff unit in its own
charge (log 15). -/
def charge (m : Nat) (s : State) : State :=
  if s.account.phase = .opened false then shortfall { s with account := chargedAccount m s.account } else s

/-! ### Credits, gate results and the stages of settlement -/

/-- An account that is IDLE takes a credit as a fresh account (R28; log 27). -/
def openForCredit (a : Account) : Account :=
  match a.phase with
  | .idle => { phase := .opened false }
  | .opened _ => a
  | .settling _ _ => a

/-- A coin credited to ESCROW (R28). -/
def creditEscrow (v : Nat) (a : Account) : Account :=
  let a := openForCredit a
  { a with d := a.d + v, e := a.e + v }

/-- A coin credited as banked (R28). -/
def creditBox (v : Nat) (a : Account) : Account :=
  let a := openForCredit a
  { a with d := a.d + v, b := a.b + v }

/-- A coin withdrawn; charges beyond the money left are written back (R29). A coin that a carry brought over is
no part of D, and what D does not hold of it leaves K, so that D + K falls by the coin's value (R27; log 13). -/
def withdraw (v : Nat) (a : Account) : Account :=
  { a with d := a.d - v, k := a.k - (v - a.d), e := a.e - v, c := min a.c (a.b + (a.e - v)) }

/-- Entering the REFUND stage once n is 0 (R36, R37). -/
def enterRefund (s : State) : State :=
  match s.account.phase with
  | .settling .collect r =>
    if s.account.n = 0 then postRefundAll { s with account := { s.account with phase := .settling .refund r } } else s
  | _ => s

/-- Leaving the FLIGHT stage once no coin flight is in progress (R36). -/
def leaveFlightStage (s : State) : State :=
  match s.account.phase with
  | .settling .flight r =>
    if s.coin.flight.isNone then
      enterRefund (shortfall { s with account := { s.account with phase := .settling .collect r } })
    else s
  | _ => s

/-- The end of a COLLECT operation or of a COLLECT entry without a coin: n falls by one and the check is made again
(R30). -/
def collectEnded (f : Account → Account) (s : State) : State :=
  let a := f s.account
  reportCredit (enterRefund (shortfall { s with account := { a with n := a.n - 1 } }))

/-- COLLECTED v: from E to B (R30). -/
def collected (v : Nat) (s : State) : State := collectEnded (fun a => { a with e := a.e - v, b := a.b + v }) s

/-- COLLECTED_UNCONFIRMED v: from E to B, and v to J (R30). -/
def collectedUnconfirmed (v : Nat) (s : State) : State :=
  collectEnded (fun a => { a with e := a.e - v, b := a.b + v, j := a.j + v }) s

/-- NO_ESCROW_COIN for a queued entry: no amount changes (R30). -/
def noEscrowCoin (s : State) : State := collectEnded id s

/-- REFUNDED v: from E to R (R31). -/
def refunded (v : Nat) (s : State) : State :=
  reportCredit { s with account := { s.account with e := s.account.e - v, r := s.account.r + v } }

/-- REFUNDED_UNCONFIRMED v: from E to R, and one more unconfirmed refund (R31). -/
def refundedUnconfirmed (v : Nat) (s : State) : State :=
  reportCredit { s with account :=
    { s.account with e := s.account.e - v, r := s.account.r + v, unconfirmed := min 255 (s.account.unconfirmed + 1) } }

/-- The figures an account hands over, E among them (R37, R40). -/
def figuresOf (a : Account) : Figures :=
  { d := a.d, k := a.k, e := a.e, b := a.b, r := a.r, c := a.c, j := a.j, unconfirmed := a.unconfirmed }

end Sys2Proof.Machine
end

