-- ==== Sys2Proof/Machine/MeterOps.lean ====
section
/-! DEFINITION. Shared operations of the tariff unit: metering (R103 to R110) and activation (R94, R95). -/

namespace Sys2Proof.Machine

open Sys2Proof

/-! ### Metering -/

def rowEntry (row : List TariffEntry) (band : Nat) : TariffEntry := row.getD band TariffEntry.initial

/-- The entry of the band in force in the locked row (R96, R101). -/
def entryInForce (s : State) : TariffEntry := rowEntry (s.tariff.meter.row.getD []) (bandInForce s)

def setMeter (m : Metering) (s : State) : State := { s with tariff := { s.tariff with meter := m } }

/-- The context becomes FORCED with no forced clear, since the call is already being closed (R108). -/
def forceQuietly (s : State) : State :=
  setMeter { s.tariff.meter with state := .forced, periodUntil := none } s

/-- The period of a step (R106): the first step period where there is one, for the first step of the call. -/
def stepLength (first : Bool) (e : TariffEntry) : Nat := if first && e.firstPeriod != 0 then e.firstPeriod else e.period

/-- A step that has been charged starts (R106); a call in WARNING gets CREDIT_OK. -/
def startStep (first : Bool) (e : TariffEntry) (s : State) : State :=
  let m := s.tariff.meter
  let s := setMeter { m with state := .stepping, steps := cap16 (m.steps + 1), entry := some e, warnPassed := false
                             warnCharge := none, periodUntil := some (s.now + stepLength first e) } s
  if m.warned then sendOk s else s

/-- A step falls due (R106, R108). -/
def stepDue (first : Bool) (s : State) : State :=
  let e := entryInForce s
  if available s.account < e.step then forcedClear s
  else match chargeAnswer e.step s.account with
    | .charged => startStep first e (charge e.step s)
    | .short => forcedClear (charge e.step s)
    | .notOpen => forceQuietly s
    | .closing => forceQuietly s

/-- Setting the warning threshold, twice the step charge of the band in force, and judging the warning (R110). -/
def setThreshold (s : State) : State :=
  let t := 2 * (entryInForce s).step
  judge t (setMeter { s.tariff.meter with threshold := some t } s)

/-- After the connection charge: the free interval, the first step, or PULSED (R104, R105, R110). -/
def afterConnection (s : State) : State :=
  let e := entryInForce s
  match s.tariff.meter.mode with
  | .exchange => setThreshold (setMeter { s.tariff.meter with state := .pulsed } s)
  | .localSteps =>
    if e.free = 0 then stepDue true s
    else setMeter { s.tariff.meter with state := .freeInterval, entry := some e, warnPassed := false, warnCharge := none
                                        periodUntil := some (s.now + e.free) } s

/-- The connection charge (R104, R108). -/
def connectionCharge (s : State) : State :=
  let m := (entryInForce s).connection
  if m = 0 then afterConnection s
  else if available s.account < m then
    forcedClear (if available s.account = 0 then s else charge (available s.account) s)
  else match chargeAnswer m s.account with
    | .charged => afterConnection (charge m s)
    | .short => forcedClear (charge m s)
    | .notOpen => forceQuietly s
    | .closing => forceQuietly s

/-- The start of metering (R103): the mode is fixed from the band in force, then the connection charge. -/
def startMetering (row : List TariffEntry) (s : State) : State :=
  if s.tariff.meter.state ≠ .stopped then s
  else connectionCharge
    (setMeter { row := some row, mode := (rowEntry row (bandInForce s)).source : Metering } s)

def countStep (s : State) : State := setMeter { s.tariff.meter with steps := cap16 (s.tariff.meter.steps + 1) } s

/-- A pulse that fits the call (R109). -/
def meterPulse (s : State) : State :=
  if s.tariff.meter.state ≠ .pulsed then s
  else
    let m := (entryInForce s).step
    match chargeAnswer m s.account with
    | .charged => setThreshold (countStep (charge m s))
    | .short => forcedClear (countStep (charge m s))
    | .notOpen => forceQuietly s
    | .closing => forceQuietly s

/-- The warning point of the present period (R107). -/
def warningPoint (s : State) : State :=
  let w := (entryInForce s).step
  judge w (setMeter { s.tariff.meter with warnPassed := true, warnCharge := some w } s)

/-! ### Activation -/

/-- Causes of an activation (R94). -/
inductive ActivationCause where
  | now | scheduled | clockSet
  deriving DecidableEq, Repr

def activationByte : ActivationCause → Nat
  | .now => 0 | .scheduled => 1 | .clockSet => 2

/-- A present PENDING entry is copied over the ACTIVE one (R94). -/
def copyRow (active : List TariffEntry) (pending : List (Option TariffEntry)) : List TariffEntry :=
  List.zipWith (fun a p => p.getD a) active pending

def copyBank (active : List (List TariffEntry)) (pending : List (List (Option TariffEntry))) : List (List TariffEntry) :=
  List.zipWith copyRow active pending

/-- An activation (R94). -/
def activate (cause : ActivationCause) (s : State) : State :=
  let generation := if 65535 ≤ s.cfg.generation then 0 else s.cfg.generation + 1
  let s := { s with
    cfg := { s.cfg with bank := copyBank s.cfg.bank s.tariff.pendingBank, generation := generation }
    tariff := { s.tariff with schedule := .none } }
  let r := postCommit s
  postNotice .tariffActivated (byte2 generation ++ byte1 (activationByte cause) ++ byte1 (if r.2 then 0 else 1)) r.1

def scheduledTime : Schedule → Option DateTime
  | .none => none
  | .scheduled t => some t
  | .waitingClock t => some t

/-- The clock stands at or past a time (R93, R95). -/
def clockReached (t : DateTime) (s : State) : Bool :=
  match s.tariff.clock with
  | none => false
  | some c => secondsOf t ≤ secondsOf c.time

/-- SET_CLOCK compares the clock with the schedule (R95). -/
def compareSchedule (s : State) : State :=
  match scheduledTime s.tariff.schedule with
  | none => s
  | some t =>
    if clockReached t s then activate .clockSet s
    else { s with tariff := { s.tariff with schedule := .scheduled t } }

end Sys2Proof.Machine
end

