-- ==== Sys2Proof/Machine/CallOps.lean ====
section
/-! DEFINITION. Shared operations of the number analyser and the call controller: analyses (R44, R50 to R57), the
beginning and the end of a call (R64, R76 to R87), the after-dial queue (R82). -/

namespace Sys2Proof.Machine

open Sys2Proof

/-! ### Analysis -/

/-- Starting an analysis (R44, R52). -/
def startAnalysis (s : State) : State :=
  { s with analyser := { state := .awaitingFirst, timer := some (.firstDigit, s.now + Config.firstDigit) } }

def analysisRuns (a : Analyser) : Bool := a.state == .awaitingFirst || a.state == .awaitingNext

/-- Stopping an analysis: the timer is cancelled, the buffer kept (R44). -/
def stopAnalysis (s : State) : State :=
  if analysisRuns s.analyser then { s with analyser := { s.analyser with state := .stopped, timer := none } } else s

/-- A candidate: the prefix and the buffer agree over the shorter of the two (R50). -/
def isCandidate (buffer : Digits) (e : PlanEntry) : Bool :=
  e.digits != [] && (e.digits.isPrefixOf buffer || buffer.isPrefixOf e.digits)

def candidates (plan : List PlanEntry) (buffer : Digits) : List PlanEntry := plan.filter (isCandidate buffer)

/-- The best match: the longest prefix that lies wholly in the buffer (R50). -/
def bestMatch (plan : List PlanEntry) (buffer : Digits) : Option PlanEntry :=
  (plan.filter (fun e => e.digits != [] && e.digits.isPrefixOf buffer)).foldl
    (fun best e => match best with
      | none => some e
      | some b => if b.digits.length < e.digits.length then some e else some b) none

/-- The number is complete (R51). -/
def isComplete (buffer : Digits) (e : PlanEntry) : Bool :=
  buffer.length == e.maxLen || (e.dialAtMin && e.minLen ≤ buffer.length)

/-- The tests of a complete number, in order (R54): a refusal reason, or none where it is accepted. -/
def refusalOf (service : ServiceState) (e : PlanEntry) : Option Reason :=
  if e.barred then some .barred
  else match service with
    | .emergencyOnly => if e.emergency then none else some .service
    | .coinFree => if e.emergency || e.noCoin || e.cls == .free then none else some .service
    | .inService => none

/-- The metering mark (R55). -/
def isMetered (e : PlanEntry) : Bool := !(e.cls == .free || e.noCoin || e.emergency)

/-- The required deposit of a locked row (R56). -/
def depositOf (row : List TariffEntry) : Nat := (row.map (fun e => e.connection + e.step)).foldl max 0

/-- The acceptance of a number (R55, R56). -/
def acceptanceOf (e : PlanEntry) (s : State) : Acceptance :=
  let row := s.cfg.bank.getD (classByte e.cls) []
  { digits := s.analyser.buffer, cls := e.cls, emergency := e.emergency, metered := isMetered e
    row := if isMetered e then some row else none, generation := s.cfg.generation
    deposit := if isMetered e then depositOf row else 0 }

/-- The call controller takes an acceptance (R65). -/
def takeAcceptance (a : Acceptance) (s : State) : State :=
  if a.deposit ≤ available s.account then enterWaitLine s
  else startCallTimer .deposit Config.deposit (setCallState .waitCoins s)

/-- An accepted number (R55, R58, R65). -/
def acceptNumber (e : PlanEntry) (s : State) : State :=
  let a := acceptanceOf e s
  let s := { s with
    call := { s.call with acceptance := some a }
    analyser := { s.analyser with state := .decided, timer := none, decision := some (.accepted a.cls a.metered a.deposit) } }
  takeAcceptance a (postNotice .numberAccepted
    (byte1 (classByte a.cls) ++ flagByte a.emergency ++ byte1 (meteredByte a.metered) ++ byte3 a.deposit
      ++ byte1 a.digits.length) s)

/-- A refused number (R57, R58, R65). -/
def refuseNumber (r : Reason) (s : State) : State :=
  let s := { s with
    call := { s.call with acceptance := none }
    analyser := { s.analyser with state := .decided, timer := none, decision := some (.refused r) } }
  let s := postNotice .numberRefused (byte1 (reasonByte r) ++ byte1 s.analyser.buffer.length) s
  setCallState .refused (fixOutcome .refused (some r) s)

/-- The decision of a complete number (R54). -/
def decideNumber (e : PlanEntry) (s : State) : State :=
  match refusalOf s.alarm.service e with
  | some r => refuseNumber r s
  | none => acceptNumber e s

/-- Digit timers run for the inter-digit setting, in whole seconds (R53). -/
def awaitNext (s : State) : State :=
  { s with analyser := { s.analyser with state := .awaitingNext, timer := some (.interDigit, s.now + s.cfg.interDigit * 10) } }

/-- A digit keyed in COLLECTING (R45). -/
def analyseDigit (d : Nat) (s : State) : State :=
  let buffer := s.analyser.buffer ++ [d]
  let s := { s with analyser := { s.analyser with buffer := buffer, timer := none, decision := none } }
  if candidates s.cfg.plan buffer = [] then refuseNumber .unobtainable s
  else match bestMatch s.cfg.plan buffer with
    | none => awaitNext s
    | some e => if isComplete buffer e then decideNumber e s else awaitNext s

/-- The inter-digit timer's expiry (R53). -/
def interDigitEnds (s : State) : State :=
  match bestMatch s.cfg.plan s.analyser.buffer with
  | none => refuseNumber .incomplete s
  | some e => if e.minLen ≤ s.analyser.buffer.length then decideNumber e s else refuseNumber .incomplete s

/-! ### Beginning and end of a call -/

/-- Opening the account (R26). -/
def openAccount (s : State) : State :=
  if s.account.phase = .idle then { s with account := { phase := .opened false } } else s

/-- An off-hook in IDLE begins a call (R64). -/
def beginCall (s : State) : State :=
  let s := openAccount s
  let s := { s with call := { s.call with
    startTime := timeOfDay s, connectedSince := none, duration := 0, bandAtAnswer := none, steps := 0 } }
  setCallState .collecting (startAnalysis s)

/-- The call record of an account that ends (R87). Every call has its outcome by then (R63, R74, R76); the name given to
one without, which no run shows, is the model's choice (log 30). -/
def callRecord (f : Figures) (forfeited : Option Nat) (followOn : Bool) (s : State) : CallRecord :=
  { start := s.call.startTime, duration := connectedDuration s
    digits := s.call.acceptance.map (·.digits), cls := s.call.acceptance.map (·.cls), band := s.call.bandAtAnswer
    outcome := s.call.outcome.getD .unanswered, reason := s.call.reason, figures := f, forfeited := forfeited
    generation := s.call.acceptance.map (·.generation), steps := s.call.steps
    tallyCoins := s.coin.tally.coins, tallyValue := s.coin.tally.value, followOn := followOn }

/-- The record is posted where the account held money or the call a number (R86). -/
def postCallRecord (f : Figures) (forfeited : Option Nat) (followOn : Bool) (s : State) : State :=
  if 0 < f.d + f.k || s.call.acceptance.isSome then postCallRing (.call (callRecord f forfeited followOn s)) s else s

/-- The call controller tells supply and recovery that the call has ended for a restart (R85). -/
def tellCallEnded (s : State) : State :=
  if s.call.restartEnd then
    { s with call := { s.call with restartEnd := false }, supply := { s.supply with callEnded := true } }
  else s

/-- A held off-hook is acted on as the call enters IDLE, where the hook state is still OFF (R64, R84). -/
def takeHeldOffHook (s : State) : State :=
  if s.call.heldOffHook && s.call.hook == .off then
    beginCall { s with call := { s.call with heldOffHook := false } }
  else s

/-- SETTLED: the end of the call (R84). Step 2 of R84 does not name the band at answer; that it is cleared here as R81
clears it at a carry is the model's choice (log 35). -/
def finishCall (f : Figures) (forfeited : Nat) (s : State) : State :=
  let s := postCallRecord f (some forfeited) false s
  let s := { s with
    call := { s.call with
      acceptance := none, outcome := none, reason := none, hangUp := false, followOn := false, duration := 0
      connectedSince := none, bandAtAnswer := none, timer := none }
    analyser := {} }
  takeHeldOffHook (tellCallEnded (setCallState .idle s))

/-- The settle request (R36). -/
def settleAccount (s : State) : State :=
  match s.account.phase with
  | .idle => finishCall (figuresOf {}) 0 s
  | .opened _ => leaveFlightStage { s with account := { s.account with phase := .settling .flight false } }
  | .settling _ _ => s

/-- Entering SETTLING (R76, R77, R84). -/
def enterSettling (s : State) : State := settleAccount (setCallState .settling (stopCallTimer s))

/-- The carry request (R39). -/
def beginCarry (s : State) : State :=
  if s.account.phase = .opened false then shortfall { s with account := { s.account with phase := .opened true } } else s

/-- Leaving CLEARING, or an answered or dialling state after a failure, by the marks (R77, R78). -/
def leaveByMarks (s : State) : State :=
  if s.call.hangUp then enterSettling s
  else if s.call.followOn then beginCarry (setCallState .afterCall s)
  else startCallTimer .followOn Config.followOn (setCallState .afterCall s)

/-- The line allocator tells the call controller FAILED (R78). -/
def callFailed (s : State) : State :=
  match s.call.state with
  | .connecting => leaveByMarks (stopCallWork (fixOutcome .failed none s))
  | .alerting => leaveByMarks (stopCallWork (fixOutcome .failed none s))
  | .connected => leaveByMarks (stopCallWork (fixOutcome .failed none s))
  | .warning => leaveByMarks (stopCallWork (fixOutcome .failed none s))
  | .clearing => leaveByMarks s
  | .idle => s
  | .collecting => s
  | .waitCoins => s
  | .waitLine => s
  | .afterCall => s
  | .settling => s
  | .refused => s

/-- The line allocator tells the call controller that RELEASE is done (R77). -/
def releaseDone (s : State) : State := if s.call.state = .clearing then leaveByMarks s else s

/-- Hang-up: the hang-up mark is set and the follow-on mark cleared (R76). -/
def markHangUp (s : State) : State := { s with call := { s.call with hangUp := true, followOn := false } }

/-- An on-hook acts on the call by its state (R76). -/
def hangUpCall (s : State) : State :=
  match s.call.state with
  | .idle => s
  | .collecting => enterSettling (fixOutcome .unanswered none (stopAnalysis s))
  | .waitCoins => enterSettling (fixOutcome .unanswered none s)
  | .waitLine => enterSettling (fixOutcome .unanswered none (withdrawCustomerClaim s))
  | .connecting => enterClearing .unanswered (markHangUp s)
  | .alerting => enterClearing .unanswered (markHangUp s)
  | .connected => enterClearing .answered (markHangUp s)
  | .warning => enterClearing .answered (markHangUp s)
  | .clearing => markHangUp s
  | .afterCall => enterSettling s
  | .refused => enterSettling s
  | .settling => { s with call := { s.call with heldOffHook := false } }

/-- Supply and recovery asks for the end of the call (R85). -/
def endCallForRestart (s : State) : State :=
  if s.call.restartEnd then s
  else
    let s := { s with call := { s.call with restartEnd := true, heldOffHook := false } }
    if s.call.state = .idle then tellCallEnded s else hangUpCall s

/-! ### After-dial digits -/

/-- The oldest queued digit is posted as a TONE once no TONE is current (R82). -/
def postTone (s : State) : State :=
  match s.call.afterDial with
  | [] => s
  | d :: rest =>
    if answered s.call.state && s.line.owner == .customer && s.line.slot.isNone then
      postOrder .customer (.tone d) { s with call := { s.call with afterDial := rest } }
    else s

end Sys2Proof.Machine
end

