-- ==== Sys2Proof/Machine/EndOps.lean ====
section
/-! DEFINITION. The ends of a line ownership (R117, R122 to R124, R128) with the end of a report call (R158 to
R162). -/

namespace Sys2Proof.Machine

open Sys2Proof

/-! ### The end of a report call -/

/-- The delivered move of one item, then the resumed move where the source was raised again meanwhile (R158). That the
resumed move comes right after its item's own delivered move, ahead of the next item's, is the model's choice (log 44). -/
def deliverItem (i : BatchItem) (s : State) : State :=
  let s := leaveReporting .delivered i.source s
  (moveSource .resumed i.source s).getD s

/-- The returned move of one item (R160, R161). -/
def returnItem (i : BatchItem) (s : State) : State := leaveReporting .returned i.source s

/-- One operation for each item, in batch order. -/
def forItems (f : BatchItem → State → State) : List BatchItem → State → State
  | [], s => s
  | i :: rest, s => forItems f rest (f i s)

/-- The centre run after a failed call, and the centre in use where it reaches 3 (R157). -/
def advanceCentre (cfg : Configuration) (r : Report) : Report :=
  if r.run + 1 < 3 then { r with run := r.run + 1 }
  else match r.centre with
    | .primary => { r with run := 0, centre := if cfg.fallback = [] then .primary else .fallback }
    | .fallback => { r with run := 0, centre := .primary }

/-- REPORT_ENDED (R162). -/
def postReportEnded (o : ReportOutcome) (dialled : Centre) (items backoff : Nat) (s : State) : State :=
  postNotice .reportEnded
    (byte1 (reportOutcomeByte o) ++ byte1 (centreByte dialled) ++ byte1 items ++ byte1 s.report.failures ++ byte2 backoff) s

/-- DELIVERED (R158, R159). -/
def reportDelivered (s : State) : State :=
  let items := s.report.batch
  let s := forItems deliverItem items s
  let s := forItems (fun i => postReportedMark i.place) items s
  let s := endRun { s with report := { s.report with rotation := (items.head?.map (·.source)).or s.report.rotation } }
  let s := postReportEnded .delivered s.report.dialled items.length 0 s
  { s with report := { s.report with batch := [], state := .standby } }

/-- NO_ANSWER, BUSY or FAILED (R160, R163). -/
def reportFailed (o : ReportOutcome) (s : State) : State :=
  let items := s.report.batch
  let s := forItems returnItem items s
  let failures := min 255 (s.report.failures + 1)
  let seconds := Config.backoffSeconds failures
  let s := { s with report :=
    { advanceCentre s.cfg s.report with failures := failures, backoffUntil := some (s.now + seconds * 10) } }
  let s := postReportEnded o s.report.dialled items.length seconds s
  { s with report := { s.report with batch := [], state := .backoff } }

/-- ABORTED (R161). -/
def reportAborted (s : State) : State :=
  let items := s.report.batch
  let s := forItems returnItem items s
  let s := postReportEnded .aborted s.report.dialled items.length 0 s
  { s with report := { s.report with batch := [], state := .standby } }

/-- The allocator tells the report unit how its call ended; the weighing follows when the allocator has finished. -/
def reportEnded (o : ReportOutcome) (s : State) : State :=
  let s := settleWaiting s
  match o with
  | .delivered => reportDelivered s
  | .noAnswer => reportFailed .noAnswer s
  | .busy => reportFailed .busy s
  | .failed => reportFailed .failed s
  | .aborted => reportAborted s

/-! ### The ends of an ownership -/

/-- The former owner is told FAILED (R123, R124). -/
def tellFailed (o : Owner) (c : CentreCause) (s : State) : State :=
  match o with
  | .customer => callFailed s
  | .report => reportEnded .failed s
  | .centre => endCentreSession c s
  | .nobody => s

/-- The report unit weighs the need after the allocator has finished with the end of its ownership (R158, R160,
R161). -/
def weighAfter (o : Owner) (s : State) : State := if o = .report then weigh s else s

/-- An ownership ends by failure (R123, R124). -/
def failOwnership (c : CentreCause) (s : State) : State :=
  let o := s.line.owner
  if o = .nobody then s else weighAfter o (handOn (tellFailed o c (freeLine s)))

/-- The end of an ABORT (R117, R128). -/
def abortDone (atLimit : Bool) (s : State) : State :=
  let o := s.line.owner
  let s := freeLine s
  let s := match o with
    | .report => reportEnded .aborted s
    | .centre => endCentreSession (if atLimit then .expired else .preEmpted) s
    | .customer => s
    | .nobody => s
  weighAfter o (handOn s)

/-- The end of dialling (R70). -/
def connectDone (o : OrderOutcome) (s : State) : State :=
  if s.call.state ≠ .connecting then s
  else if o = .dialled then startCallTimer .ring (s.cfg.ring * 10) (setCallState .alerting s)
  else enterClearing .failed s

/-- The outcome of a report call, from that of its order (R122). -/
def reportOutcomeOf : OrderOutcome → ReportOutcome
  | .delivered => .delivered
  | .noAnswer => .noAnswer
  | .busy => .busy
  | .failed => .failed
  | .dialled => .failed
  | .noDialTone => .failed
  | .sent => .failed
  | .cleared => .failed

/-- The outcomes of each order kind (R122). -/
def outcomesOf : OrderKind → List OrderOutcome
  | .connect => [.dialled, .noDialTone, .failed]
  | .tone => [.sent, .failed]
  | .release => [.cleared, .failed]
  | .report => [.delivered, .noAnswer, .busy, .failed]
  | .abort => [.cleared, .failed]

/-- A completed order ends by its kind (R122). -/
def endOrder (body : OrderBody) (o : OrderOutcome) (s : State) : State :=
  match body with
  | .connect _ _ => connectDone o (emptySlot s)
  | .tone _ => postTone (emptySlot s)
  | .release => arbiter (releaseDone (freeLine s))
  | .report _ _ _ => weigh (arbiter (reportEnded (reportOutcomeOf o) (freeLine s)))
  | .abort atLimit => abortDone atLimit s

end Sys2Proof.Machine
end

