-- ==== Sys2Proof/Machine/RecoveryOps.lean ====
section
/-! DEFINITION. Reset and start-up recovery (R187, R192 to R199). -/

namespace Sys2Proof.Machine

open Sys2Proof

/-! ### Loss of the volatile state (R187) -/

/-- Sector 0 after its erase was cut off by a supply failure: each place reads as before, as TORN or as blank
(R182; log 11). -/
def halfErasedCell (index : Nat) (kc : Nat × Cell) : Option (Nat × Cell) :=
  match Config.halfErased index kc.1 with
  | .kept => some kc
  | .torn => some (kc.1, { record := none, marks := [] })
  | .blank => none

/-- A record program cut short leaves its place TORN (R166, R167). -/
def tearProgram (job : Option ProgramJob) (a : NvArray) : NvArray :=
  match job with
  | some { op := .record p _, reserved := _ } => programBlank (placeKey p.sector p.number) { record := none, marks := [] } a
  | _ => a

def tearErase (index : Nat) (job : Option EraseJob) (cells : List (Nat × Cell)) : List (Nat × Cell) :=
  match job with
  | some j =>
    if j.sector = 0 then
      cells.filterMap (fun kc => if kc.1 / 128 = 0 then halfErasedCell index kc else some kc)
    else cells
  | none => cells

/-- The array as a reset leaves it (R166, R167). -/
def arrayAfterReset (s : State) : NvArray :=
  let a := tearProgram s.store.program s.store.array
  { a with cells := tearErase s.freeCount s.store.erase a.cells }

/-- Every reset loses the volatile state; a restart keeps the clock, the tally and the overflow totals (R187). The hook and
the escrow-empty sensor are inputs and stay (R62, R197; log 31). -/
def resetVolatile (cause : StartCause) (s : State) : State :=
  let kept := cause == .restart
  { State.reset with
    pending := s.pending
    now := s.now
    freeCount := s.freeCount + 1
    coin := { tally := if kept then s.coin.tally else {}, tubeCoins := s.coin.tubeCoins, tickets := s.coin.tickets, coinIds := s.coin.coinIds }
    call := { hookInput := s.call.hookInput }
    tariff := { clock := if kept then s.tariff.clock else none }
    store := { array := arrayAfterReset s, totals := if kept then s.store.totals else {} }
    supply := { cause := cause } }

/-! ### Stage 1: the store scan (R193) -/

/-- The image is loaded, or the defaults with CONFIG_LOST (R180). -/
def loadConfiguration (s : State) : State :=
  match loadedImage s.store.array with
  | some copy => { s with cfg := copy.cfg, supply := { s.supply with loaded := true } }
  | none => postNotice .configLost [] { s with cfg := Configuration.initial, supply := { s.supply with loaded := false } }

def stageOne (s : State) : State := loadConfiguration { s with store := scanStore s.store }

/-! ### Stage 2: the alarm rebuild (R194) -/

/-- The alarm records of a source in ring order: place, record, whether the reported mark reads set. -/
def sourceRecords (i : Nat) (st : Store) : List (Place × AlarmRecord × Bool) :=
  (ringCells .alarm st.alarmRing.sector st.array).filterMap (fun x => match x.2.2.record with
    | some (.alarm r) => if r.source = i then some (x.2.1, r, x.2.2.marks.contains .reported) else none
    | _ => none)

/-- The records of a source that follow its latest CLEARED record, and whether there was one. -/
def sinceCleared (l : List (Place × AlarmRecord × Bool)) : List (Place × AlarmRecord × Bool) × Bool :=
  l.foldl (fun acc x => if x.2.1.cleared then ([], true) else (acc.1 ++ [x], acc.2)) ([], false)

/-- The first time of a restored source, that of its oldest RAISED record since its latest CLEARED one: absent where that
record has been erased, as it has where none that is left is CLEARED and the newest erased one was RAISED (R194; log 18). -/
def restoredFirst (i : Nat) (st : Store) : Option DateTime :=
  let since := sinceCleared (sourceRecords i st)
  match since.1 with
  | [] => none
  | x :: _ => if !since.2 && st.array.erasedRaised.getD i false then none else x.2.1.time

/-- Restoring one source (R149, R194). -/
def restoreSource (i : Nat) (s : State) : State :=
  let l := sourceRecords i s.store
  match l.getLast? with
  | some (place, r, reported) =>
    if r.cleared || reported then s
    else deriveService (setEntry i
      { state := .raised, count := r.count, first := restoredFirst i s.store, last := r.time, latest := some place } s)
  | none => s

def forSources (f : Nat → State → State) : List Nat → State → State
  | [], s => s
  | i :: rest, s => forSources f rest (f i s)

/-- The alarm unit takes the sensor inputs without counting an edge (R130). -/
def takeLevels (levels : List Bool) (s : State) : State :=
  { s with alarm := { s.alarm with
      sensors := (List.range 8).map (fun i => { sensorState s.alarm i with level := levels.getD i false }) } }

/-- A sensor found at its active level raises its source (R149, R194). -/
def raiseActive (i : Nat) (s : State) : State := if atActiveLevel s i then raise i .sensor s else s

/-- The alarm rebuild (R149, R193, R194): restores, sensors at their active levels, STORE, SUPPLY. Sources are restored, and
sensors raised, in rising number, an order the manual does not give (log 18). -/
def stageTwo (levels : List Bool) (s : State) : State :=
  let s := forSources restoreSource (List.range 16) s
  let s := forSources raiseActive (List.range 8) (takeLevels levels s)
  let s := if s.supply.loaded then s else raise srcStore .recordStore s
  if s.supply.cause = .restart then s else raise srcSupply .recovery s

/-! ### Stage 3: the box tally (R195) -/

/-- The tally a call-ring record carries: coins and value, and with a collection record the rest. -/
def recordTally : Record → Option (Nat × Nat × Option Tally)
  | .call r => some (r.tallyCoins, r.tallyValue, none)
  | .recovered r => some (r.tallyCoins, r.tallyValue, none)
  | .collection r => some (r.tally.coins, r.tally.value, some r.tally)
  | .overflow t _ => some (t.tallyCoins, t.tallyValue, none)
  | .alarm _ => none
  | .save _ => none
  | .identity _ _ => none

/-- The call-ring records that carry a tally, in ring order, with their positions. -/
def tallyRecords (st : Store) : List (Nat × Nat × Nat × Option Tally) :=
  (ringCells .call st.callRing.sector st.array).filterMap (fun x =>
    (x.2.2.record.bind recordTally).map (fun t => (x.1, t)))

/-- The newer of the newest ring record and the newest save record: the save record, where no ring record lies at
or after its call ring position (R195). -/
def newerTally (ring : List (Nat × Nat × Nat × Option Tally)) (save : Option SaveRecord) :
    Option (Nat × Nat × Option Tally) :=
  match save, ring.getLast? with
  | some r, some x => if r.ringPosition ≤ x.1 then some x.2 else some (r.tally.coins, r.tally.value, some r.tally)
  | some r, none => some (r.tally.coins, r.tally.value, some r.tally)
  | none, some x => some x.2
  | none, none => none

/-- The tally after a power-on reset or a supply reset (R195). -/
def recoveredTally (st : Store) : Tally :=
  let ring := tallyRecords st
  let save := (saveRecords st.array).getLast?.map (·.2.1)
  let full := ((newerTally (ring.filter (fun x => x.2.2.2.isSome)) save).bind (·.2.2)).getD {}
  match newerTally ring save with
  | none => {}
  | some (coins, value, _) => { full with coins := coins, value := value }

/-- The save record to resolve: the newest valid one with neither mark (R196). -/
def unmarkedSaves (a : NvArray) : List (Place × SaveRecord) :=
  (saveRecords a).filterMap (fun x =>
    if x.2.2.marks.contains .superseded || x.2.2.marks.contains .resolved then none else some (x.1, x.2.1))

/-- A RECOVERED record of the call ring names the place (R196; log 20). -/
def namedByRecovered (p : Place) (st : Store) : Bool :=
  (ringCells .call st.callRing.sector st.array).any (fun x => match x.2.2.record with
    | some (.recovered r) => r.savePlace == some p
    | _ => false)

def saveToResolve (st : Store) : Option (Place × SaveRecord) :=
  match (unmarkedSaves st.array).getLast? with
  | some (p, r) => if namedByRecovered p st then none else some (p, r)
  | none => none

/-- Stage 3; `found` is the save record to resolve, whose totals come back (R195). -/
def stageThree (found : Option (Place × SaveRecord)) (s : State) : State :=
  let s := if s.supply.cause = .restart then s
    else { s with
      coin := { s.coin with tally := recoveredTally s.store }
      store := { s.store with totals := (found.map (·.2.totals)).getD {} } }
  let s := { s with coin := { s.coin with nearPosted := nearLevel s.cfg.capacity ≤ s.coin.tally.coins } }
  if s.cfg.capacity ≤ s.coin.tally.coins ∧ (alarmEntry s.alarm srcBoxFull).state = .quiet then
    raise srcBoxFull .recovery s
  else s

/-! ### Stage 4: the escrow resolution (R196, R197) -/

def setRecovery (r : Recovery) (s : State) : State := { s with supply := { s.supply with recovery := some r } }

/-- The account of the save record with the coin in motion folded in (R196). -/
def foldAccount (motion : Motion) (v : Nat) (a : Account) : Account :=
  match motion with
  | .collect => { a with b := a.b + v, j := a.j + v }
  | .refund => { a with r := a.r + v, unconfirmed := min 255 (a.unconfirmed + 1) }
  | .no => a

/-- The coin in motion leaves the list; the others stay, none in motion (R196). -/
def foldEscrow : List EscrowCoin → List EscrowCoin
  | [] => []
  | x :: rest => (if x.motion = .no then [x] else []) ++ rest.map (fun c => { c with motion := .no })

def foldedAccount (r : SaveRecord) : Account :=
  match r.escrow.head? with
  | some x => foldAccount x.motion x.value r.account
  | none => r.account

/-- A coin in motion for COLLECT counts among the jam coins (R196). -/
def foldTally (r : SaveRecord) (t : Tally) : Tally :=
  match r.escrow.head? with
  | some x => if x.motion = .collect then { t with jam := cap16 (t.jam + 1) } else t
  | none => t

/-- Reconstitution (R41): SETTLING at the COLLECT stage, answering recovery. -/
def reconstitute (a : Account) (s : State) : State :=
  let e := escrowValue s.coin.escrow
  enterRefund (shortfall { s with account :=
    { a with phase := .settling .collect true, e := e, c := min a.c (a.b + e), n := 0 } })

def forPlaces (f : Place → State → State) : List Place → State → State
  | [], s => s
  | p :: rest, s => forPlaces f rest (f p s)

/-- Stage 4 up to its sensor check (R196). That the resolved marks of the other unmarked save records are posted oldest
first, and ahead of the fold and the reconstitution, is the model's choice (log 45). -/
def stageFour (found : Option (Place × SaveRecord)) (s : State) : State :=
  let unmarked := unmarkedSaves s.store.array
  let marks := if found.isSome then (unmarked.map (·.1)).dropLast else unmarked.map (·.1)
  let s := forPlaces postResolvedMark marks s
  match found with
  | none => setRecovery { stage := 4, phase := .checking } s
  | some (p, r) =>
    let a := foldedAccount r
    let s := { s with coin := { s.coin with escrow := foldEscrow r.escrow, tally := foldTally r s.coin.tally } }
    if r.account.phase = .idle then
      setRecovery { stage := 4, phase := .checking, save := some (p, r), figures := some (figuresOf a) } s
    else reconstitute a (setRecovery { stage := 4, phase := .settling, save := some (p, r) } s)

/-- Recovery up to the settlement or the sensor check, as one step of the reset that begins it (R192); the scan of stage 1
hands it what it found in the save area (R179). -/
def recover (levels : Levels) (s : State) : State :=
  let s := { s with supply := { s.supply with
    inReset := false, state := if levels.belowWarn then .warn else .normal, recovery := some { stage := 1, phase := .settling } } }
  let s := stageOne s
  let found := saveToResolve s.store
  stageFour found (stageThree found (stageTwo levels.tamper s))

/-! ### After the settlement -/

/-- The RECOVERED record (R199). -/
def recoveredRecord (r : Recovery) (s : State) : RecoveredRecord :=
  { time := timeOfDay s, cause := s.supply.cause, savePlace := r.save.map (·.1)
    saveTime := r.save.bind (·.2.time), callState := r.save.map (·.2.callState), cls := r.save.bind (·.2.cls)
    figures := r.figures, forfeited := r.figures.map (fun f => f.b - f.c), flushed := r.flushed
    tallyCoins := s.coin.tally.coins, tallyValue := s.coin.tally.value }

/-- A RECOVERED record is due (R196, R197). -/
def recordDue (r : Recovery) : Bool :=
  r.cycles != 0 || (match r.save with
    | some (_, v) => v.cls.isSome || (match r.figures with
      | some f => 0 < f.d + f.k
      | none => false)
    | none => false)

/-- The end of stage 4: the raisings of the flush, the RECOVERED record, the resolved mark (R196, R197). That the raisings go
before the record at a start without a save record is the model's choice (log 40). -/
def endResolution (blocked : Bool) (r : Recovery) (s : State) : State :=
  let s := if r.cycles = 0 then s else raise srcSupply .recovery s
  let s := if blocked then raise srcReturnBlocked .recovery s else s
  let s := if recordDue r then postCallRing (.recovered (recoveredRecord r s)) s else s
  let s := match r.save with
    | some (p, _) => postResolvedMark p s
    | none => s
  setRecovery { r with stage := 5, phase := .marking, flushUntil := none } s

/-- A flush cycle begins, or waits for the supply (R192, R197). That a window open as WARN comes runs to its end, and that
the sensor is consulted again before the cycle that waited, is the model's choice (log 42). -/
def beginCycle (r : Recovery) (s : State) : State :=
  if s.supply.state = .warn then setRecovery { r with phase := .checking, flushUntil := none } s
  else setRecovery
    { r with phase := .flushing, cycles := r.cycles + 1, counted := false, flushUntil := some (s.now + Config.gateWindow) } s

def isResolvedMark : StoreOp → Bool
  | .mark _ .resolved => true
  | _ => false

/-- Marks of stage 4 not yet programmed (R198). -/
def marksOutstanding (st : Store) : Bool :=
  st.waitingMarks != [] || st.queue.any isResolvedMark || (match st.program with
    | some j => isResolvedMark j.op
    | none => false)

/-- What STARTED says of the escrow resolution (R198). -/
def resolutionByte (r : Recovery) : Nat :=
  if r.save.isSome then (if r.cycles = 0 then 1 else 3) else (if r.cycles = 0 then 0 else 2)

/-- The hook is watched from the end of recovery; the level found is taken as a change to it (R62). -/
def watchHook (s : State) : State :=
  { s with call := { s.call with holdFrom := if s.call.hookInput then none else some s.now } }

/-- Housekeeping, STARTED and the end of recovery (R198, R192). -/
def endRecovery (r : Recovery) (s : State) : State :=
  let s := settleWaiting { s with store := testSaveErase s.store }
  let s := postNotice .started
    (byte1 (causeByte s.supply.cause) ++ byte1 (if s.supply.loaded then 0 else 1) ++ byte1 (resolutionByte r)
      ++ byte1 (serviceByte s.alarm.service)) s
  weigh (watchHook { s with supply := { s.supply with recovery := none } })

end Sys2Proof.Machine
end

