-- ==== Sys2Proof/Machine/Coin.lean ====
section
/-! DEFINITION. The commands of the coin unit (R1 to R24). -/

namespace Sys2Proof.Machine

open Sys2Proof

/-! ### The box tally and its levels -/

/-- One coin of a channel counted into the tally; each field stops at its greatest value (R14). -/
def countCoin (channel value : Nat) (t : Tally) : Tally :=
  { t with
    coins := cap16 (t.coins + 1)
    value := cap32 (t.value + value)
    counts := t.counts.set (channel - 1) (cap16 (t.counts.getD (channel - 1) 0 + 1)) }

/-- BOX_NEAR at or above the near level while the flag is clear (R15). -/
def checkNear (s : State) : State :=
  if !s.coin.nearPosted && nearLevel s.cfg.capacity ≤ s.coin.tally.coins then
    postNotice .boxNear (byte2 s.coin.tally.coins ++ byte4 s.coin.tally.value)
      { s with coin := { s.coin with nearPosted := true } }
  else s

/-- BOX_FULL where the tally's coins have come to stand at or above the capacity (R15). -/
def checkFull (wasBelow : Bool) (s : State) : State :=
  if wasBelow && s.cfg.capacity ≤ s.coin.tally.coins then raise srcBoxFull .coinUnit s else s

/-- A coin seen in the box (R5, R10, R14, R15). -/
def bankCoin (channel value : Nat) (s : State) : State :=
  let wasBelow : Bool := s.coin.tally.coins < s.cfg.capacity
  checkFull wasBelow (checkNear { s with coin := { s.coin with tally := countCoin channel value s.coin.tally } })

/-! ### Flights -/

/-- The kind of a flight, decided at the pulse (R3). -/
def flightKind (c : CoinUnit) : FlightKind := if c.escrow.length < Config.escrowPlaces then .escrow else .overflow

/-- An accept pulse starts a flight (R3). -/
def startFlight (channel : Nat) (s : State) : State :=
  { s with coin := { s.coin with
      flight := some
        { channel := channel, value := channelValue s.cfg channel, start := s.now, kind := flightKind s.coin
          ticket := s.coin.tickets }
      tickets := s.coin.tickets + 1 } }

/-- A lost flight; the second in a row raises COIN_JAM (R6). -/
def loseFlight (s : State) : State :=
  if s.coin.flightLoss = 0 then { s with coin := { s.coin with flightLoss := 1 } }
  else raise srcCoinJam .coinUnit { s with coin := { s.coin with flightLoss := 0 } }

/-- COIN_CREDITED (R4, R5). -/
def postCredited (channel value : Nat) (kind : FlightKind) (s : State) : State :=
  postNotice .coinCredited
    (byte1 channel ++ byte2 value ++ byte1 (if kind = .escrow then 0 else 1) ++ byte2 (available s.account)) s

/-- An ESCROW flight confirmed (R4, R28): list, account, notice, report of A, the settlement's FLIGHT stage. -/
def confirmEscrow (f : Flight) (s : State) : State :=
  let s := { s with
    coin := { s.coin with
      flight := none
      escrow := s.coin.escrow ++ [{ channel := f.channel, value := f.value, id := s.coin.coinIds }]
      lastCredited := some { instant := s.now, id := s.coin.coinIds }
      coinIds := s.coin.coinIds + 1
      flightLoss := 0 }
    account := creditEscrow f.value s.account }
  leaveFlightStage (reportCredit (postCredited f.channel f.value .escrow s))

/-- An OVERFLOW flight confirmed (R5, R28). -/
def confirmOverflow (f : Flight) (s : State) : State :=
  let s := { s with
    coin := { s.coin with flight := none, flightLoss := 0 }
    account := creditBox f.value s.account }
  leaveFlightStage (reportCredit (postCredited f.channel f.value .overflow (bankCoin f.channel f.value s)))

/-- The coin pulled back, where a stray pass can withdraw one: the newest entry, not in motion, credited no more
than 1.5 s ago (R18). -/
def pulledBack (s : State) : Option EscrowCoin :=
  match s.coin.lastCredited, s.coin.escrow.getLast? with
  | some l, some x =>
    if s.now ≤ l.instant + Config.stringWindow ∧ x.id = l.id ∧ x.motion = .no then some x else none
  | _, _ => none

/-- The withdrawal of a coin (R18, R29). -/
def withdrawCoin (x : EscrowCoin) (s : State) : State :=
  let s := { s with
    coin := { s.coin with escrow := s.coin.escrow.dropLast }
    account := withdraw x.value s.account }
  reportCredit (postNotice .coinWithdrawn (byte1 x.channel ++ byte2 x.value ++ byte2 (available s.account)) s)

/-- A stray pass (R18). -/
def strayPass (s : State) : State :=
  let found := pulledBack s
  let s := { s with coin := { s.coin with lastCredited := none } }
  raise srcStringFraud .coinUnit (match found with
    | some x => withdrawCoin x s
    | none => s)

/-! ### Gate operations -/

/-- The gate may take work: free, and the supply not in WARN (R9). -/
def gateMayStart (s : State) : Bool := gateFree s && s.supply.state == .normal

/-- The oldest entry is marked in motion and its coil driven (R9). -/
def driveGate (m : Motion) (s : State) : State :=
  { s with coin := { s.coin with
      escrow := match s.coin.escrow with
        | [] => []
        | x :: rest => { x with motion := m } :: rest
      gateOp := some { motion := m, second := false, since := s.now, ticket := s.coin.tickets }
      tickets := s.coin.tickets + 1 } }

/-- The next piece of work of the gate queue (R8): COLLECT entries first; an entry that finds no coin is removed. -/
def takeGateWork (s : State) : State :=
  if s.coin.gateQueue.contains .collect then
    let s := { s with coin := { s.coin with gateQueue := s.coin.gateQueue.erase .collect } }
    if s.coin.escrow = [] then noEscrowCoin s else driveGate .collect s
  else if s.coin.gateQueue.contains .refundAll then
    if s.coin.escrow = [] then { s with coin := { s.coin with gateQueue := s.coin.gateQueue.erase .refundAll } }
    else driveGate .refund s
  else s

/-- The operation is over and the coin in motion leaves the list (R10 to R12). -/
def releaseGate (s : State) : State :=
  { s with coin := { s.coin with gateOp := none, escrow := s.coin.escrow.tail } }

/-- A confirmed COLLECT (R10). -/
def confirmCollect (s : State) : State :=
  match s.coin.escrow.head? with
  | some x => collected x.value (bankCoin x.channel x.value (releaseGate s))
  | none => releaseGate s

/-- A confirmed REFUND (R10). -/
def confirmRefund (s : State) : State :=
  let t := releaseGate { s with coin := { s.coin with refundRun := 0 } }
  match s.coin.escrow.head? with
  | some x => refunded x.value t
  | none => t

/-- A COLLECT whose second window ran out (R11). -/
def jamCollect (s : State) : State :=
  let t := releaseGate s
  let t := { t with coin := { t.coin with tally := { t.coin.tally with jam := cap16 (t.coin.tally.jam + 1) } } }
  match s.coin.escrow.head? with
  | some x => raise srcCoinJam .coinUnit (collectedUnconfirmed x.value t)
  | none => raise srcCoinJam .coinUnit t

/-- The run of unconfirmed refunds; the second in a row raises RETURN_BLOCKED (R12). -/
def countRefundRun (s : State) : State :=
  if s.coin.refundRun = 0 then { s with coin := { s.coin with refundRun := 1 } }
  else raise srcReturnBlocked .coinUnit { s with coin := { s.coin with refundRun := 0 } }

/-- A REFUND whose second window ran out (R12). -/
def loseRefund (s : State) : State :=
  match s.coin.escrow.head? with
  | some x => countRefundRun (refundedUnconfirmed x.value (releaseGate s))
  | none => countRefundRun (releaseGate s)

/-- A gate window runs out: the coil is driven again, or the operation ends unconfirmed (R11, R12). -/
def gateWindowEnds (g : GateOp) (s : State) : State :=
  if !g.second then
    { s with coin := { s.coin with
        gateOp := some { g with second := true, since := s.now, ticket := s.coin.tickets }
        tickets := s.coin.tickets + 1 } }
  else match g.motion with
    | .collect => jamCollect s
    | .refund => loseRefund s
    | .no => s

/-- The end of a gate test (R23): CONFIRMED 0, NOT_CONFIRMED 1. -/
def endGateTest (outcome : Nat) (s : State) : State :=
  postNotice .gateTest (byte1 outcome) { s with coin := { s.coin with gateTest := none } }

/-- Whether the COLLECT operation awaits the box-entry sensor, with the order in which its wait began (R13). -/
def collectWait (c : CoinUnit) : Option Nat :=
  match c.gateOp with
  | some g => if g.motion = .collect then some g.ticket else none
  | none => none

/-- The OVERFLOW flight that awaits the box-entry sensor (R13). -/
def overflowFlight (c : CoinUnit) : Option Flight :=
  match c.flight with
  | some f => if f.kind = .overflow then some f else none
  | none => none

/-- A box-entry event confirms what began to wait first (R13). -/
def boxEntry (s : State) : State :=
  match collectWait s.coin, overflowFlight s.coin with
  | some t, some f => if t < f.ticket then confirmCollect s else confirmOverflow f s
  | some _, none => confirmCollect s
  | none, some f => confirmOverflow f s
  | none, none => s

/-- A flushed coin: at most one in each cycle (R197; log 16). -/
def countFlushed (r : Recovery) (s : State) : State :=
  if r.counted then s else setRecovery { r with counted := true, flushed := r.flushed + 1 } s

/-- A return-chute event (R10, R13, R23, R197). -/
def returnChute (s : State) : State :=
  match s.coin.gateOp, s.coin.gateTest, s.supply.recovery with
  | some g, _, _ => if g.motion = .refund then confirmRefund s else s
  | none, some _, _ => endGateTest 0 s
  | none, none, some r => if r.flushUntil.isSome then countFlushed r s else s
  | none, none, none => s

/-! ### Rejects -/

/-- A reject recorded in the history of eight times; the storm it may complete (R17). -/
def recordReject (s : State) : State :=
  let kept := if Config.rejectPlaces ≤ s.coin.rejects.length then s.coin.rejects.tail else s.coin.rejects
  let rejects := kept ++ [s.now]
  if rejects.length = Config.rejectPlaces ∧ s.now ≤ rejects.headD 0 + Config.slugWindow then
    raise srcSlugStorm .coinUnit { s with coin := { s.coin with rejects := [] } }
  else { s with coin := { s.coin with rejects := rejects } }

/-! ### Collecting the box -/

/-- Opening the collection window; the start of the collection condition empties the box door's history (R19, R20,
R133). -/
def openWindow (s : State) : State :=
  let s := if s.coin.windowUntil.isSome then s
    else { s with alarm := { s.alarm with sensors := s.alarm.sensors.set 0 { sensorState s.alarm 0 with hits := [] } } }
  { s with coin := { s.coin with windowUntil := some (s.now + Config.collectionWindow), wrongCodes := 0 } }

/-- OPEN_COLLECTION's outcomes: OPEN 0 with the time to run, WRONG_CODE 1, LOCKED_OUT 2 (R19). The time follows the outcome
with no presence or form byte, the model's choice (log 34). -/
def compareCode (code : Digits) (s : State) : State × Reply :=
  if code = s.cfg.code then (openWindow s, replyOk (byte1 0 ++ byte2 Config.collectionWindow))
  else if s.coin.wrongCodes + 1 < 3 then
    ({ s with coin := { s.coin with wrongCodes := s.coin.wrongCodes + 1 } }, replyOk (byte1 1))
  else
    (raise srcBoxDoor .coinUnit
      { s with coin := { s.coin with wrongCodes := 0, lockoutUntil := some (s.now + Config.collectionLockout) } },
      replyOk (byte1 2))

/-- A code of eight digits (R19; log 21). -/
def codeShape (code : Digits) : Bool := code.length == 8 && code.all (· ≤ 11)

def openCollection (code : Digits) (s : State) : State × Reply :=
  if !codeShape code then (s, refuseRange)
  else if s.coin.lockoutUntil.isSome then (s, refuseState)
  else compareCode code s

/-- The COLLECTION record (R21). -/
def collectionRecord (s : State) : Record :=
  .collection { time := timeOfDay s, tally := s.coin.tally, capacity := s.cfg.capacity }

/-- The window closes and the tally starts afresh (R21). -/
def closeWindow (s : State) : State :=
  autoClear srcBoxFull
    { s with coin := { s.coin with tally := {}, nearPosted := false, windowUntil := none } }

def closeCollection (s : State) : State × Reply :=
  if s.coin.windowUntil.isNone then (s, refuseState)
  else
    let s := settleWaiting s
    match postRecord .call (collectionRecord s) s with
    | none => (s, refuseBusy)
    | some (s', _) => (closeWindow s', replyOk (tallyBytes s.coin.tally))

/-- What is left of a timer, in tenths. -/
def timeLeft (t : Option Nat) (s : State) : Option Nat := t.map (fun u => u - s.now)

/-- READ_TALLY's fields (R22). Whether the window is open, and the time it has to run, are one optional field, so that one
byte is flag and presence byte; the same for the lockout. R202 leaves that open (log 34). -/
def tallyFields (s : State) : List Byte :=
  tallyBytes s.coin.tally ++ byte2 s.cfg.capacity ++ byte2 (nearLevel s.cfg.capacity)
    ++ optionBytes byte2 (timeLeft s.coin.windowUntil s) ++ optionBytes byte2 (timeLeft s.coin.lockoutUntil s)

/-- TEST_GATE is refused outright (R23). -/
def gateTestBarred (s : State) : Bool :=
  s.call.state != .idle || s.coin.escrow != [] || s.coin.gateOp.isSome || s.coin.gateQueue != [] || s.supply.state == .warn

/-- TEST_GATE (R23). Where both refusals apply REFUSED_STATE goes first, the model's choice (log 37). -/
def testGate (s : State) : State × Reply :=
  if gateTestBarred s then (s, refuseState)
  else if s.coin.gateTest.isSome then (s, refuseBusy)
  else ({ s with coin := { s.coin with gateTest := some (s.now + Config.gateWindow) } }, replyAccepted)

/-! ### Configuration -/

/-- WRITE_COIN (R2). Where both refusals apply the range is answered first, the model's choice (log 37). -/
def writeCoin (channel value : Nat) (s : State) : State × Reply :=
  if channel < 1 || 6 < channel || 65535 < value then (s, refuseRange)
  else if s.call.state ≠ .idle then (s, refuseState)
  else ({ s with cfg := { s.cfg with coinValues := s.cfg.coinValues.set (channel - 1) value } }, replyOk [])

def writeCapacity (n : Nat) (s : State) : State × Reply :=
  if n < 100 || 3000 < n then (s, refuseRange)
  else
    let wasBelow : Bool := s.coin.tally.coins < s.cfg.capacity
    (checkFull wasBelow (checkNear { s with cfg := { s.cfg with capacity := n } }), replyOk [])

def writeCode (code : Digits) (s : State) : State × Reply :=
  if code.length = 8 ∧ code.all (· ≤ 9) then ({ s with cfg := { s.cfg with code := code } }, replyOk [])
  else (s, refuseRange)

/-! ### The commands -/

/-- WRITE_COIN (R2). -/
def execWriteCoin (p : Port) (channel value : Nat) (s : State) : Host.Outcome State Fault Refusal :=
  .next (takeRequest .writeCoin p (writeCoin channel value) s)

/-- WRITE_SETTING 3 (R15). -/
def execWriteSettingBoxCapacity (p : Port) (coins : Nat) (s : State) : Host.Outcome State Fault Refusal :=
  .next (takeRequest .writeSetting p (writeCapacity coins) s)

/-- WRITE_SETTING 4 (R19). -/
def execWriteSettingCollectionCode (p : Port) (code : Digits) (s : State) : Host.Outcome State Fault Refusal :=
  .next (takeRequest .writeSetting p (writeCode code) s)

/-- OPEN_COLLECTION (R19). -/
def execOpenCollection (p : Port) (code : Digits) (s : State) : Host.Outcome State Fault Refusal :=
  .next (takeRequest .openCollection p (openCollection code) s)

/-- CLOSE_COLLECTION (R21). -/
def execCloseCollection (p : Port) (s : State) : Host.Outcome State Fault Refusal :=
  .next (takeRequest .closeCollection p closeCollection s)

/-- READ_TALLY (R22). -/
def execReadTally (p : Port) (s : State) : Host.Outcome State Fault Refusal :=
  .next (takeRequest .readTally p (fun s => (s, replyOk (tallyFields s))) s)

/-- TEST_GATE (R23). -/
def execTestGate (p : Port) (s : State) : Host.Outcome State Fault Refusal :=
  .next (takeRequest .testGate p testGate s)

/-- A validator accept pulse (R1, R3, R6). -/
def acceptPulse (channel : Nat) (s : State) : State :=
  if masterInhibit s || channelInhibit s.cfg channel then s
  else if s.coin.flight.isSome then loseFlight s
  else startFlight channel s

def execAcceptPulse (channel : Nat) (s : State) : Host.Outcome State Fault Refusal :=
  .next (whenAwake (acceptPulse channel) s)

/-- An escrow entry event (R4, R18). -/
def escrowEntry (s : State) : State :=
  match s.coin.flight with
  | some f => if f.kind = .escrow then confirmEscrow f s else strayPass s
  | none => strayPass s

def execEscrowEntryEvent (s : State) : Host.Outcome State Fault Refusal := .next (whenAwake escrowEntry s)

/-- A box-entry event (R13). -/
def execBoxEntryEvent (s : State) : Host.Outcome State Fault Refusal := .next (whenAwake boxEntry s)

/-- A return-chute event (R13). -/
def execReturnChuteEvent (s : State) : Host.Outcome State Fault Refusal := .next (whenAwake returnChute s)

/-- A reject pulse (R17). -/
def execRejectPulse (s : State) : Host.Outcome State Fault Refusal := .next (whenAwake recordReject s)

/-- The flight window runs out (R6). -/
def flightWindowEnds (s : State) : State :=
  if s.coin.flight.isNone then s
  else leaveFlightStage (loseFlight { s with coin := { s.coin with flight := none } })

def execFlightWindowExpiry (s : State) : Host.Outcome State Fault Refusal := .next (whenAwake flightWindowEnds s)

/-- The gate takes its next work (R8, R9). -/
def execGateOperationStart (s : State) : Host.Outcome State Fault Refusal :=
  .next (whenAwake (fun s => if gateMayStart s then takeGateWork s else s) s)

/-- A gate window runs out (R11, R12). -/
def execGateWindowExpiry (s : State) : Host.Outcome State Fault Refusal :=
  .next (whenAwake (fun s => match s.coin.gateOp with
    | some g => gateWindowEnds g s
    | none => s) s)

/-- The test window runs out (R23). -/
def execGateTestWindowExpiry (s : State) : Host.Outcome State Fault Refusal :=
  .next (whenAwake (fun s => if s.coin.gateTest.isSome then endGateTest 1 s else s) s)

/-- The collection window runs out (R20). -/
def execCollectionWindowExpiry (s : State) : Host.Outcome State Fault Refusal :=
  .next (whenAwake (fun s => { s with coin := { s.coin with windowUntil := none } }) s)

/-- The collection lockout runs out (R19). -/
def execCollectionLockoutExpiry (s : State) : Host.Outcome State Fault Refusal :=
  .next (whenAwake (fun s => { s with coin := { s.coin with lockoutUntil := none } }) s)

end Sys2Proof.Machine
end

