-- ==== Sys2Proof/Machine/Number.lean ====
section
/-! DEFINITION. The commands of the number analyser, and the keys, which it shares with the call controller (R43 to
R60, R68, R69, R80, R82). -/

namespace Sys2Proof.Machine

open Sys2Proof

/-! ### Keys -/

/-- The outcomes of KEY (R45). -/
def keyMore : Reply := replyOk (byte1 0)
def keyDiscarded : Reply := replyOk (byte1 3)
def keyQueued : Reply := replyOk (byte1 4)
def keyFollowOn : Reply := replyOk (byte1 5)

/-- The answer to a digit, formed after the decision has been handed over (R45). The class or the reason follows the outcome
with no presence or form byte (log 34). -/
def decisionReply (a : Analyser) : Reply :=
  match a.decision with
  | some (.accepted cls _ _) => replyOk (byte1 1 ++ byte1 (classByte cls))
  | some (.refused r) => replyOk (byte1 2 ++ byte1 (reasonByte r))
  | none => keyMore

/-- A digit keyed in CONNECTED or WARNING (R82). -/
def queueDigit (d : Nat) (s : State) : State × Reply :=
  if Config.afterDialPlaces ≤ s.call.afterDial.length then (s, refuseBusy)
  else (postTone { s with call := { s.call with afterDial := s.call.afterDial ++ [d] } }, keyQueued)

/-- A digit, by the call state (R45, R69). -/
def keyForDigit (d : Nat) (s : State) : State × Reply :=
  match s.call.state with
  | .collecting => (analyseDigit d s, decisionReply (analyseDigit d s).analyser)
  | .connected => queueDigit d s
  | .warning => queueDigit d s
  | .idle => (s, refuseState)
  | .settling => (s, refuseState)
  | .waitCoins => (s, keyDiscarded)
  | .waitLine => (s, keyDiscarded)
  | .connecting => (s, keyDiscarded)
  | .alerting => (s, keyDiscarded)
  | .refused => (s, keyDiscarded)
  | .clearing => (s, keyDiscarded)
  | .afterCall => (s, keyDiscarded)

/-- Abandoning an accepted number (R68). -/
def abandonNumber (s : State) : State :=
  let s := stopCallTimer s
  setCallState .collecting (startAnalysis { s with call := { s.call with acceptance := none } })

/-- CANCEL, by the call state (R46, R68, R69). -/
def keyForCancel (s : State) : State × Reply :=
  match s.call.state with
  | .collecting => (startAnalysis s, keyMore)
  | .waitCoins => (abandonNumber s, keyMore)
  | .waitLine => (abandonNumber (withdrawCustomerClaim s), keyMore)
  | .idle => (s, refuseState)
  | .connecting => (s, refuseState)
  | .alerting => (s, refuseState)
  | .connected => (s, refuseState)
  | .warning => (s, refuseState)
  | .clearing => (s, refuseState)
  | .afterCall => (s, refuseState)
  | .settling => (s, refuseState)
  | .refused => (s, refuseState)

def markFollowOn (s : State) : State := { s with call := { s.call with followOn := true } }

/-- FOLLOW_ON, by the call state (R46, R69, R80). -/
def keyForFollowOn (s : State) : State × Reply :=
  match s.call.state with
  | .connected => (enterClearing .answered (markFollowOn s), keyFollowOn)
  | .warning => (enterClearing .answered (markFollowOn s), keyFollowOn)
  | .clearing => if s.call.hangUp then (s, refuseState) else (markFollowOn s, keyFollowOn)
  | .afterCall =>
    if callTimerRuns .followOn s then (beginCarry (markFollowOn (stopCallTimer s)), keyFollowOn) else (s, refuseState)
  | .idle => (s, refuseState)
  | .collecting => (s, refuseState)
  | .waitCoins => (s, refuseState)
  | .waitLine => (s, refuseState)
  | .connecting => (s, refuseState)
  | .alerting => (s, refuseState)
  | .settling => (s, refuseState)
  | .refused => (s, refuseState)

/-- KEY by its key field: 0 to 11 digits, 12 FOLLOW_ON, 13 CANCEL (R46, R202). -/
def keyPressed (key : Nat) (s : State) : State × Reply :=
  if key ≤ 11 then keyForDigit key s
  else if key = 12 then keyForFollowOn s
  else if key = 13 then keyForCancel s
  else (s, refuseRange)

/-! ### The number plan -/

/-- The checks 2 to 5 of WRITE_PLAN (R48). With a non-empty prefix a flag that is neither 0 nor 1 is out of range too, the
model's choice (log 36); with an empty one it is not looked at. -/
def planFieldsValid (entry : Nat) (f : PlanFields) (plan : List PlanEntry) : Bool :=
  entry < 48 && f.digits.length ≤ 10 && f.digits.all (· ≤ 11)
    && (f.digits == [] ||
      (1 ≤ f.minLen && f.minLen ≤ 24 && f.minLen ≤ f.maxLen && f.maxLen ≤ 24 && f.digits.length ≤ f.maxLen
        && f.cls ≤ 7 && f.barred.isSome && f.emergency.isSome && f.noCoin.isSome && f.dialAtMin.isSome
        && (plan.eraseIdx entry).all (fun e => e.digits != f.digits)))

/-- The entry written: an empty prefix empties it (R48). -/
def planEntryOf (f : PlanFields) : PlanEntry :=
  if f.digits = [] then {}
  else { digits := f.digits, minLen := f.minLen, maxLen := f.maxLen, cls := (classOfNumber f.cls).getD .free
         barred := f.barred.getD false, emergency := f.emergency.getD false, noCoin := f.noCoin.getD false
         dialAtMin := f.dialAtMin.getD false }

def writePlan (entry : Nat) (f : PlanFields) (s : State) : State × Reply :=
  if s.call.state = .collecting ∨ s.call.state = .waitCoins then (s, refuseState)
  else if !planFieldsValid entry f s.cfg.plan then (s, refuseRange)
  else ({ s with cfg := { s.cfg with plan := s.cfg.plan.set entry (planEntryOf f) } }, replyOk [])

def planBytes (e : PlanEntry) : List Byte :=
  digitBytes e.digits ++ byte1 e.minLen ++ byte1 e.maxLen ++ byte1 (classByte e.cls) ++ flagByte e.barred
    ++ flagByte e.emergency ++ flagByte e.noCoin ++ flagByte e.dialAtMin

def readPlan (entry : Nat) (s : State) : State × Reply :=
  if entry < 48 then (s, replyOk (planBytes (s.cfg.plan.getD entry {}))) else (s, refuseRange)

def writeInterDigit (n : Nat) (s : State) : State × Reply :=
  if n < 2 || 30 < n then (s, refuseRange) else ({ s with cfg := { s.cfg with interDigit := n } }, replyOk [])

/-! ### The commands -/

/-- KEY with a digit (R45, R69, R82). -/
def execKeyDigit (p : Port) (key : Nat) (s : State) : Host.Outcome State Fault Refusal :=
  .next (takeRequest .key p (keyPressed key) s)

/-- KEY with CANCEL (R46, R68). -/
def execKeyCancel (p : Port) (s : State) : Host.Outcome State Fault Refusal :=
  .next (takeRequest .key p (keyPressed 13) s)

/-- KEY with FOLLOW_ON (R80). -/
def execKeyFollowOn (p : Port) (s : State) : Host.Outcome State Fault Refusal :=
  .next (takeRequest .key p (keyPressed 12) s)

/-- WRITE_PLAN (R48). -/
def execWritePlan (p : Port) (entry : Nat) (fields : PlanFields) (s : State) : Host.Outcome State Fault Refusal :=
  .next (takeRequest .writePlan p (writePlan entry fields) s)

/-- READ_PLAN (R49). -/
def execReadPlan (p : Port) (entry : Nat) (s : State) : Host.Outcome State Fault Refusal :=
  .next (takeRequest .readPlan p (readPlan entry) s)

/-- WRITE_SETTING 1 (R53). -/
def execWriteSettingInterDigit (p : Port) (seconds : Nat) (s : State) : Host.Outcome State Fault Refusal :=
  .next (takeRequest .writeSetting p (writeInterDigit seconds) s)

def digitTimerRuns (t : DigitTimer) (s : State) : Bool :=
  match s.analyser.timer with
  | some (x, _) => x == t
  | none => false

/-- The first-digit timer runs out (R52). -/
def execFirstDigitTimerExpiry (s : State) : Host.Outcome State Fault Refusal :=
  .next (whenAwake (fun s => if digitTimerRuns .firstDigit s then refuseNumber .empty s else s) s)

/-- The inter-digit timer runs out (R53). A key taken first stops the timer before it expires (R59): an expiry that has come
due runs in the step that finds it (Machine/Idle.lean) and none waits behind the key, so a command of it is the end of the
timer as it runs then (log 1). -/
def execInterDigitTimerExpiry (s : State) : Host.Outcome State Fault Refusal :=
  .next (whenAwake (fun s => if digitTimerRuns .interDigit s then interDigitEnds s else s) s)

end Sys2Proof.Machine
end

