-- ==== Sys2Proof/Machine/CallCtl.lean ====
section
/-! DEFINITION. The commands of the account unit and the call controller (R25 to R42, R61 to R88). -/

namespace Sys2Proof.Machine

open Sys2Proof

/-! ### Reading -/

/-- The account's state, with its stage or its pending CARRY (R42): a present field holds a form, 0 for a stage and
1 for CARRY (log 7). -/
def phaseBytes : AccountPhase → List Byte
  | .idle => byte1 0 ++ byte1 0
  | .opened false => byte1 1 ++ byte1 0
  | .opened true => byte1 1 ++ byte1 1 ++ byte1 1
  | .settling stage _ => byte1 2 ++ byte1 1 ++ byte1 0 ++ byte1 (stageByte stage)

def accountFields (s : State) : List Byte :=
  let a := s.account
  phaseBytes a.phase ++ byte2 a.d ++ byte2 a.k ++ byte2 a.e ++ byte2 a.b ++ byte2 a.r ++ byte2 a.c
    ++ byte2 (available a) ++ byte1 s.coin.escrow.length ++ byte2 (connectedDuration s)

/-- What the analyser shows of a decided number (R60): form 0 an acceptance, form 1 a refusal. -/
def decisionBytes : Decision → List Byte
  | .accepted cls metered deposit => byte1 0 ++ byte1 (classByte cls) ++ byte1 (meteredByte metered) ++ byte3 deposit
  | .refused r => byte1 1 ++ byte1 (reasonByte r)

/-- The one running timer of a call, with its remaining time (R60, R88). -/
def runningTimer (s : State) : Option (Nat × Nat) :=
  match s.analyser.timer, s.call.timer with
  | some (t, u), _ => some (digitTimerByte t, u - s.now)
  | none, some (t, u) => some (callTimerByte t, u - s.now)
  | none, none => none

/-- READ_CALL's fields (R88). The connected duration is sent in tenths (R202), ten for each of the whole seconds that R72
counts, in three bytes (log 34). -/
def callFields (s : State) : List Byte :=
  byte1 (callStateByte s.call.state) ++ byte1 (hookByte s.call.hook)
    ++ optionBytes (fun o => byte1 (outcomeByte o)) s.call.outcome
    ++ optionBytes (fun r => byte1 (reasonByte r)) s.call.reason
    ++ flagByte s.call.hangUp ++ flagByte s.call.followOn
    ++ byte1 (analysisByte s.analyser.state) ++ digitBytes s.analyser.buffer
    ++ optionBytes decisionBytes s.analyser.decision
    ++ optionBytes (fun (t : Nat × Nat) => byte1 t.1 ++ byte2 t.2) (runningTimer s)
    ++ byte3 (connectedDuration s * 10) ++ optionBytes byte1 s.call.bandAtAnswer
    ++ byte1 s.call.afterDial.length ++ flagByte (toneCurrent s.line)

/-- READ_ACCOUNT (R42). -/
def execReadAccount (p : Port) (s : State) : Host.Outcome State Fault Refusal :=
  .next (takeRequest .readAccount p (fun s => (s, replyOk (accountFields s))) s)

/-- READ_CALL (R88). -/
def execReadCall (p : Port) (s : State) : Host.Outcome State Fault Refusal :=
  .next (takeRequest .readCall p (fun s => (s, replyOk (callFields s))) s)

def writeRing (n : Nat) (s : State) : State × Reply :=
  if n < 30 || 300 < n then (s, refuseRange) else ({ s with cfg := { s.cfg with ring := n } }, replyOk [])

/-- WRITE_SETTING 2 (R71). -/
def execWriteSettingRing (p : Port) (seconds : Nat) (s : State) : Host.Outcome State Fault Refusal :=
  .next (takeRequest .writeSetting p (writeRing seconds) s)

/-! ### Carry and settlement -/

/-- The account after a completed carry (R40). -/
def carriedAccount (a : Account) : Account :=
  { phase := .opened false, k := a.e + a.b - a.c, e := a.e, b := a.b - a.c }

/-- CARRIED (R40, R81). -/
def carryCompletes (s : State) : State :=
  let f := figuresOf s.account
  let s := postCallRecord f none true { s with account := carriedAccount s.account }
  let s := { s with call := { s.call with
    outcome := none, reason := none, acceptance := none, startTime := timeOfDay s, duration := 0, connectedSince := none
    bandAtAnswer := none, steps := 0, followOn := false } }
  reportCredit (setCallState .collecting (startAnalysis s))

/-- The carry completes once n is 0 (R40; log 26). -/
def execCarryCompletes (s : State) : Host.Outcome State Fault Refusal :=
  .next (whenAwake (fun s => if s.account.phase = .opened true ∧ s.account.n = 0 then carryCompletes s else s) s)

/-- SETTLED (R37, R41, R84): the figures are handed over and the account becomes IDLE. -/
def settled (forRecovery : Bool) (s : State) : State :=
  let f := figuresOf s.account
  let s := { s with account := {} }
  if forRecovery then
    match s.supply.recovery with
    | some r => setRecovery { r with phase := .checking, figures := some f } s
    | none => s
  else finishCall f (f.b - f.c) s

/-- Nothing of a REFUND_ALL is left to do: the gate is free, the list empty, and an entry still queued could be
taken now (R8, R37). -/
def refundsOver (s : State) : Bool :=
  s.coin.gateOp.isNone && s.coin.escrow == [] && !s.coin.gateQueue.contains .collect
    && (!s.coin.gateQueue.contains .refundAll || gateMayStart s)

/-- The settlement ends at ESCROW_EMPTY (R37; log 23). -/
def settlementEnds (s : State) : State :=
  match s.account.phase with
  | .settling .refund forRecovery =>
    if refundsOver s then
      settled forRecovery
        { s with coin := { s.coin with gateQueue := s.coin.gateQueue.filter (· != .refundAll) } }
    else s
  | _ => s

def execSettlementEnds (s : State) : Host.Outcome State Fault Refusal := .next (whenAwake settlementEnds s)

/-! ### The hook -/

/-- The hook is watched: not before recovery has ended (R62). -/
def hookWatched (s : State) : Bool := awake s && !recovering s

/-- An off-hook event (R61, R62, R64, R85). -/
def offHookEvent (s : State) : State :=
  if s.call.hook = .stale then s
  else
    let s := { s with call := { s.call with hook := .off } }
    if s.call.restartEnd then s
    else match s.call.state with
      | .idle => beginCall s
      | .settling => { s with call := { s.call with heldOffHook := true } }
      | .clearing => if s.call.hangUp then { s with call := { s.call with heldOffHook := true } } else s
      | .collecting => s
      | .waitCoins => s
      | .waitLine => s
      | .connecting => s
      | .alerting => s
      | .connected => s
      | .warning => s
      | .afterCall => s
      | .refused => s

/-- A debounced change to off-hook: within the hold it only cancels the on-hook (R61). -/
def offHook (s : State) : State :=
  let t := { s with call := { s.call with hookInput := true, holdFrom := none } }
  if !hookWatched s || s.call.holdFrom.isSome || s.call.hookInput then t else offHookEvent t

def execOffHook (s : State) : Host.Outcome State Fault Refusal := .next (offHook s)

/-- The on-hook event (R61, R62, R76). -/
def onHook (s : State) : State :=
  if hookWatched s && s.call.holdFrom.isSome then
    hangUpCall { s with call := { s.call with hook := .on, holdFrom := none, heldOffHook := false } }
  else s

def execOnHook (s : State) : Host.Outcome State Fault Refusal := .next (onHook s)

/-- A debounced change to on-hook starts the hold of 0.6 s (R61). -/
def hookFalls (s : State) : State :=
  if hookWatched s && s.call.hookInput then { s with call := { s.call with hookInput := false, holdFrom := some s.now } }
  else { s with call := { s.call with hookInput := false } }

def execDebouncedChangeToOnHook (s : State) : Host.Outcome State Fault Refusal := .next (hookFalls s)

/-! ### Call timers -/

/-- A call refused by the call controller itself (R66, R67). -/
def refuseCall (r : Reason) (s : State) : State :=
  setCallState .refused (fixOutcome .refused (some r) (stopCallTimer s))

/-- The deposit timer runs out (R66). -/
def execDepositTimerExpiry (s : State) : Host.Outcome State Fault Refusal :=
  .next (whenAwake (fun s => if callTimerRuns .deposit s then refuseCall .noDeposit s else s) s)

/-- The line-wait timer runs out (R67). -/
def execLineWaitTimerExpiry (s : State) : Host.Outcome State Fault Refusal :=
  .next (whenAwake (fun s => if callTimerRuns .lineWait s then refuseCall .lineBusy (withdrawCustomerClaim s) else s) s)

/-- The ring timer runs out (R71). -/
def execRingTimerExpiry (s : State) : Host.Outcome State Fault Refusal :=
  .next (whenAwake (fun s => if callTimerRuns .ring s then enterClearing .unanswered s else s) s)

/-- The follow-on timer runs out (R79). -/
def execFollowOnTimerExpiry (s : State) : Host.Outcome State Fault Refusal :=
  .next (whenAwake (fun s => if callTimerRuns .followOn s then stopCallTimer s else s) s)

end Sys2Proof.Machine
end

