-- ==== Sys2Proof/Machine/Tariff.lean ====
section
/-! DEFINITION. The commands of the tariff unit (R89 to R112). -/

namespace Sys2Proof.Machine

open Sys2Proof

/-! ### Banks -/

/-- The first step period: 0, or in the range of the step period (R89). -/
def firstPeriodValid (n : Nat) : Bool := n == 0 || (10 ≤ n && n ≤ 36000)

/-- Every field in its range, durations in tenths (R89, R91). -/
def tariffFieldsValid (f : TariffFields) : Bool :=
  f.connection ≤ 65535 && 1 ≤ f.step && f.step ≤ 65535 && 10 ≤ f.period && f.period ≤ 36000
    && firstPeriodValid f.firstPeriod && f.free ≤ 6000 && f.free % 10 == 0 && f.source.isSome
    && 50 ≤ f.lead && f.lead ≤ 600 && f.lead % 10 == 0

def tariffEntryOf (f : TariffFields) : TariffEntry :=
  { connection := f.connection, step := f.step, period := f.period, firstPeriod := f.firstPeriod, free := f.free
    source := f.source.getD .localSteps, lead := f.lead }

/-- A taken WRITE_TARIFF cancels the schedule (R91). -/
def cancelSchedule (s : State) : State :=
  match scheduledTime s.tariff.schedule with
  | none => s
  | some t => postNotice .activationCancelled (timeBytes t) { s with tariff := { s.tariff with schedule := .none } }

def setPending (cls band : Nat) (e : Option TariffEntry) (s : State) : State :=
  let row := s.tariff.pendingBank.getD cls []
  { s with tariff := { s.tariff with pendingBank := s.tariff.pendingBank.set cls (row.set band e) } }

/-- The fields carried are in range; CLEAR carries none (R91). -/
def entryValid : Option TariffFields → Bool
  | none => true
  | some f => tariffFieldsValid f

def writeTariff (cls band : Nat) (entry : Option TariffFields) (s : State) : State × Reply :=
  if 7 < cls || 3 < band || !entryValid entry then (s, refuseRange)
  else (cancelSchedule (setPending cls band (entry.map tariffEntryOf) s), replyOk [])

def entryBytes (e : TariffEntry) : List Byte :=
  byte2 e.connection ++ byte2 e.step ++ byte2 e.period ++ byte2 e.firstPeriod ++ byte2 e.free
    ++ byte1 (sourceByte e.source) ++ byte2 e.lead

/-- Form 0 the fields of the entry, form 1 the mark ABSENT (R92, R202). -/
def entryForm : Option TariffEntry → List Byte
  | some e => byte1 0 ++ entryBytes e
  | none => byte1 1

def bankEntry (b : Bank) (cls band : Nat) (s : State) : Option TariffEntry :=
  match b with
  | .active => some (rowEntry (s.cfg.bank.getD cls []) band)
  | .pending => (s.tariff.pendingBank.getD cls []).getD band none

/-- The schedule's state and time (R92, R99). -/
def scheduleByte : Schedule → Nat
  | .none => 0 | .scheduled _ => 1 | .waitingClock _ => 2

def scheduleBytes (x : Schedule) : List Byte := byte1 (scheduleByte x) ++ optionBytes timeBytes (scheduledTime x)

def readTariff (b : Option Bank) (cls band : Nat) (s : State) : State × Reply :=
  match b with
  | none => (s, refuseRange)
  | some b =>
    if 7 < cls || 3 < band then (s, refuseRange)
    else (s, replyOk (entryForm (bankEntry b cls band s) ++ byte2 s.cfg.generation ++ scheduleBytes s.tariff.schedule))

/-- Every PENDING entry is absent (R93). -/
def pendingEmpty (t : Tariff) : Bool := t.pendingBank.all (fun row => row.all (·.isNone))

/-- ACTIVATE_TARIFF for a time (R93). -/
def scheduleActivation (t : DateTime) (s : State) : State × Reply :=
  if clockReached t s then
    (activate .now s, replyOk (byte1 0 ++ optionBytes byte2 (some (activate .now s).cfg.generation)))
  else
    let x := if s.tariff.clock.isSome then Schedule.scheduled t else .waitingClock t
    ({ s with tariff := { s.tariff with schedule := x } }, replyOk (byte1 (scheduleByte x) ++ byte1 0))

/-- ACTIVATE_TARIFF (R93). No form byte goes before either answer (log 34). -/
def activateTariff (time : Option DateTime) (s : State) : State × Reply :=
  match time with
  | none =>
    if pendingEmpty s.tariff then (s, refuseState)
    else (activate .now s, replyOk (byte2 (activate .now s).cfg.generation))
  | some t =>
    if !timeValid t then (s, refuseRange)
    else if pendingEmpty s.tariff then (s, refuseState)
    else scheduleActivation t s

/-! ### Clock and calendar -/

def setClock (t : DateTime) (s : State) : State × Reply :=
  if !timeValid t then (s, refuseRange)
  else (compareSchedule { s with tariff := { s.tariff with clock := some ⟨t, 0⟩ } }, replyOk [])

def dayTypeByte : DayType → Nat
  | .weekday => 0 | .saturday => 1 | .sunday => 2

def clockStateByte (t : Tariff) : Nat := if t.clock.isSome then 0 else 1

/-- READ_CLOCK's fields (R99); the weekday counts from Monday 0. Date, time, tenth and weekday stand behind one presence
byte, the tenth in a byte of its own after the seven of the time; R202 says neither (log 34). -/
def clockFields (s : State) : List Byte :=
  byte1 (clockStateByte s.tariff)
    ++ optionBytes (fun (c : ClockTime) => timeBytes c.time ++ byte1 c.tenth ++ byte1 (weekday (dateOf c.time))) s.tariff.clock
    ++ optionBytes (fun (c : ClockTime) => byte1 (dayTypeByte (dayTypeOf s.cfg (dateOf c.time)))) s.tariff.clock
    ++ byte1 (bandInForce s) ++ scheduleBytes s.tariff.schedule

/-- The minutes strictly increase from one point to the next (R100). -/
def minutesRise : List (Nat × Nat) → Bool
  | [] => true
  | [_] => true
  | a :: b :: rest => a.1 < b.1 && minutesRise (b :: rest)

/-- A band schedule that may be written (R100, R102). -/
def pointsValid (points : List (Nat × Nat)) : Bool :=
  1 ≤ points.length && points.length ≤ 6 && points.all (fun p => p.1 ≤ 1439 && p.2 ≤ 3) && minutesRise points
    && (points.head?.map (·.1)) == some 0

def setSchedule (d : DayType) (points : List SwitchPoint) (cfg : Configuration) : Configuration :=
  match d with
  | .weekday => { cfg with weekday := points }
  | .saturday => { cfg with saturday := points }
  | .sunday => { cfg with sunday := points }

def writeDayType (day : Option DayType) (points : List (Nat × Nat)) (s : State) : State × Reply :=
  match day with
  | none => (s, refuseRange)
  | some d =>
    if pointsValid points then
      ({ s with cfg := setSchedule d (points.map (fun p => ⟨p.1, p.2⟩)) s.cfg }, replyOk [])
    else (s, refuseRange)

/-- A date that may be written into a slot: valid, and in no other slot (R102). -/
def holidayValid (slot : Nat) (d : Date) (cfg : Configuration) : Bool :=
  dateValid d && !(cfg.holidays.eraseIdx slot).contains (some d)

def writeHoliday (slot : Nat) (date : Option Date) (s : State) : State × Reply :=
  if 19 < slot then (s, refuseRange)
  else match date with
    | none => ({ s with cfg := { s.cfg with holidays := s.cfg.holidays.set slot none } }, replyOk [])
    | some d =>
      if holidayValid slot d s.cfg then
        ({ s with cfg := { s.cfg with holidays := s.cfg.holidays.set slot (some d) } }, replyOk [])
      else (s, refuseRange)

/-! ### The commands -/

/-- WRITE_TARIFF (R91). -/
def execWriteTariff (p : Port) (cls band : Nat) (entry : Option TariffFields) (s : State) :
    Host.Outcome State Fault Refusal :=
  .next (takeRequest .writeTariff p (writeTariff cls band entry) s)

/-- READ_TARIFF (R92). -/
def execReadTariff (p : Port) (bank : Option Bank) (cls band : Nat) (s : State) : Host.Outcome State Fault Refusal :=
  .next (takeRequest .readTariff p (readTariff bank cls band) s)

/-- ACTIVATE_TARIFF (R93). -/
def execActivateTariff (p : Port) (time : Option DateTime) (s : State) : Host.Outcome State Fault Refusal :=
  .next (takeRequest .activateTariff p (activateTariff time) s)

/-- SET_CLOCK (R98). -/
def execSetClock (p : Port) (time : DateTime) (s : State) : Host.Outcome State Fault Refusal :=
  .next (takeRequest .setClock p (setClock time) s)

/-- READ_CLOCK (R99). -/
def execReadClock (p : Port) (s : State) : Host.Outcome State Fault Refusal :=
  .next (takeRequest .readClock p (fun s => (s, replyOk (clockFields s))) s)

/-- WRITE_CALENDAR, day type form (R102). -/
def execWriteCalendarDayType (p : Port) (day : Option DayType) (points : List (Nat × Nat)) (s : State) :
    Host.Outcome State Fault Refusal :=
  .next (takeRequest .writeCalendar p (writeDayType day points) s)

/-- WRITE_CALENDAR, holiday form (R102). -/
def execWriteCalendarHoliday (p : Port) (slot : Nat) (date : Option Date) (s : State) :
    Host.Outcome State Fault Refusal :=
  .next (takeRequest .writeCalendar p (writeHoliday slot date) s)

/-- A period of a LOCAL call runs (R103). -/
def periodRuns (m : Metering) : Bool :=
  m.periodUntil.isSome && (m.state == .freeInterval || m.state == .stepping)

/-- A step falls due (R106). -/
def execStepFallsDue (s : State) : Host.Outcome State Fault Refusal :=
  .next (whenAwake (fun s =>
    if periodRuns s.tariff.meter then stepDue (s.tariff.meter.state == .freeInterval) s else s) s)

/-- The warning point of the present period (R107). -/
def execWarningPoint (s : State) : Host.Outcome State Fault Refusal :=
  .next (whenAwake (fun s =>
    if periodRuns s.tariff.meter && !s.tariff.meter.warnPassed then warningPoint s else s) s)

/-- The clock reaches the scheduled time (R95). The event stands for that moment: the calendar clock is not looked at
again (log 1). -/
def execScheduledActivationDue (s : State) : Host.Outcome State Fault Refusal :=
  .next (whenAwake (fun s => match s.tariff.schedule with
    | .scheduled _ => activate .scheduled s
    | .none => s
    | .waitingClock _ => s) s)

/-- A schedule waits for a clock that has become UNSET (R95). -/
def scheduleWithoutClock : Schedule → Schedule
  | .scheduled t => .waitingClock t
  | .none => .none
  | .waitingClock t => .waitingClock t

/-- The clock passes the end of 2099 (R95, R97). -/
def clockEnds (s : State) : State :=
  if s.tariff.clock.isNone then s
  else postNotice .clockUnset []
    { s with tariff := { s.tariff with clock := none, schedule := scheduleWithoutClock s.tariff.schedule } }

/-- The clock becomes UNSET (R97); the event stands for the tick that passes 2099 (log 1). -/
def execClockBecomesUnset (s : State) : Host.Outcome State Fault Refusal := .next (whenAwake clockEnds s)

end Sys2Proof.Machine
end

