-- ==== Sys2Proof/Machine/LineCtl.lean ====
section
/-! DEFINITION. The commands of the line allocator (R113 to R128), with the line events it passes to the call
controller (R71, R73, R75, R109). -/

namespace Sys2Proof.Machine

open Sys2Proof

/-! ### Orders -/

/-- One item of a batch as FETCH_ORDER gives it (R119, R121); a time that is "unset" is sent as an absent field, the
model's choice (log 34). -/
def itemBytes (i : BatchItem) : List Byte :=
  byte1 i.source ++ byte1 (severityByte i.severity) ++ byte1 i.count ++ optionBytes timeBytes i.first
    ++ optionBytes timeBytes i.last

/-- The fields of an order by kind; a batch is given by the number of its items (R119, R121). The one digit of a TONE is sent
as a byte with no count, and the fields come right behind kind, number and owner, with no form byte for the kind: the model's
choices (log 34). -/
def bodyBytes : OrderBody → List Byte
  | .connect ds cls => digitBytes ds ++ byte1 (classByte cls)
  | .tone d => byte1 d
  | .release => []
  | .report centre terminal batch => digitBytes centre ++ digitBytes terminal ++ byte1 batch.length
  | .abort _ => []

/-- The batch of a REPORT order. -/
def bodyBatch : OrderBody → List BatchItem
  | .report _ _ batch => batch
  | .connect _ _ => []
  | .tone _ => []
  | .release => []
  | .abort _ => []

def orderHead (o : Order) : List Byte := byte1 (orderKindByte (orderKind o.body)) ++ byte1 o.number

/-- Form 0 the order, form 1 an item, form 2 EMPTY (R121, R202); none where the batch has no such item. -/
def orderPart (part : Nat) (o : Order) : Option (List Byte) :=
  if part = 0 then some (byte1 0 ++ orderHead o ++ byte1 (ownerByte o.owner) ++ bodyBytes o.body)
  else ((bodyBatch o.body)[part - 1]?).map (fun i => byte1 1 ++ orderHead o ++ itemBytes i)

/-- FETCH_ORDER (R121). That a part above 16 is answered REFUSED_RANGE with the slot EMPTY too, of which R121 also says
'EMPTY, whatever the part', is the model's choice (log 37). -/
def fetchOrder (part : Nat) (s : State) : State × Reply :=
  if 16 < part then (s, refuseRange)
  else match s.line.slot with
    | none => (s, replyOk (byte1 2))
    | some o => match orderPart part o with
      | none => (s, refuseRange)
      | some fields => ({ s with line := { s.line with slot := some { o with taken := true } } }, replyOk fields)

/-- Checks 2 and 3 of ORDER_DONE, then the order's end (R122). -/
def completeOrder (kind : OrderKind) (number : Nat) (outcome : OrderOutcome) (s : State) : State × Reply :=
  match s.line.slot with
  | none => (s, refuseState)
  | some o =>
    if orderKind o.body ≠ kind ∨ o.number ≠ number ∨ o.taken = false then (s, refuseState)
    else (endOrder o.body outcome s, replyOk [])

def orderDone (kind : Option OrderKind) (number : Nat) (outcome : Option OrderOutcome) (s : State) : State × Reply :=
  match kind, outcome with
  | some k, some o => if (outcomesOf k).contains o then completeOrder k number o s else (s, refuseRange)
  | _, _ => (s, refuseRange)

/-! ### Line events -/

/-- A call event passed to the call controller while the owner is CUSTOMER, and taken where it fits (R73, R126). -/
def callEvent (fits : CallState → Bool) (effect : State → State) (s : State) : State × Reply :=
  if s.line.owner == .customer && fits s.call.state then (effect s, replyOk []) else (s, refuseState)

/-- ANSWER in ALERTING (R71): CONNECTED, the band at answer, the duration, and metering of a METERED acceptance. -/
def answerCall (s : State) : State :=
  let s := setCallState .connected (stopCallTimer s)
  let s := { s with call := { s.call with bandAtAnswer := some (bandInForce s), connectedSince := some s.now, duration := 0 } }
  match s.call.acceptance.bind (·.row) with
  | some row => startMetering row s
  | none => s

def isAlerting (x : CallState) : Bool := x == .alerting

/-- LINE_LOST (R124). -/
def lineLost (s : State) : State :=
  if s.line.owner = .nobody then raise srcLineFault .lineAllocator s
  else failOwnership .lineLost (raise srcLineFault .lineAllocator s)

/-- An order past its limit (R123). -/
def orderLimitEnds (s : State) : State :=
  if s.line.slot.isNone then s else failOwnership .failed (raise srcLineFault .lineAllocator s)

/-! ### Centre sessions -/

def claimCentre (s : State) : State × Reply :=
  if s.line.owner = .nobody ∧ s.line.waitingCustomer = none ∧ s.line.waitingReport = none then
    (setOwner .centre { s with line := { s.line with centreUntil := some (s.now + Config.centreSession) } }, replyOk [])
  else (s, refuseBusy)

def endCentre (s : State) : State × Reply :=
  if s.line.owner = .centre then (handOn (endCentreSession .ended (freeLine s)), replyOk []) else (s, refuseState)

/-- The centre session timer runs out (R128). -/
def centreSessionEnds (s : State) : State :=
  if s.line.centreUntil.isSome && s.line.owner == .centre then
    postOrder .centre (.abort true) { s with line := { s.line with centreUntil := none } }
  else s

/-! ### The commands -/

/-- FETCH_ORDER (R121). -/
def execFetchOrder (p : Port) (part : Nat) (s : State) : Host.Outcome State Fault Refusal :=
  .next (takeRequest .fetchOrder p (fetchOrder part) s)

/-- ORDER_DONE (R122). -/
def execOrderDone (p : Port) (kind : Option OrderKind) (number : Nat) (outcome : Option OrderOutcome) (s : State) :
    Host.Outcome State Fault Refusal :=
  .next (takeRequest .orderDone p (orderDone kind number outcome) s)

/-- LINE_EVENT ANSWER (R71). -/
def execAnswer (p : Port) (s : State) : Host.Outcome State Fault Refusal :=
  .next (takeRequest .lineEvent p (callEvent isAlerting answerCall) s)

/-- LINE_EVENT BUSY (R71). -/
def execBusy (p : Port) (s : State) : Host.Outcome State Fault Refusal :=
  .next (takeRequest .lineEvent p (callEvent isAlerting (enterClearing .busy)) s)

/-- LINE_EVENT FAR_CLEAR (R75). -/
def execFarClear (p : Port) (s : State) : Host.Outcome State Fault Refusal :=
  .next (takeRequest .lineEvent p (callEvent answered (enterClearing .answered)) s)

/-- LINE_EVENT METER_PULSE (R109). -/
def execMeterPulse (p : Port) (s : State) : Host.Outcome State Fault Refusal :=
  .next (takeRequest .lineEvent p (callEvent answered meterPulse) s)

/-- LINE_EVENT LINE_LOST (R124). -/
def execLineLost (p : Port) (s : State) : Host.Outcome State Fault Refusal :=
  .next (takeRequest .lineEvent p (fun s => (lineLost s, replyOk [])) s)

/-- LINE_EVENT LINE_RESTORED (R125). -/
def execLineRestored (p : Port) (s : State) : Host.Outcome State Fault Refusal :=
  .next (takeRequest .lineEvent p (fun s => (autoClear srcLineFault (settleWaiting s), replyOk [])) s)

/-- CLAIM_CENTRE (R127). -/
def execClaimCentre (p : Port) (s : State) : Host.Outcome State Fault Refusal :=
  .next (takeRequest .claimCentre p claimCentre s)

/-- END_CENTRE (R128). -/
def execEndCentre (p : Port) (s : State) : Host.Outcome State Fault Refusal :=
  .next (takeRequest .endCentre p endCentre s)

/-- The limit of the current order runs out (R123). -/
def execOrderLimitExpiry (s : State) : Host.Outcome State Fault Refusal := .next (whenAwake orderLimitEnds s)

/-- The centre session timer runs out (R128). -/
def execCentreSessionExpiry (s : State) : Host.Outcome State Fault Refusal := .next (whenAwake centreSessionEnds s)

end Sys2Proof.Machine
end

