-- ==== Sys2Proof/Machine/AlarmCtl.lean ====
section
/-! DEFINITION. The commands of the alarm unit (R130 to R148) and of the report unit (R150, R163, R164). -/

namespace Sys2Proof.Machine

open Sys2Proof

/-! ### Setups -/

def setSourceSetup (i : Nat) (x : SourceSetup) (s : State) : State :=
  { s with cfg := { s.cfg with sources := s.cfg.sources.set i x } }

/-- The source form of WRITE_ALARM_SETUP (R135). -/
def writeSourceSetup (i : Nat) (severity : Option Severity) (mask : Option Bool) (effect : Option Effect) (s : State) :
    State × Reply :=
  match severity, mask, effect with
  | some sev, some m, some e =>
    if 15 < i then (s, refuseRange) else (weigh (deriveService (setSourceSetup i ⟨sev, m, e⟩ s)), replyOk [])
  | _, _, _ => (s, refuseRange)

/-- The sensor form of WRITE_ALARM_SETUP (R136); the window comes in tenths (R202) and is kept in whole seconds (R131).
One that is no whole number of seconds is refused as out of range, the model's choice (log 34). -/
def writeSensorSetup (i : Nat) (mode : Option SensorMode) (threshold window : Nat) (s : State) : State × Reply :=
  match mode with
  | none => (s, refuseRange)
  | some m =>
    if 7 < i || threshold < 1 || 15 < threshold || window < 10 || 2550 < window || window % 10 != 0 then (s, refuseRange)
    else (clearSensor i { s with cfg := { s.cfg with sensors := s.cfg.sensors.set i ⟨m, threshold, window / 10⟩ } }, replyOk [])

/-! ### Reading -/

def sourceBytes (i : Nat) (s : State) : List Byte :=
  let e := alarmEntry s.alarm i
  let x := sourceSetup s.cfg i
  byte1 i ++ byte1 (severityByte x.severity) ++ flagByte x.masked ++ byte1 (effectByte x.effect)
    ++ byte1 (alarmStateByte e.state) ++ byte1 e.count ++ optionBytes timeBytes e.first ++ optionBytes timeBytes e.last
    ++ flagByte e.reRaised ++ flagByte e.clearPending

/-- The source form of READ_ALARMS (R147); no form byte goes before either form's answer (log 34). -/
def readSources (first count : Nat) (s : State) : State × Reply :=
  if 15 < first || count < 1 || 3 < count then (s, refuseRange)
  else (s, replyOk (byte1 (serviceByte s.alarm.service)
    ++ (((List.range 16).drop first).take count).flatMap (fun i => sourceBytes i s)))

/-- High 0, low 1, none 2 (R148; log 7). -/
def activeLevelByte : Option Bool → Nat
  | some true => 0 | some false => 1 | none => 2

/-- One sensor of READ_ALARMS (R148); the hit window goes out in tenths (R202). The debounced level goes out as a flag, low 0
and high 1, while the active level is a named value; the manual numbers no low and high of its own (log 34). -/
def sensorBytes (i : Nat) (s : State) : List Byte :=
  let x := sensorSetup s.cfg i
  let v := sensorState s.alarm i
  byte1 (modeByte x.mode) ++ byte1 x.threshold ++ byte2 (x.window * 10) ++ flagByte v.level
    ++ byte1 (activeLevelByte (activeLevel s i)) ++ byte1 v.hits.length
    ++ (if i = 0 then flagByte (collectionCondition s) else [])

/-- The sensor form of READ_ALARMS (R148), with no form byte before its answer (log 34). -/
def sensorFields (s : State) : List Byte := (List.range 8).flatMap (fun i => sensorBytes i s)

/-! ### Clearing by hand -/

/-- The origin of a clear asked at a port (R144). -/
def clearOrigin : Port → Origin
  | .line => .linePort
  | .service => .servicePort
  | .set => .linePort

/-- Check 3 and check 4 of CLEAR_ALARM (R143). -/
def clearHeldBack (i : Nat) (s : State) : Bool :=
  (i < 8 && atActiveLevel s i) || (i == srcBoxFull && s.cfg.capacity ≤ s.coin.tally.coins)

/-- The clear itself, once the store's waiting work has gone ahead; that work may have cleared STORE or made a report
claim, so the source's state is looked at again (R142, R143; log 14). -/
def clearByHand (p : Port) (i : Nat) (s : State) : State × Reply :=
  match (alarmEntry s.alarm i).state with
  | .quiet => (s, replyOk (byte1 0))
  | .reporting => (s, refuseState)
  | .raised => (clearSource i (clearOrigin p) s, replyOk (byte1 1 ++ byte1 (alarmEntry s.alarm i).count))
  | .reported => (clearSource i (clearOrigin p) s, replyOk (byte1 1 ++ byte1 (alarmEntry s.alarm i).count))

/-- CLEAR_ALARM (R143): ALREADY_QUIET 0, CLEARED 1 with the count behind it, no presence or form byte between (log 34). -/
def clearAlarm (p : Port) (i : Nat) (s : State) : State × Reply :=
  if 15 < i then (s, refuseRange)
  else if (alarmEntry s.alarm i).state = .reporting then (s, refuseState)
  else if clearHeldBack i s then (s, refuseState)
  else if (alarmEntry s.alarm i).state = .quiet then (s, replyOk (byte1 0))
  else clearByHand p i (settleWaiting s)

/-! ### Sensor edges -/

def setSensor (i : Nat) (v : Sensor) (s : State) : State :=
  { s with alarm := { s.alarm with sensors := s.alarm.sensors.set i v } }

/-- Which edges qualify; none of the box door's in its collection condition (R131, R133). -/
def edgeQualifies (i : Nat) (high : Bool) (s : State) : Bool :=
  !(i == srcBoxDoor && collectionCondition s) && (match (sensorSetup s.cfg i).mode with
    | .disabled => false
    | .rising => high
    | .falling => !high
    | .both => true)

/-- A history of up to fifteen times, its oldest dropped to make room (R132). -/
def appendHit (t : Nat) (hits : List Nat) : List Nat :=
  (if Config.hitPlaces ≤ hits.length then hits.tail else hits) ++ [t]

/-- The test of a history: threshold-many hits, the oldest of them no more than the window before the newest
(R132). -/
def thresholdMet (setup : SensorSetup) (now : Nat) (hits : List Nat) : Bool :=
  setup.threshold ≤ hits.length && now ≤ hits.getD (hits.length - setup.threshold) 0 + setup.window * 10

/-- An edge of a sensor (R130 to R132). -/
def sensorEdge (i : Nat) (high : Bool) (s : State) : State :=
  let v := sensorState s.alarm i
  if 7 < i || v.level == high then s
  else
    let t := setSensor i { v with level := high } s
    if !edgeQualifies i high s then t
    else
      let hits := appendHit s.now v.hits
      if thresholdMet (sensorSetup s.cfg i) s.now hits then
        raise i .sensor (setSensor i
          { v with level := high, hits := []
                   raisedLevel := if (sensorSetup s.cfg i).mode = .both then some high else v.raisedLevel } s)
      else setSensor i { v with level := high, hits := hits } s

/-! ### The commands of the alarm unit -/

/-- WRITE_ALARM_SETUP, source form (R135). -/
def execWriteAlarmSetupSource (p : Port) (source : Nat) (severity : Option Severity) (mask : Option Bool)
    (effect : Option Effect) (s : State) : Host.Outcome State Fault Refusal :=
  .next (takeRequest .writeAlarmSetup p (writeSourceSetup source severity mask effect) s)

/-- WRITE_ALARM_SETUP, sensor form (R136). -/
def execWriteAlarmSetupSensor (p : Port) (sensor : Nat) (mode : Option SensorMode) (threshold window : Nat) (s : State) :
    Host.Outcome State Fault Refusal :=
  .next (takeRequest .writeAlarmSetup p (writeSensorSetup sensor mode threshold window) s)

/-- READ_ALARMS, source form (R147). -/
def execReadAlarmsSource (p : Port) (first count : Nat) (s : State) : Host.Outcome State Fault Refusal :=
  .next (takeRequest .readAlarms p (readSources first count) s)

/-- READ_ALARMS, sensor form (R148). -/
def execReadAlarmsSensor (p : Port) (s : State) : Host.Outcome State Fault Refusal :=
  .next (takeRequest .readAlarms p (fun s => (s, replyOk (sensorFields s))) s)

/-- CLEAR_ALARM (R143). -/
def execClearAlarm (p : Port) (source : Nat) (s : State) : Host.Outcome State Fault Refusal :=
  .next (takeRequest .clearAlarm p (clearAlarm p source) s)

/-- An edge of a tamper sensor (R132). -/
def execSensorEdge (sensor : Nat) (high : Bool) (s : State) : Host.Outcome State Fault Refusal :=
  .next (whenAwake (sensorEdge sensor high) s)

/-! ### The report unit -/

/-- A centre number: up to sixteen of the twelve digits (R150). -/
def centreValid (n : Digits) : Bool := n.length ≤ 16 && n.all (· ≤ 11)

def writeThreshold (t : Option Severity) (s : State) : State × Reply :=
  match t with
  | none => (s, refuseRange)
  | some t => (weigh { s with cfg := { s.cfg with threshold := t } }, replyOk [])

def writePriority (m : Option PriorityMode) (s : State) : State × Reply :=
  match m with
  | none => (s, refuseRange)
  | some m => (weigh { s with cfg := { s.cfg with priority := m } }, replyOk [])

def writePrimary (n : Digits) (s : State) : State × Reply :=
  if centreValid n then (weigh { s with cfg := { s.cfg with primary := n } }, replyOk []) else (s, refuseRange)

def writeFallback (n : Digits) (s : State) : State × Reply :=
  if centreValid n then (weigh { s with cfg := { s.cfg with fallback := n } }, replyOk []) else (s, refuseRange)

/-- The acknowledged move and the reported mark of each source that is RAISED, with the sources taken (R164). A refused mark
raises STORE, with the weighing of that raising, before the next source is looked at: the model's choice (log 43). -/
def ackSources : List Nat → State → State × List Nat
  | [], s => (s, [])
  | i :: rest, s =>
    match moveSource .acknowledged i s with
    | none => ackSources rest s
    | some s' =>
      let r := ackSources rest (postReportedMark (alarmEntry s.alarm i).latest s')
      (r.1, i :: r.2)

/-- The listed sources in rising order, each once (R164). -/
def listedSources (listed : List Nat) : List Nat := (List.range 16).filter listed.contains

/-- ACK_ALARMS (R164). Neither the list carried nor the list answered has a count byte: it runs to the end of the fields
(log 34). -/
def ackAlarms (listed : List Nat) (s : State) : State × Reply :=
  if listed = [] ∨ 16 < listed.length ∨ listed.any (15 < ·) then (s, refuseRange)
  else
    let r := ackSources (listedSources listed) s
    (weigh r.1, replyOk (r.2.flatMap byte1))

/-- The backoff timer runs out (R163). -/
def backoffEnds (s : State) : State :=
  if s.report.state = .backoff then weigh { s with report := { s.report with state := .standby, backoffUntil := none } }
  else s

/-- WRITE_SETTING 5 (R150). -/
def execWriteSettingReportThreshold (p : Port) (threshold : Option Severity) (s : State) :
    Host.Outcome State Fault Refusal :=
  .next (takeRequest .writeSetting p (writeThreshold threshold) s)

/-- WRITE_SETTING 6 (R150). -/
def execWriteSettingPriorityMode (p : Port) (mode : Option PriorityMode) (s : State) :
    Host.Outcome State Fault Refusal :=
  .next (takeRequest .writeSetting p (writePriority mode) s)

/-- WRITE_SETTING 7 (R150). -/
def execWriteSettingPrimaryCentre (p : Port) (number : Digits) (s : State) : Host.Outcome State Fault Refusal :=
  .next (takeRequest .writeSetting p (writePrimary number) s)

/-- WRITE_SETTING 8 (R150). -/
def execWriteSettingFallbackCentre (p : Port) (number : Digits) (s : State) : Host.Outcome State Fault Refusal :=
  .next (takeRequest .writeSetting p (writeFallback number) s)

/-- ACK_ALARMS (R164). -/
def execAckAlarms (p : Port) (sources : List Nat) (s : State) : Host.Outcome State Fault Refusal :=
  .next (takeRequest .ackAlarms p (ackAlarms sources) s)

/-- The backoff timer runs out (R163). -/
def execBackoffExpiry (s : State) : Host.Outcome State Fault Refusal := .next (whenAwake backoffEnds s)

end Sys2Proof.Machine
end

