-- ==== Sys2Proof/Machine/StoreCtl.lean ====
section
/-! DEFINITION. The commands of the record store (R166 to R185). -/

namespace Sys2Proof.Machine

open Sys2Proof

/-! ### Reading and acknowledging -/

/-- READ_RECORDS (R170, R176): at once where the array is free, else the slot is NOT_READY. -/
def readRecords (ring : Option Ring) (offset count : Nat) (s : State) : State × Reply :=
  match ring with
  | none => (s, refuseRange)
  | some r =>
    if 3071 < offset || count < 1 || 4 < count then (s, refuseRange)
    else if readable s.store then
      ({ s with store := afterRead s.store }, replyOk (recordsFields r offset count s.store))
    else ({ s with store := { s.store with read := some ⟨r, offset, count⟩ } }, none)

/-- A waiting read is made and its response formed in the line port's slot (R170, R204). -/
def readReady (s : State) : State :=
  match s.store.read with
  | none => s
  | some w =>
    if readable s.store then
      answerPort .line (replyOk (recordsFields w.ring w.offset w.count s.store)) { s with store := afterRead s.store }
    else s

/-- Posting the acknowledged mark of the newest record acknowledged, and moving the upload mark past it (R177). -/
def acknowledge (r : Ring) (position : Nat) (place : Place) (st : Store) : Option Store :=
  (enqueue (.mark place .acknowledged) st).map (fun st' => setRing r { ringOf st' r with upload := position + 1 } st')

/-- ACK_RECORDS (R177). -/
def ackRecords (ring : Option Ring) (count : Nat) (s : State) : State × Reply :=
  match ring with
  | none => (s, refuseRange)
  | some r =>
    if count < 1 || 3072 < count then (s, refuseRange)
    else match (ringPresent r s.store)[count - 1]? with
      | none => (s, refuseRange)
      | some x =>
        let s := settleWaiting s
        match acknowledge r x.1 x.2.1 s.store with
        | none => (s, refuseBusy)
        | some st => ({ s with store := st }, replyOk (byte2 (ringPresent r st).length))

def commitConfig (s : State) : State × Reply :=
  if (postCommit s).2 then ((postCommit s).1, replyAccepted) else ((postCommit s).1, refuseBusy)

/-! ### The identity -/

/-- A terminal number of up to sixteen digits 0 to 9, and a site code in range (R182). -/
def identityValid (terminal : Digits) (site : Nat) : Bool :=
  terminal.length ≤ 16 && terminal.all (· ≤ 9) && site ≤ 65535

/-- The operations of a WRITE_IDENTITY and the place of its record: the next blank place of sector 0, or an erase
of the sector and place 0 (R182). -/
def identityOps (terminal : Digits) (site : Nat) (st : Store) : List StoreOp × Nat :=
  if st.identity.next < identityPlaces then
    ([.record ⟨0, st.identity.next, 0⟩ (.identity terminal site)], st.identity.next)
  else ([.erase 0 0, .record ⟨0, 0, 0⟩ (.identity terminal site)], 0)

/-- WRITE_IDENTITY (R182). That a field out of range is answered ahead of an identity that is LOCKING or LOCKED is the model's
choice (log 37). -/
def writeIdentity (terminal : Digits) (site : Nat) (s : State) : State × Reply :=
  if !identityValid terminal site then (s, refuseRange)
  else if s.store.identity.lock ≠ .unlocked then (s, refuseState)
  else
    let s := settleWaiting s
    let ops := identityOps terminal site s.store
    if queueUsed s.store + ops.1.length ≤ Config.queuePlaces then
      ({ s with store := { s.store with
          queue := s.store.queue ++ ops.1
          identity :=
            { terminal := terminal, site := site, lock := .unlocked, newest := some ops.2, next := ops.2 + 1 } } },
        replyOk [])
    else (s, refuseBusy)

/-- READ_IDENTITY's fields (R184). -/
def identityFields (s : State) : List Byte :=
  digitBytes s.store.identity.terminal ++ byte2 s.store.identity.site ++ byte1 (lockByte s.store.identity.lock)

/-- LOCK_IDENTITY (R183). -/
def lockIdentity (s : State) : State × Reply :=
  if s.store.identity.lock ≠ .unlocked ∨ s.store.identity.terminal = [] then (s, refuseState)
  else
    let s := settleWaiting s
    match enqueue (.mark ⟨0, s.store.identity.newest.getD 0, 0⟩ .lock) s.store with
    | none => (s, refuseBusy)
    | some st => ({ s with store := { st with identity := { st.identity with lock := .locking } } }, replyAccepted)

/-- The lock mark has been programmed: LOCKED, IDENTITY_LOCKED in its two records, the weighing (R183, R209). -/
def identityLocked (s : State) : State :=
  let s := { s with store := { s.store with identity := { s.store.identity with lock := .locked } } }
  weigh (offerAll .identityLocked [packTerminal s.store.identity.terminal, byte2 s.store.identity.site] s)

/-! ### Operations of the array -/

/-- A record program ends (R168, R190). -/
def programDone (s : State) : State :=
  match s.store.program with
  | some { op := .record place r, reserved := reserved } =>
    let s := { s with store := supersedeEnded place (endProgram (programRecord place r s.store)) }
    if reserved then s else freedPlace s
  | _ => s

/-- What follows the program of a mark, by its kind (R183, R190). -/
def afterMark (kind : MarkKind) (s : State) : State :=
  match kind with
  | .lock => identityLocked s
  | .superseded => { s with store := testSaveErase (placeWaitingSave s.store) }
  | .acknowledged => s
  | .reported => s
  | .resolved => s

/-- A mark program ends (R168, R178); the save area's erase that a superseded mark makes owed is queued at once where the
queue has room (R185, R190). -/
def markProgramDone (s : State) : State :=
  match s.store.program with
  | some { op := .mark place kind, reserved := _ } =>
    freedPlace (afterMark kind { s with store := endProgram (programMarkOp place kind s.store) })
  | _ => s

/-- The erase in flight is erasing now. -/
def eraseActive (j : EraseJob) : Bool := j.phase == .running || j.phase == .slice

/-- An erase ends: its sector is BLANK, or a COMMIT goes on to program the configuration as it stands (R169,
R181). -/
def eraseDone (s : State) : State :=
  match s.store.erase with
  | none => s
  | some j =>
    if !eraseActive j then s
    else if j.commit then commitErased j s
    else freedPlace { s with store := finishErase j s.store }

/-- A COMMIT ends (R181). -/
def commitDone (s : State) : State :=
  match s.store.erase with
  | none => s
  | some j =>
    if !j.commit then s
    else match j.phase with
      | .programming cfg => freedPlace (finishCommit j.sector cfg s)
      | .running => freedPlace (finishCommit j.sector s.cfg (commitErased j s))
      | .slice => freedPlace (finishCommit j.sector s.cfg (commitErased j s))
      | .suspended => s
      | .stopped => s

/-- The 10 ms slice after a resume has run (R169). -/
def sliceEnds (st : Store) : Store :=
  { st with erase := st.erase.map (fun j => if j.phase = .slice then { j with phase := .running } else j) }

/-! ### The commands -/

/-- COMMIT_CONFIG (R181). -/
def execCommitConfig (p : Port) (s : State) : Host.Outcome State Fault Refusal :=
  .next (takeRequest .commitConfig p commitConfig s)

/-- READ_RECORDS (R176). -/
def execReadRecords (p : Port) (ring : Option Ring) (offset count : Nat) (s : State) :
    Host.Outcome State Fault Refusal :=
  .next (takeRequest .readRecords p (readRecords ring offset count) s)

/-- ACK_RECORDS (R177). -/
def execAckRecords (p : Port) (ring : Option Ring) (count : Nat) (s : State) : Host.Outcome State Fault Refusal :=
  .next (takeRequest .ackRecords p (ackRecords ring count) s)

/-- WRITE_IDENTITY (R182). -/
def execWriteIdentity (p : Port) (terminal : Digits) (site : Nat) (s : State) : Host.Outcome State Fault Refusal :=
  .next (takeRequest .writeIdentity p (writeIdentity terminal site) s)

/-- READ_IDENTITY (R184). -/
def execReadIdentity (p : Port) (s : State) : Host.Outcome State Fault Refusal :=
  .next (takeRequest .readIdentity p (fun s => (s, replyOk (identityFields s))) s)

/-- LOCK_IDENTITY (R183). -/
def execLockIdentity (p : Port) (s : State) : Host.Outcome State Fault Refusal :=
  .next (takeRequest .lockIdentity p lockIdentity s)

/-- The store takes its next operation (R168, R169, R188). -/
def execStoreOperationStart (s : State) : Host.Outcome State Fault Refusal :=
  .next (whenAwake (fun s => { s with store := startOperation (s.supply.state == .warn) s.store }) s)

/-- A record program ends (R168). -/
def execProgramDone (s : State) : Host.Outcome State Fault Refusal := .next (whenAwake programDone s)

/-- A mark program ends (R178). -/
def execMarkProgramDone (s : State) : Host.Outcome State Fault Refusal := .next (whenAwake markProgramDone s)

/-- An erase and its header program end (R171, R172). -/
def execEraseDone (s : State) : Host.Outcome State Fault Refusal := .next (whenAwake eraseDone s)

/-- The slice after a resume ends (R169). -/
def execEraseSliceEnd (s : State) : Host.Outcome State Fault Refusal :=
  .next (whenAwake (fun s => { s with store := sliceEnds s.store }) s)

/-- A COMMIT ends (R181). -/
def execCommitDone (s : State) : Host.Outcome State Fault Refusal := .next (whenAwake commitDone s)

/-- A waiting read is made (R170). -/
def execReadRecordsReady (s : State) : Host.Outcome State Fault Refusal := .next (whenAwake readReady s)

/-- A ring's owed erase is queued where it is the first of the work that waits (R168, R172), and the save area's where that
waited behind it (R185). -/
def execOwedEraseQueued (ring : Ring) (s : State) : Host.Outcome State Fault Refusal :=
  .next (whenAwake (fun s =>
    if nextWork s.store = some (.ringErase ring) then freedPlace (queueRingErase ring s) else s) s)

/-- The OVERFLOW record is posted where it is the first of the work that waits (R168, R175). -/
def execOverflowRecord (s : State) : Host.Outcome State Fault Refusal :=
  .next (whenAwake (fun s => if nextWork s.store = some .overflow then postOverflow s else s) s)

end Sys2Proof.Machine
end

