-- ==== Sys2Proof/Machine/SupplyCtl.lean ====
section
/-! DEFINITION. The commands of supply and recovery (R186 to R199). -/

namespace Sys2Proof.Machine

open Sys2Proof

/-! ### Supply crossings -/

/-- The save record's snapshot at the crossing (R189). -/
def saveSnapshot (s : State) : SaveRecord :=
  { time := timeOfDay s, ringPosition := nextPosition .call s.store, account := s.account, escrow := s.coin.escrow
    callState := s.call.state, cls := s.call.acceptance.map (·.cls), tally := s.coin.tally, totals := s.store.totals }

/-- A change of supply state, with SUPPLY_STATE (R186). -/
def setSupplyState (x : SupplyState) (s : State) : State :=
  postNotice .supplyState (byte1 (supplyByte x)) { s with supply := { s.supply with state := x } }

/-- The WARN crossing falling (R188): erases stop, a commit is abandoned, the store's waiting work takes the places that are
free, that of the commit among them (R175; log 14), and outside recovery the save record is then made and placed. -/
def warnFalls (s : State) : State :=
  let s := setSupplyState .warn s
  let t := settleWaiting { s with store := stopErase s.store }
  if recovering t then t else { t with store := placeSave (saveSnapshot t) t.store }

/-- The WARN crossing rising (R190). -/
def warnRises (s : State) : State :=
  let s := setSupplyState .normal s
  { s with store := restartErase (settleSave s.store) }

/-- WARN falling, taken in NORMAL (R186, R188). -/
def execWarnFalling (s : State) : Host.Outcome State Fault Refusal :=
  .next (whenAwake (fun s => if s.supply.state = .normal then warnFalls s else s) s)

/-- WARN rising, taken in WARN (R186, R190). -/
def execWarnRising (s : State) : Host.Outcome State Fault Refusal :=
  .next (whenAwake (fun s => if s.supply.state = .warn then warnRises s else s) s)

/-! ### Resets -/

/-- The supply falls below FAIL: the part is held in reset (R187). -/
def supplyFails (s : State) : State :=
  if s.supply.inReset then s
  else { resetVolatile .supplyReset s with supply := { cause := .supplyReset, inReset := true } }

def execSupplyReset (s : State) : Host.Outcome State Fault Refusal := .next (supplyFails s)

/-- The supply has been below the retention level and rises past FAIL (R187). -/
def execPowerOnReset (levels : Levels) (s : State) : Host.Outcome State Fault Refusal :=
  .next (recover levels (resetVolatile .powerOn s))

/-- The supply rises past FAIL, having stayed above the retention level (R187). -/
def execSupplyRisesPastFail (levels : Levels) (s : State) : Host.Outcome State Fault Refusal :=
  .next (if s.supply.inReset then recover levels (resetVolatile .supplyReset s) else s)

/-- Nothing is queued and nothing in flight in the store (R191). -/
def storeIdle (st : Store) : Bool :=
  st.queue == [] && st.reserved.isNone && st.program.isNone && st.erase.isNone

/-- The pending restart falls due (R191). -/
def restartDue (s : State) : Bool :=
  awake s && !recovering s && s.call.state == .idle && (match s.supply.restart with
    | some .whenIdle => s.line.owner == .nobody
    | some .now => s.supply.callEnded
    | none => false)
  && s.coin.gateOp.isNone && s.coin.gateTest.isNone && s.coin.gateQueue == []
  && storeIdle s.store && s.supply.state == .normal

def execRestartFallsDue (levels : Levels) (s : State) : Host.Outcome State Fault Refusal :=
  .next (if restartDue s then recover levels (resetVolatile .restart s) else s)

def setRestart (m : RestartMode) (s : State) : State :=
  { s with supply := { s.supply with restart := some m, callEnded := false } }

/-- RESTART (R191). -/
def requestRestart (mode : Option RestartMode) (s : State) : State × Reply :=
  match mode with
  | none => (s, refuseRange)
  | some .whenIdle => (if s.supply.restart.isSome then s else setRestart .whenIdle s, replyAccepted)
  | some .now => (if s.supply.restart = some .now then s else endCallForRestart (setRestart .now s), replyAccepted)

def execRestart (p : Port) (mode : Option RestartMode) (s : State) : Host.Outcome State Fault Refusal :=
  .next (takeRequest .restart p (requestRestart mode) s)

/-! ### The later steps of recovery -/

def setTube (coins : Bool) (s : State) : State := { s with coin := { s.coin with tubeCoins := coins } }

/-- The sensor check (R197). -/
def sensorCheck (coins : Bool) (s : State) : State :=
  match s.supply.recovery with
  | none => s
  | some r =>
    if r.phase ≠ .checking then s
    else if coins then beginCycle r (setTube true s)
    else endResolution false r (setTube false s)

def execSensorCheck (coins : Bool) (s : State) : Host.Outcome State Fault Refusal :=
  .next (whenAwake (sensorCheck coins) s)

/-- A flush window ends (R197). -/
def flushWindowEnds (coins : Bool) (s : State) : State :=
  match s.supply.recovery with
  | none => s
  | some r =>
    if r.phase ≠ .flushing then s
    else if !coins then endResolution false r (setTube false s)
    else if Config.flushCycles ≤ r.cycles then endResolution true r (setTube true s)
    else beginCycle r (setTube true s)

def execFlushWindowExpiry (coins : Bool) (s : State) : Host.Outcome State Fault Refusal :=
  .next (whenAwake (flushWindowEnds coins) s)

/-- Housekeeping and the start notice (R198). -/
def housekeeping (s : State) : State :=
  match s.supply.recovery with
  | none => s
  | some r => if r.phase = .marking ∧ !marksOutstanding s.store then endRecovery r s else s

def execSaveSectorHousekeeping (s : State) : Host.Outcome State Fault Refusal := .next (whenAwake housekeeping s)

end Sys2Proof.Machine
end

