-- ==== Sys2Proof/Machine/PortCtl.lean ====
section
/-! DEFINITION. The commands of the port unit (R200 to R211): status, notices, select periods, and the frames that
reach no owner. -/

namespace Sys2Proof.Machine

open Sys2Proof

/-! ### Status and notices -/

/-- RUNNING 0 with its stage behind it, or ENDED 1, with no presence or form byte (R207; log 34). -/
def recoveryBytes (r : Option Recovery) : List Byte :=
  match r with
  | some x => byte1 0 ++ byte1 x.stage
  | none => byte1 1

/-- The pending restart, numbered as R207 lists it: NONE 0, WHEN_IDLE 1, NOW 2. R191, in the owning chapter, names NONE last;
that the model follows R207 is its choice (log 7). -/
def restartByte : Option RestartMode → Nat
  | none => 0
  | some .whenIdle => 1
  | some .now => 2

/-- The six lost flags, COIN first, each a byte of its own, not one byte of bits as in R211 (R202, R207; log 34). -/
def lostBytes (m : ClassBits) : List Byte := (List.range 6).flatMap (fun i => flagByte (m.getLsbD i))

/-- READ_STATUS's fields (R207). -/
def statusFields (p : Port) (s : State) : List Byte :=
  recoveryBytes s.supply.recovery ++ byte1 (causeByte s.supply.cause) ++ byte1 (serviceByte s.alarm.service)
    ++ byte1 (supplyByte s.supply.state) ++ byte1 (clockStateByte s.tariff) ++ byte1 (hookByte s.call.hook)
    ++ byte1 (callStateByte s.call.state) ++ byte1 (ownerByte s.line.owner) ++ byte1 (restartByte s.supply.restart)
    ++ byte1 (lockByte s.store.identity.lock) ++ byte1 (portOf s.ports p).queue.length
    ++ lostBytes (portOf s.ports p).lost

/-- The notices a FETCH_NOTICES returns: the oldest, up to four (R211). -/
def fetched (v : PortState) : List Notice := v.queue.take 4

/-- FETCH_NOTICES (R211). -/
def fetchNotices (p : Port) (s : State) : State × Reply :=
  let v := portOf s.ports p
  (updatePort p (fun v => { v with fetch := some { returned := (fetched v).length, flags := v.lost, dropped := 0 } }) s,
    replyOk (v.lost.setWidth 8 :: byte1 (v.queue.length - (fetched v).length) ++ (fetched v).flatMap noticeEntry))

/-- SET_NOTICE_MASK (R210). -/
def setNoticeMask (p : Port) (mask : Nat) (s : State) : State × Reply :=
  if 63 < mask then (s, refuseRange)
  else (updatePort p (fun v => { v with mask := BitVec.ofNat 6 mask }) s, replyOk (byte1 mask))

/-! ### Read select periods (R204) -/

/-- The response frame of a READY slot (R202). -/
def slotFrame : Slot → List Byte
  | .empty => [nonePending]
  | .notReady => [notReadyByte]
  | .ready code fields => frameOf (resultByte code) fields

/-- The bytes of its slot that the part sends while so many are clocked out (R204; log 24). -/
def slotBytes (clocked : Nat) (slot : Slot) : List Byte := (slotFrame slot).take clocked

/-- A FETCH_NOTICES response has been read in full (R211): its notices leave the queue and its flags are cleared,
but for the classes of which a notice was dropped since. -/
def noticesRead (v : PortState) : PortState :=
  match v.fetch with
  | none => v
  | some f => { v with queue := v.queue.drop f.returned, lost := v.lost &&& ~~~(f.flags &&& ~~~f.dropped), fetch := none }

/-- A READY response read in full empties the slot (R204). -/
def slotAfterRead (clocked : Nat) (v : PortState) : PortState :=
  match v.slot with
  | .empty => v
  | .notReady => v
  | .ready _ _ => if (slotFrame v.slot).length ≤ clocked then noticesRead { v with slot := .empty } else v

/-- A read select period (R204): the bytes the part sends of its slot are kept in `sent` (log 24). A select period
without a byte is ignored (R200). -/
def readSelect (clocked : Nat) (v : PortState) : PortState :=
  if clocked = 0 then v else slotAfterRead clocked { v with sent := .ofSlot (slotBytes clocked v.slot) }

/-! ### Request frames (R202, R203) -/

/-- The shapes of request fields (R202). -/
inductive Shape where
  | bytes (n : Nat)
  | digits
  | many (n : Nat)
  deriving DecidableEq, Repr

/-- Whole groups of n bytes to the end of the frame. -/
def skipMany (n : Nat) (l : List Byte) : Option (List Byte) := if l.length % n = 0 then some [] else none

/-- One field of its shape, skipped; which values it may have is its owner's to check (R203). -/
def skipShape (x : Shape) (l : List Byte) : Option (List Byte) :=
  match x with
  | .bytes n => if n ≤ l.length then some (l.drop n) else none
  | .digits => match l with
    | [] => none
    | b :: rest => if b.toNat ≤ rest.length then some (rest.drop b.toNat) else none
  | .many n => skipMany n l

/-- A sequence of shapes that takes every byte. -/
def shapesFit : List Shape → List Byte → Bool
  | [], l => l == []
  | x :: rest, l => match skipShape x l with
    | some l' => shapesFit rest l'
    | none => false

/-- A form byte and the shapes of each form (R202). -/
def formsFit (forms : List (List Shape)) (l : List Byte) : Bool :=
  match l with
  | [] => false
  | b :: rest => match forms[b.toNat]? with
    | some xs => shapesFit xs rest
    | none => false

/-- The shapes of each setting's value (R206). -/
def settingFits (l : List Byte) : Bool :=
  match l with
  | [] => false
  | b :: rest => match b.toNat with
    | 1 => shapesFit [.bytes 1] rest
    | 2 => shapesFit [.bytes 2] rest
    | 3 => shapesFit [.bytes 2] rest
    | 4 => shapesFit [.digits] rest
    | 5 => shapesFit [.bytes 1] rest
    | 6 => shapesFit [.bytes 1] rest
    | 7 => shapesFit [.digits] rest
    | 8 => shapesFit [.digits] rest
    | _ => false

/-- A LINE_EVENT carries one of six events (R126). -/
def lineEventFits (l : List Byte) : Bool :=
  match l with
  | [b] => b.toNat < 6
  | _ => false

/-- WRITE_TARIFF: class, band, then form 0 with an entry's fields or form 1, CLEAR (R91). -/
def tariffFits (l : List Byte) : Bool :=
  2 ≤ l.length && formsFit [[.bytes 13], []] (l.drop 2)

/-- WRITE_CALENDAR: form 0 a day type and switch points of three bytes each; form 1 a slot, then form 0 a date of
four bytes, the year in two, or form 1, EMPTY (R102). The switch points go on to the end of the frame with no count byte; R202
lays out no date alone, and both are the model's choice (log 34). -/
def calendarFits (l : List Byte) : Bool :=
  match l with
  | [] => false
  | b :: rest => match b.toNat with
    | 0 => shapesFit [.bytes 1, .many 3] rest
    | 1 => 1 ≤ rest.length && formsFit [[.bytes 4], []] (rest.drop 1)
    | _ => false

/-- Check 6 of R203: the fields have the count and shape that the request's form calls for. Any bytes are a list of sources
of ACK_ALARMS, which has no count byte (log 34). -/
def fieldsFit (q : Request) (l : List Byte) : Bool :=
  match q with
  | .key => shapesFit [.bytes 1] l
  | .readAccount => l == []
  | .readCall => l == []
  | .readStatus => l == []
  | .fetchNotices => l == []
  | .setNoticeMask => shapesFit [.bytes 1] l
  | .fetchOrder => shapesFit [.bytes 1] l
  | .orderDone => shapesFit [.bytes 3] l
  | .lineEvent => lineEventFits l
  | .claimCentre => l == []
  | .endCentre => l == []
  | .setClock => shapesFit [.bytes 7] l
  | .readClock => l == []
  | .writeCalendar => calendarFits l
  | .writeTariff => tariffFits l
  | .readTariff => shapesFit [.bytes 3] l
  | .activateTariff => formsFit [[], [.bytes 7]] l
  | .writePlan => shapesFit [.bytes 1, .digits, .bytes 7] l
  | .readPlan => shapesFit [.bytes 1] l
  | .writeCoin => shapesFit [.bytes 3] l
  | .writeAlarmSetup => formsFit [[.bytes 4], [.bytes 5]] l
  | .writeSetting => settingFits l
  | .commitConfig => l == []
  | .readRecords => shapesFit [.bytes 4] l
  | .ackRecords => shapesFit [.bytes 3] l
  | .readAlarms => formsFit [[.bytes 2], []] l
  | .ackAlarms => true
  | .clearAlarm => shapesFit [.bytes 1] l
  | .writeIdentity => shapesFit [.digits, .bytes 2] l
  | .readIdentity => l == []
  | .lockIdentity => l == []
  | .restart => shapesFit [.bytes 1] l
  | .openCollection => shapesFit [.digits] l
  | .closeCollection => l == []
  | .readTally => l == []
  | .testGate => l == []

/-- The requests in the order of their codes, 1 to 36 (R205). -/
def requests : List Request :=
  [.key, .readAccount, .readCall, .readStatus, .fetchNotices, .setNoticeMask, .fetchOrder, .orderDone, .lineEvent,
   .claimCentre, .endCentre, .setClock, .readClock, .writeCalendar, .writeTariff, .readTariff, .activateTariff,
   .writePlan, .readPlan, .writeCoin, .writeAlarmSetup, .writeSetting, .commitConfig, .readRecords, .ackRecords,
   .readAlarms, .ackAlarms, .clearAlarm, .writeIdentity, .readIdentity, .lockIdentity, .restart, .openCollection,
   .closeCollection, .readTally, .testGate]

def requestOf (code : Nat) : Option Request := if code = 0 then none else requests[code - 1]?

/-- Checks 1 and 2 of R203: the length and the check byte. -/
def frameSound (bytes : List Byte) : Bool :=
  3 ≤ bytes.length && (bytes.getD 1 0).toNat ≤ 120 && bytes.length == (bytes.getD 1 0).toNat + 3 && bytes.sum == 0

/-- The answer of R203 to a frame that no owner is handed; none for a frame that passes every check. -/
def frameAnswer (p : Port) (inRecovery : Bool) (bytes : List Byte) : Option ResultCode :=
  if !frameSound bytes then some .frameError
  else match requestOf (bytes.getD 0 0).toNat with
    | none => some .unknown
    | some q =>
      if !permitted q p then some .refusedPort
      else if inRecovery && !answeredInRecovery q then some .refusedState
      else if !fieldsFit q ((bytes.drop 2).dropLast) then some .refusedRange
      else none

/-- A request select period begins with a byte other than 0 (R200). -/
def isRequestPeriod (bytes : List Byte) : Bool :=
  match bytes with
  | [] => false
  | b :: _ => b != 0

/-- A frame that no owner is handed is answered and changes nothing else (R203; log 17). -/
def frameEnds (p : Port) (bytes : List Byte) (s : State) : State :=
  if s.supply.inReset || !isRequestPeriod bytes then s
  else match frameAnswer p (recovering s) bytes with
    | none => s
    | some code => answerPort p (some (code, [])) (takeFrame p s)

/-! ### The commands -/

/-- READ_STATUS (R207). -/
def execReadStatus (p : Port) (s : State) : Host.Outcome State Fault Refusal :=
  .next (takeRequest .readStatus p (fun s => (s, replyOk (statusFields p s))) s)

/-- FETCH_NOTICES (R211). -/
def execFetchNotices (p : Port) (s : State) : Host.Outcome State Fault Refusal :=
  .next (takeRequest .fetchNotices p (fetchNotices p) s)

/-- SET_NOTICE_MASK (R210). -/
def execSetNoticeMask (p : Port) (mask : Nat) (s : State) : Host.Outcome State Fault Refusal :=
  .next (takeRequest .setNoticeMask p (setNoticeMask p mask) s)

/-- A frame that reaches no owner (R203). -/
def execRequestFrameError (p : Port) (bytes : List Byte) (s : State) : Host.Outcome State Fault Refusal :=
  .next (frameEnds p bytes s)

/-- A read select period (R204); a part held in reset sends nothing (log 5). -/
def execReadSelectPeriod (p : Port) (clocked : Nat) (s : State) : Host.Outcome State Fault Refusal :=
  .next (if s.supply.inReset then s else updatePort p (readSelect clocked) s)

end Sys2Proof.Machine
end

