-- ==== Sys2Proof/Machine/Frames.lean ====
section
/-! DEFINITION. Select periods and request frames (R200, R202, R203): what a port sends on data out, and the command that
the bytes of a select period stand for. -/

namespace Sys2Proof.Machine

open Sys2Proof

/-! ### Reading fields (R202) -/

/-- A number, most significant byte first. -/
def numberOf (l : List Byte) : Nat := l.foldl (fun n b => n * 256 + b.toNat) 0

/-- The number in the w bytes from place i on. -/
def numberAt (l : List Byte) (i w : Nat) : Nat := numberOf ((l.drop i).take w)

def byteAt (l : List Byte) (i : Nat) : Nat := numberAt l i 1

/-- The named value of a byte, none where the byte names none. -/
def namedAt {α : Type} (names : List α) (l : List Byte) (i : Nat) : Option α := names[byteAt l i]?

/-- A digit string at the front of the bytes, and what follows it. -/
def takeDigits (l : List Byte) : Digits × List Byte :=
  ((l.drop 1).take (byteAt l 0) |>.map (·.toNat), (l.drop 1).drop (byteAt l 0))

def dateAt (l : List Byte) (i : Nat) : Date := ⟨numberAt l i 2, byteAt l (i + 2), byteAt l (i + 3)⟩

def timeAt (l : List Byte) (i : Nat) : DateTime :=
  ⟨numberAt l i 2, byteAt l (i + 2), byteAt l (i + 3), byteAt l (i + 4), byteAt l (i + 5), byteAt l (i + 6)⟩

/-- A flag, none where its byte is neither 0 nor 1 (R202). -/
def flagAt (l : List Byte) (i : Nat) : Option Bool := namedAt [false, true] l i

/-- Switch points of three bytes each, a minute in two and a band (R102). -/
def switchPoints : List Byte → List (Nat × Nat)
  | a :: b :: c :: rest => (numberOf [a, b], c.toNat) :: switchPoints rest
  | _ => []

/-! ### Named values, numbered as their chapters first list them (log 7, log 22) -/

def severityNames : List Severity := [.low, .medium, .high, .critical]
def effectNames : List Effect := [.none, .coinFree, .emergencyOnly]
def sensorModeNames : List SensorMode := [.disabled, .rising, .falling, .both]
def ringNames : List Ring := [.call, .alarm]
def bankNames : List Bank := [.active, .pending]
def dayTypeNames : List DayType := [.weekday, .saturday, .sunday]
def sourceNames : List Source := [.localSteps, .exchange]
def priorityNames : List PriorityMode := [.fixed, .rotating]
def restartNames : List RestartMode := [.whenIdle, .now]
def orderKindNames : List OrderKind := [.connect, .tone, .release, .report, .abort]
def orderOutcomeNames : List OrderOutcome := [.dialled, .noDialTone, .failed, .sent, .cleared, .delivered, .noAnswer, .busy]

/-! ### The command of a request's fields -/

/-- KEY: 12 for FOLLOW_ON, 13 for CANCEL, any other value as a digit (R202). -/
def keyCommand (p : Port) (key : Nat) : Instr :=
  if key = 12 then .keyFollowOn p else if key = 13 then .keyCancel p else .keyDigit p key

/-- The six line events in the order of R124 to R126. -/
def lineEventCommand (p : Port) (event : Nat) : Instr :=
  [Instr.lineLost p, .lineRestored p, .answer p, .busy p, .farClear p, .meterPulse p].getD event (.meterPulse p)

def calendarCommand (p : Port) (l : List Byte) : Instr :=
  if byteAt l 0 = 0 then .writeCalendarDayType p (namedAt dayTypeNames l 1) (switchPoints (l.drop 2))
  else .writeCalendarHoliday p (byteAt l 1) (if byteAt l 2 = 0 then some (dateAt l 3) else none)

def tariffCommand (p : Port) (l : List Byte) : Instr :=
  .writeTariff p (byteAt l 0) (byteAt l 1) (if byteAt l 2 = 0 then
    some { connection := numberAt l 3 2, step := numberAt l 5 2, period := numberAt l 7 2, firstPeriod := numberAt l 9 2
           free := numberAt l 11 2, source := namedAt sourceNames l 13, lead := numberAt l 14 2 }
    else none)

def planCommand (p : Port) (l : List Byte) : Instr :=
  let x := takeDigits (l.drop 1)
  .writePlan p (byteAt l 0)
    { digits := x.1, minLen := byteAt x.2 0, maxLen := byteAt x.2 1, cls := byteAt x.2 2, barred := flagAt x.2 3
      emergency := flagAt x.2 4, noCoin := flagAt x.2 5, dialAtMin := flagAt x.2 6 }

def alarmSetupCommand (p : Port) (l : List Byte) : Instr :=
  if byteAt l 0 = 0 then
    .writeAlarmSetupSource p (byteAt l 1) (namedAt severityNames l 2) (flagAt l 3) (namedAt effectNames l 4)
  else .writeAlarmSetupSensor p (byteAt l 1) (namedAt sensorModeNames l 2) (byteAt l 3) (numberAt l 4 2)

/-- WRITE_SETTING by its setting number (R206). -/
def settingCommand (p : Port) (l : List Byte) : Instr :=
  match byteAt l 0 with
  | 1 => .writeSettingInterDigit p (byteAt l 1)
  | 2 => .writeSettingRing p (numberAt l 1 2)
  | 3 => .writeSettingBoxCapacity p (numberAt l 1 2)
  | 4 => .writeSettingCollectionCode p (takeDigits (l.drop 1)).1
  | 5 => .writeSettingReportThreshold p (namedAt severityNames l 1)
  | 6 => .writeSettingPriorityMode p (namedAt priorityNames l 1)
  | 7 => .writeSettingPrimaryCentre p (takeDigits (l.drop 1)).1
  | _ => .writeSettingFallbackCentre p (takeDigits (l.drop 1)).1

/-- The command that a request with these fields stands for, where the fields fit it. The sources of ACK_ALARMS are all its
field bytes, with no count byte (log 34). -/
def commandOf (q : Request) (p : Port) (l : List Byte) : Instr :=
  match q with
  | .key => keyCommand p (byteAt l 0)
  | .readAccount => .readAccount p
  | .readCall => .readCall p
  | .readStatus => .readStatus p
  | .fetchNotices => .fetchNotices p
  | .setNoticeMask => .setNoticeMask p (byteAt l 0)
  | .fetchOrder => .fetchOrder p (byteAt l 0)
  | .orderDone => .orderDone p (namedAt orderKindNames l 0) (byteAt l 1) (namedAt orderOutcomeNames l 2)
  | .lineEvent => lineEventCommand p (byteAt l 0)
  | .claimCentre => .claimCentre p
  | .endCentre => .endCentre p
  | .setClock => .setClock p (timeAt l 0)
  | .readClock => .readClock p
  | .writeCalendar => calendarCommand p l
  | .writeTariff => tariffCommand p l
  | .readTariff => .readTariff p (namedAt bankNames l 0) (byteAt l 1) (byteAt l 2)
  | .activateTariff => .activateTariff p (if byteAt l 0 = 0 then none else some (timeAt l 1))
  | .writePlan => planCommand p l
  | .readPlan => .readPlan p (byteAt l 0)
  | .writeCoin => .writeCoin p (byteAt l 0) (numberAt l 1 2)
  | .writeAlarmSetup => alarmSetupCommand p l
  | .writeSetting => settingCommand p l
  | .commitConfig => .commitConfig p
  | .readRecords => .readRecords p (namedAt ringNames l 0) (numberAt l 1 2) (byteAt l 3)
  | .ackRecords => .ackRecords p (namedAt ringNames l 0) (numberAt l 1 2)
  | .readAlarms => if byteAt l 0 = 0 then .readAlarmsSource p (byteAt l 1) (byteAt l 2) else .readAlarmsSensor p
  | .ackAlarms => .ackAlarms p (l.map (·.toNat))
  | .clearAlarm => .clearAlarm p (byteAt l 0)
  | .writeIdentity => .writeIdentity p (takeDigits l).1 (numberAt (takeDigits l).2 0 2)
  | .readIdentity => .readIdentity p
  | .lockIdentity => .lockIdentity p
  | .restart => .restart p (namedAt restartNames l 0)
  | .openCollection => .openCollection p (takeDigits l).1
  | .closeCollection => .closeCollection p
  | .readTally => .readTally p
  | .testGate => .testGate p

/-! ### Frames and select periods -/

/-- The command that a frame stands for: its request with its fields, or, where check 1, 2, 3 or 6 of R203 fails, the frame
that no owner is handed (log 17). -/
def frameCommand (p : Port) (bytes : List Byte) : Instr :=
  match requestOf (byteAt bytes 0) with
  | some q =>
    if frameSound bytes && fieldsFit q ((bytes.drop 2).dropLast) then commandOf q p ((bytes.drop 2).dropLast)
    else .requestFrameError p bytes
  | none => .requestFrameError p bytes

/-- The command of a select period in which these bytes were received, at its end; none for a period without a byte
(R200). The byte sent while the first byte comes in counts as the first of the response, the model's choice (log 24). -/
def selectPeriod (p : Port) (bytes : List Byte) : Option Instr :=
  match bytes with
  | [] => none
  | b :: _ => if b = 0 then some (.readSelectPeriod p bytes.length) else some (frameCommand p bytes)

/-- The bytes that the part sent in the last select period, where so many were clocked: of its slot in a read select period,
255 for each byte of a request frame (R200). -/
def dataOut (clocked : Nat) (v : PortState) : List Byte :=
  match v.sent with
  | .ofSlot bytes => bytes
  | .ofRequest => List.replicate clocked 255

end Sys2Proof.Machine
end

