-- ==== Sys2Proof/Machine/Idle.lean ====
section
/-! DEFINITION. What the part does of itself when no command waits (log 1, log 2): recovery's stage 1 where it is
still to run, else the expiry of a timer that has run out or the first of its own steps that is ready, else a tenth of a
second passes. A command of its own runs at once and never waits in the queue, so that no expiry is met by a timer that a
command taken ahead of it has started again (R59, R66, R120). -/

namespace Sys2Proof.Machine

open Sys2Proof

/-! ### Timers that have run out -/

/-- The warning point comes when the remaining time has fallen to the lead, which it has at the start of a period no
longer than the lead (R107). -/
def warningDue (s : State) : List Instr :=
  let m := s.tariff.meter
  match m.periodUntil, m.entry with
  | some u, some e => if periodRuns m && !m.warnPassed && u ≤ s.now + e.lead then [.warningPoint] else []
  | _, _ => []

/-- A timer that has run out, with its expiry. -/
def due (t : Option Nat) (c : Instr) (s : State) : List Instr :=
  match t with
  | some u => if u ≤ s.now then [c] else []
  | none => []

def dueCoin (s : State) : List Instr :=
  due (s.coin.flight.map (·.start + Config.flightWindow)) .flightWindowExpiry s
    ++ due (s.coin.gateOp.map (·.since + Config.gateWindow)) .gateWindowExpiry s
    ++ due s.coin.gateTest .gateTestWindowExpiry s
    ++ due s.coin.windowUntil .collectionWindowExpiry s
    ++ due s.coin.lockoutUntil .collectionLockoutExpiry s
    ++ due (s.supply.recovery.bind (·.flushUntil)) (.flushWindowExpiry s.coin.tubeCoins) s

def digitExpiry : DigitTimer → Instr
  | .firstDigit => .firstDigitTimerExpiry
  | .interDigit => .interDigitTimerExpiry

def callExpiry : CallTimer → Instr
  | .deposit => .depositTimerExpiry
  | .lineWait => .lineWaitTimerExpiry
  | .ring => .ringTimerExpiry
  | .followOn => .followOnTimerExpiry

def dueCall (s : State) : List Instr :=
  due (s.call.holdFrom.map (· + Config.hookHold)) .onHook s
    ++ (match s.analyser.timer with
      | some (t, u) => due (some u) (digitExpiry t) s
      | none => [])
    ++ (match s.call.timer with
      | some (t, u) => due (some u) (callExpiry t) s
      | none => [])

def scheduleDue (s : State) : List Instr :=
  match s.tariff.schedule with
  | .scheduled t => if clockReached t s then [.scheduledActivationDue] else []
  | .none => []
  | .waitingClock _ => []

/-- The tick that the clock cannot take: it stood at the last tenth of 2099 (R97). -/
def clockDue (before : State) : Option Instr :=
  match before.tariff.clock with
  | some c => if (clockTick c).isNone then some .clockBecomesUnset else none
  | none => none

def dueTariff (s : State) : List Instr :=
  warningDue s ++ due s.tariff.meter.periodUntil .stepFallsDue s ++ scheduleDue s

def dueLine (s : State) : List Instr :=
  due (s.line.slot.map (·.limit)) .orderLimitExpiry s ++ due s.line.centreUntil .centreSessionExpiry s
    ++ due s.report.backoffUntil .backoffExpiry s

/-- The expiries that have come due, in a fixed order (log 1). -/
def dueTimers (s : State) : List Instr := dueCoin s ++ dueCall s ++ dueTariff s ++ dueLine s

/-- The expiry that is taken next: one, since what it does may stop or start another timer, as a replaced order's limit is
cancelled (R120). -/
def dueCommand (s : State) : Option Instr := (dueTimers s).head?

/-! ### Steps that are ready without any time passing -/

def gateReady (s : State) : Option Instr :=
  if gateMayStart s && s.coin.gateQueue != [] then some .gateOperationStart else none

def accountReady (s : State) : Option Instr :=
  match s.account.phase with
  | .settling .refund _ => if refundsOver s then some .settlementEnds else none
  | .opened true => if s.account.n = 0 then some .carryCompletes else none
  | .opened false => none
  | .settling .flight _ => none
  | .settling .collect _ => none
  | .idle => none

/-- The end of the program in flight. -/
def programEnd (st : Store) : Option Instr :=
  match st.program with
  | some { op := .record _ _, reserved := _ } => some .programDone
  | some { op := .mark _ _, reserved := _ } => some .markProgramDone
  | _ => none

/-- The end of what is erasing or being committed. -/
def eraseEnd (st : Store) : Option Instr :=
  match st.erase with
  | none => none
  | some j => match j.phase with
    | .slice => some .eraseSliceEnd
    | .running => some .eraseDone
    | .programming _ => some .commitDone
    | .suspended => none
    | .stopped => none

/-- The store takes an operation. -/
def operationReady (s : State) : Option Instr :=
  let st := startOperation (s.supply.state == .warn) s.store
  if st.program != s.store.program || st.erase != s.store.erase then some .storeOperationStart else none

def readNow (st : Store) : Option Instr := if st.read.isSome && readable st then some .readRecordsReady else none

/-- Work that waits for a place of the queue. -/
def waitingReady (st : Store) : Option Instr :=
  match nextWork st with
  | some (.ringErase r) => some (.owedEraseQueued r)
  | some .overflow => if (postRing .call (.overflow st.totals none) st).isSome then some .overflowRecord else none
  | some (.mark _) => none
  | some .saveErase => none
  | none => none

def recoveryReady (s : State) : Option Instr :=
  match s.supply.recovery with
  | none => none
  | some r => match r.phase with
    | .checking => if s.supply.state = .normal ∨ s.coin.tubeCoins = false then some (.sensorCheck s.coin.tubeCoins) else none
    | .marking => if marksOutstanding s.store then none else some .saveSectorHousekeeping
    | .scan => none
    | .settling => none
    | .flushing => none

/-- The input levels as the part holds them. -/
def heldLevels (s : State) : Levels :=
  { tamper := s.alarm.sensors.map (·.level), belowWarn := s.supply.state == .warn }

def restartReady (s : State) : Option Instr := if restartDue s then some (.restartFallsDue (heldLevels s)) else none

/-- The first step that is ready, in this order (log 2). -/
def readyCommand (s : State) : Option Instr :=
  [dueCommand s, waitingReady s.store, readNow s.store, programEnd s.store, operationReady s, eraseEnd s.store,
    gateReady s, accountReady s, recoveryReady s, restartReady s].findSome? id

/-! ### The passing of time -/

/-- One tenth of a second passes (log 1): the part's own timing and the calendar clock move on; a clock at the end
of 2099 stays for the CLOCK_BECOMES_UNSET that comes with that tenth. -/
def tick (s : State) : State :=
  { s with
    now := s.now + 1
    tariff := { s.tariff with clock := s.tariff.clock.map (fun c => (clockTick c).getD c) } }

/-- Recovery that has still to run its stage 1 begins with the input levels the part holds (log 2, log 6). -/
def recoveryPending (s : State) : Bool :=
  match s.supply.recovery with
  | some r => r.phase == .scan
  | none => false

/-- One step with nothing commanded: the state that time or recovery leaves, and the part's own command that then runs. -/
def idle (s : State) : State × Option Instr :=
  if s.supply.inReset then (tick s, none)
  else if recoveryPending s then (recover (heldLevels s) s, none)
  else match readyCommand s with
    | some c => (s, some c)
    | none => (tick s, clockDue s)

end Sys2Proof.Machine
end

