-- ==== Sys2Proof/Machine/Dispatch.lean ====
section
/-! DEFINITION. The dispatch: one arm for each command, each one call of its meaning. -/

namespace Sys2Proof.Machine

open Sys2Proof

def exec (i : Instr) (s : State) : Host.Outcome State Fault Refusal :=
  match i with
  | .keyDigit p key => Sys2Proof.Machine.execKeyDigit p key s
  | .keyCancel p => Sys2Proof.Machine.execKeyCancel p s
  | .keyFollowOn p => Sys2Proof.Machine.execKeyFollowOn p s
  | .readAccount p => Sys2Proof.Machine.execReadAccount p s
  | .readCall p => Sys2Proof.Machine.execReadCall p s
  | .readStatus p => Sys2Proof.Machine.execReadStatus p s
  | .fetchNotices p => Sys2Proof.Machine.execFetchNotices p s
  | .setNoticeMask p mask => Sys2Proof.Machine.execSetNoticeMask p mask s
  | .fetchOrder p part => Sys2Proof.Machine.execFetchOrder p part s
  | .orderDone p kind number outcome => Sys2Proof.Machine.execOrderDone p kind number outcome s
  | .answer p => Sys2Proof.Machine.execAnswer p s
  | .busy p => Sys2Proof.Machine.execBusy p s
  | .farClear p => Sys2Proof.Machine.execFarClear p s
  | .meterPulse p => Sys2Proof.Machine.execMeterPulse p s
  | .lineLost p => Sys2Proof.Machine.execLineLost p s
  | .lineRestored p => Sys2Proof.Machine.execLineRestored p s
  | .claimCentre p => Sys2Proof.Machine.execClaimCentre p s
  | .endCentre p => Sys2Proof.Machine.execEndCentre p s
  | .setClock p time => Sys2Proof.Machine.execSetClock p time s
  | .readClock p => Sys2Proof.Machine.execReadClock p s
  | .writeCalendarDayType p day points => Sys2Proof.Machine.execWriteCalendarDayType p day points s
  | .writeCalendarHoliday p slot date => Sys2Proof.Machine.execWriteCalendarHoliday p slot date s
  | .writeTariff p cls band entry => Sys2Proof.Machine.execWriteTariff p cls band entry s
  | .readTariff p bank cls band => Sys2Proof.Machine.execReadTariff p bank cls band s
  | .activateTariff p time => Sys2Proof.Machine.execActivateTariff p time s
  | .writePlan p entry fields => Sys2Proof.Machine.execWritePlan p entry fields s
  | .readPlan p entry => Sys2Proof.Machine.execReadPlan p entry s
  | .writeCoin p channel value => Sys2Proof.Machine.execWriteCoin p channel value s
  | .writeAlarmSetupSource p source severity mask effect => Sys2Proof.Machine.execWriteAlarmSetupSource p source severity mask effect s
  | .writeAlarmSetupSensor p sensor mode threshold window => Sys2Proof.Machine.execWriteAlarmSetupSensor p sensor mode threshold window s
  | .writeSettingInterDigit p seconds => Sys2Proof.Machine.execWriteSettingInterDigit p seconds s
  | .writeSettingRing p seconds => Sys2Proof.Machine.execWriteSettingRing p seconds s
  | .writeSettingBoxCapacity p coins => Sys2Proof.Machine.execWriteSettingBoxCapacity p coins s
  | .writeSettingCollectionCode p code => Sys2Proof.Machine.execWriteSettingCollectionCode p code s
  | .writeSettingReportThreshold p threshold => Sys2Proof.Machine.execWriteSettingReportThreshold p threshold s
  | .writeSettingPriorityMode p mode => Sys2Proof.Machine.execWriteSettingPriorityMode p mode s
  | .writeSettingPrimaryCentre p number => Sys2Proof.Machine.execWriteSettingPrimaryCentre p number s
  | .writeSettingFallbackCentre p number => Sys2Proof.Machine.execWriteSettingFallbackCentre p number s
  | .commitConfig p => Sys2Proof.Machine.execCommitConfig p s
  | .readRecords p ring offset count => Sys2Proof.Machine.execReadRecords p ring offset count s
  | .ackRecords p ring count => Sys2Proof.Machine.execAckRecords p ring count s
  | .readAlarmsSource p first count => Sys2Proof.Machine.execReadAlarmsSource p first count s
  | .readAlarmsSensor p => Sys2Proof.Machine.execReadAlarmsSensor p s
  | .ackAlarms p sources => Sys2Proof.Machine.execAckAlarms p sources s
  | .clearAlarm p source => Sys2Proof.Machine.execClearAlarm p source s
  | .writeIdentity p terminal site => Sys2Proof.Machine.execWriteIdentity p terminal site s
  | .readIdentity p => Sys2Proof.Machine.execReadIdentity p s
  | .lockIdentity p => Sys2Proof.Machine.execLockIdentity p s
  | .restart p mode => Sys2Proof.Machine.execRestart p mode s
  | .openCollection p code => Sys2Proof.Machine.execOpenCollection p code s
  | .closeCollection p => Sys2Proof.Machine.execCloseCollection p s
  | .readTally p => Sys2Proof.Machine.execReadTally p s
  | .testGate p => Sys2Proof.Machine.execTestGate p s
  | .requestFrameError p bytes => Sys2Proof.Machine.execRequestFrameError p bytes s
  | .readSelectPeriod p clocked => Sys2Proof.Machine.execReadSelectPeriod p clocked s
  | .acceptPulse channel => Sys2Proof.Machine.execAcceptPulse channel s
  | .escrowEntryEvent => Sys2Proof.Machine.execEscrowEntryEvent s
  | .boxEntryEvent => Sys2Proof.Machine.execBoxEntryEvent s
  | .returnChuteEvent => Sys2Proof.Machine.execReturnChuteEvent s
  | .rejectPulse => Sys2Proof.Machine.execRejectPulse s
  | .flightWindowExpiry => Sys2Proof.Machine.execFlightWindowExpiry s
  | .gateOperationStart => Sys2Proof.Machine.execGateOperationStart s
  | .gateWindowExpiry => Sys2Proof.Machine.execGateWindowExpiry s
  | .gateTestWindowExpiry => Sys2Proof.Machine.execGateTestWindowExpiry s
  | .collectionWindowExpiry => Sys2Proof.Machine.execCollectionWindowExpiry s
  | .collectionLockoutExpiry => Sys2Proof.Machine.execCollectionLockoutExpiry s
  | .carryCompletes => Sys2Proof.Machine.execCarryCompletes s
  | .settlementEnds => Sys2Proof.Machine.execSettlementEnds s
  | .offHook => Sys2Proof.Machine.execOffHook s
  | .onHook => Sys2Proof.Machine.execOnHook s
  | .firstDigitTimerExpiry => Sys2Proof.Machine.execFirstDigitTimerExpiry s
  | .interDigitTimerExpiry => Sys2Proof.Machine.execInterDigitTimerExpiry s
  | .depositTimerExpiry => Sys2Proof.Machine.execDepositTimerExpiry s
  | .lineWaitTimerExpiry => Sys2Proof.Machine.execLineWaitTimerExpiry s
  | .ringTimerExpiry => Sys2Proof.Machine.execRingTimerExpiry s
  | .followOnTimerExpiry => Sys2Proof.Machine.execFollowOnTimerExpiry s
  | .stepFallsDue => Sys2Proof.Machine.execStepFallsDue s
  | .warningPoint => Sys2Proof.Machine.execWarningPoint s
  | .scheduledActivationDue => Sys2Proof.Machine.execScheduledActivationDue s
  | .clockBecomesUnset => Sys2Proof.Machine.execClockBecomesUnset s
  | .orderLimitExpiry => Sys2Proof.Machine.execOrderLimitExpiry s
  | .centreSessionExpiry => Sys2Proof.Machine.execCentreSessionExpiry s
  | .sensorEdge sensor high => Sys2Proof.Machine.execSensorEdge sensor high s
  | .backoffExpiry => Sys2Proof.Machine.execBackoffExpiry s
  | .storeOperationStart => Sys2Proof.Machine.execStoreOperationStart s
  | .programDone => Sys2Proof.Machine.execProgramDone s
  | .markProgramDone => Sys2Proof.Machine.execMarkProgramDone s
  | .eraseDone => Sys2Proof.Machine.execEraseDone s
  | .eraseSliceEnd => Sys2Proof.Machine.execEraseSliceEnd s
  | .commitDone => Sys2Proof.Machine.execCommitDone s
  | .readRecordsReady => Sys2Proof.Machine.execReadRecordsReady s
  | .owedEraseQueued ring => Sys2Proof.Machine.execOwedEraseQueued ring s
  | .overflowRecord => Sys2Proof.Machine.execOverflowRecord s
  | .warnFalling => Sys2Proof.Machine.execWarnFalling s
  | .warnRising => Sys2Proof.Machine.execWarnRising s
  | .supplyReset => Sys2Proof.Machine.execSupplyReset s
  | .powerOnReset levels => Sys2Proof.Machine.execPowerOnReset levels s
  | .restartFallsDue levels => Sys2Proof.Machine.execRestartFallsDue levels s
  | .sensorCheck coins => Sys2Proof.Machine.execSensorCheck coins s
  | .flushWindowExpiry coins => Sys2Proof.Machine.execFlushWindowExpiry coins s
  | .saveSectorHousekeeping => Sys2Proof.Machine.execSaveSectorHousekeeping s
  | .supplyRisesPastFail levels => Sys2Proof.Machine.execSupplyRisesPastFail levels s
  | .debouncedChangeToOnHook => Sys2Proof.Machine.execDebouncedChangeToOnHook s

end Sys2Proof.Machine
end

