-- ==== Sys2Proof/Machine/Step.lean ====
section
/-! DEFINITION. One step: the command at the front of the queue runs on the state with the queue's rest; with no
command waiting the part goes on of itself (log 2). -/

namespace Sys2Proof.Machine

open Sys2Proof

def step (s : State) : Host.Outcome State Fault Refusal :=
  match s.pending with
  | c :: rest => exec c { s with pending := rest }
  | [] => match (idle s).2 with
    | some c => exec c (idle s).1
    | none => .next (idle s).1

/-- The command a table word spells, put at the front of the queue; no word spells one. -/
def State.withFetchWord (s : State) (nbits w : Nat) : State :=
  match decodeTableWord nbits w with
  | some c => { s with pending := c :: s.pending }
  | none => s

end Sys2Proof.Machine
end

