-- ==== Sys2Proof/Safety.lean ====
section
/-! DEFINITION. What counts as a sound state: the laws that the spec says the part keeps, each strengthened to what
every step can keep by itself. -/

namespace Sys2Proof.Machine

open Sys2Proof

/-! ### The array and the ports -/

/-- The places and the sector headers of the array are listed in their canonical form, keys strictly rising (R166). -/
def ArrayCanonical (s : State) : Prop := cellsWf s.store.array.cells ∧ headersWf s.store.array.headers

/-- Every notice queue holds at most sixteen records (R209). -/
def QueuesBounded (s : State) : Prop := ∀ p, (portOf s.ports p).queue.length ≤ Config.noticePlaces

/-! ### The locked identity (R183) -/

/-- An operation that could change what sector 0 says of the identity. -/
def touchesIdentity : StoreOp → Bool
  | .record p _ => p.sector == 0
  | .erase sector _ => sector == 0
  | .mark _ .lock => true
  | .mark _ .acknowledged => false
  | .mark _ .reported => false
  | .mark _ .superseded => false
  | .mark _ .resolved => false
  | .commit => false

/-- No operation that waits or is in flight can change the identity in sector 0. -/
def IdentityUntouched (st : Store) : Prop :=
  st.queue.all (fun op => !touchesIdentity op) = true ∧ st.reserved.all (fun op => !touchesIdentity op) = true
    ∧ st.program.all (fun j => !touchesIdentity j.op) = true ∧ st.erase.all (fun j => j.sector != 0) = true
    ∧ st.nextSave.all (fun x => x.1.sector != 0) = true ∧ st.callRing.sector ≠ 0 ∧ st.alarmRing.sector ≠ 0

/-- The identity is locked as `i`: sector 0 says so, and so does the working identity once the scan has run. -/
def LockedAs (i : Identity) (s : State) : Prop :=
  i.lock = .locked ∧ scanIdentity s.store.array = i ∧ IdentityUntouched s.store
    ∧ (s.supply.inReset = false → recoveryPending s = false → s.store.identity = i)

/-! ### The money of a call (R27, R33, R34) -/

/-- The account's amounts agree among themselves and with the escrow list. -/
def AccountBalanced (a : Account) (escrow : List EscrowCoin) : Prop :=
  a.d + a.k = a.e + a.b + a.r ∧ a.e = escrowValue escrow ∧ (a.phase = .idle → a = {} ∧ escrow = [])

/-- A save record holds a balanced account (R41, "when the record was consistent"). -/
def saveBalanced (r : SaveRecord) : Prop := AccountBalanced r.account r.escrow

/-- Every save record that an operation carries is balanced. -/
def OpBalanced (op : StoreOp) : Prop :=
  match op with
  | .record _ (.save r) => saveBalanced r
  | _ => True

def SavesBalanced (st : Store) : Prop :=
  (∀ kc ∈ st.array.cells, ∀ r, kc.2.record = some (.save r) → saveBalanced r)
    ∧ (∀ op ∈ st.queue, OpBalanced op) ∧ (∀ op, st.reserved = some op → OpBalanced op)
    ∧ (∀ j, st.program = some j → OpBalanced j.op) ∧ (∀ x, st.nextSave = some x → saveBalanced x.2)

/-- The gate agrees with the list: the coin in motion is the oldest entry, and n counts what is asked of the gate
(R7, R8, R25). -/
def GateAgrees (s : State) : Prop :=
  (∀ g, s.coin.gateOp = some g → g.motion ≠ .no ∧ (s.coin.escrow.head?.map (·.motion)) = some g.motion)
    ∧ s.account.n = collectsClaimed s.coin

/-- Refunds belong to the REFUND stage of a settlement (R31), where every charge is covered by banked money
(R36). -/
def RefundsInStage (s : State) : Prop :=
  ((s.coin.gateQueue.contains .refundAll = true ∨ ∃ g, s.coin.gateOp = some g ∧ g.motion = .refund) →
      ∃ r, s.account.phase = .settling .refund r)
    ∧ (∀ r, s.account.phase = .settling .refund r → s.account.c ≤ s.account.b)

/-- The three money laws together, with what keeps them: D + K = E + B + R (R27), C ≤ B + E (R33), and C covered by
banked and committed value (R34). -/
def MoneyLaws (s : State) : Prop :=
  AccountBalanced s.account s.coin.escrow
    ∧ s.account.c ≤ s.account.b + s.account.e
    ∧ s.account.c ≤ s.account.b + committedValue s
    ∧ GateAgrees s ∧ RefundsInStage s ∧ SavesBalanced s.store
    ∧ (recoveryPending s = true → s.account.phase = .idle)

/-! ### The line and the call (R72, R118 to R120, R155) -/

/-- The call states between the grant of the line and the end of its ownership (R67, R72, R74, R77). -/
def holdsLine (x : CallState) : Bool :=
  x == .connecting || x == .alerting || x == .connected || x == .warning || x == .clearing

/-- The party that an order of this kind serves (R120). -/
def serves (body : OrderBody) (o : Owner) : Prop :=
  match body with
  | .connect _ _ => o = .customer
  | .tone _ => o = .customer
  | .release => o = .customer
  | .report _ _ _ => o = .report
  | .abort _ => o = .report ∨ o = .centre

/-- The slot holds an order only of the present owner, of a kind that serves it; a RELEASE only of a call that is
being cleared (R74, R119, R120). -/
def SlotLaw (s : State) : Prop :=
  ∀ o, s.line.slot = some o →
    o.owner = s.line.owner ∧ serves o.body s.line.owner ∧ (o.body = .release → s.call.state = .clearing)

/-- No claim waits on a free line, a pre-empting claim waits for a current ABORT, and the call has one claim at most
(R114 to R118). -/
def ClaimLaw (l : Line) : Prop :=
  (l.waitingCustomer.isSome = true → l.owner = .report ∨ l.owner = .centre)
    ∧ ¬ (l.waitingCustomer.isSome = true ∧ l.preempting.isSome = true)
    ∧ (l.preempting.isSome = true → currentKind l = some .abort)
    ∧ (l.waitingReport.isSome = true → l.owner = .customer ∨ l.owner = .centre)

/-- The report unit is IN_CALL exactly while it owns the line, and CLAIMED exactly while its claim waits (R151,
R155). -/
def ReportLaw (s : State) : Prop :=
  (s.line.owner = .report ↔ s.report.state = .inCall) ∧ (s.line.waitingReport.isSome = true ↔ s.report.state = .claimed)

/-- The call's part: it owns the line from its grant to the end of its clearing, in CONNECTED and WARNING among
others (R72); it has a claim only in WAIT_LINE; its timers belong to their states, a digit timer to an analysis that runs
(R52, R53); a carry runs in AFTER_CALL and a settlement of the call in SETTLING. -/
def CallLaw (s : State) : Prop :=
  (s.line.owner = .customer ↔ holdsLine s.call.state = true)
    ∧ (s.line.waitingCustomer.isSome = true ∨ s.line.preempting.isSome = true → s.call.state = .waitLine)
    ∧ (s.call.state = .waitLine → s.call.acceptance.isSome = true)
    ∧ (callTimerRuns .deposit s = true → s.call.state = .waitCoins)
    ∧ (callTimerRuns .lineWait s = true → s.call.state = .waitLine)
    ∧ (callTimerRuns .ring s = true → s.call.state = .alerting)
    ∧ (s.analyser.timer.isSome = true → s.call.state = .collecting)
    ∧ (s.analyser.timer.isSome = true → analysisRuns s.analyser = true)
    ∧ (s.account.phase = .opened true → s.call.state = .afterCall)
    ∧ (∀ stage, s.account.phase = .settling stage false → s.call.state = .settling)

/-- The laws of the line together. -/
def LineLaws (s : State) : Prop := SlotLaw s ∧ ClaimLaw s.line ∧ ReportLaw s ∧ CallLaw s

/-! ### Running -/

/-- The part runs: it has power and recovery has ended (R187, R192). -/
def Running (s : State) : Prop := s.supply.inReset = false ∧ s.supply.recovery = none

/-- What a raising, a clear or a weighing leaves as it is: everything but the alarm and report units, the line, the
write queue with what stands beside it, the notices and the count of free values (R138 to R145, R152). -/
def SameOutsideAlarm (s t : State) : Prop :=
  t.pending = s.pending ∧ t.now = s.now ∧ t.cfg = s.cfg ∧ t.coin = s.coin ∧ t.account = s.account
    ∧ t.analyser = s.analyser ∧ t.call = s.call ∧ t.tariff = s.tariff ∧ t.supply = s.supply
    ∧ t.store.array = s.store.array

/-- The COLLECT requests that the shortfall check posts for an account and its coin unit, `k` of them (R8, R34): each while C
exceeds B plus the committed value and a coin is left that no COLLECT claims; after them C is covered or every coin is
claimed. -/
def CollectsPosted (k : Nat) (a : Account) (c : CoinUnit) : Prop :=
  let committed := fun (n : Nat) => ((c.escrow.take n).map (·.value)).sum
  let claimed := (c.gateQueue.filter (· == .collect)).length + (if c.gateOp.map (·.motion) = some .collect then 1 else 0)
  (∀ i, i < k → a.b + committed (a.n + i) < a.c ∧ claimed + i < c.escrow.length)
    ∧ (a.c ≤ a.b + committed (a.n + k) ∨ c.escrow.length ≤ claimed + k)

/-- The account and the coin unit in `t` are `a` and `c` after the shortfall check (R34): n has risen by the COLLECTs posted;
and in the COLLECT stage of a settlement with n 0 the account has entered REFUND and a REFUND_ALL is queued, one that was
queued already staying alone (R8, R36, R37). -/
def CollectionsChecked (a : Account) (c : CoinUnit) (t : State) : Prop :=
  ∃ k, CollectsPosted k a c ∧
    let queue := c.gateQueue ++ List.replicate k .collect
    (∀ r, a.phase = .settling .collect r → a.n + k = 0 →
      t.account = { a with phase := .settling .refund r }
        ∧ t.coin = { c with gateQueue := if .refundAll ∈ queue then queue else queue ++ [.refundAll] })
    ∧ ((∀ r, a.phase ≠ .settling .collect r) ∨ a.n + k ≠ 0 →
        t.account = { a with n := a.n + k } ∧ t.coin = { c with gateQueue := queue })

/-- No read of this port waits for the array (R204). -/
def SlotFree (p : Port) (s : State) : Prop := (portOf s.ports p).slot ≠ .notReady

/-- The state with the response to a request frame in a port's slot, and otherwise unchanged (R200, R204). -/
def answeredWith (p : Port) (code : ResultCode) (fields : List Byte) (s : State) : State :=
  { s with ports := setPort p { portOf s.ports p with slot := .ready code fields, fetch := none, sent := .ofRequest } s.ports }

/-- The line once an order of the present owner has entered the slot: POSTED, with the next number and its own limit
in tenths of a second (R119, R120, R123). -/
def lineWithOrder (body : OrderBody) (limit : Nat) (s : State) : Line :=
  { s.line with
    counter := if 255 ≤ s.line.counter then 1 else s.line.counter + 1
    slot := some
      { body := body, number := if 255 ≤ s.line.counter then 1 else s.line.counter + 1, owner := s.line.owner
        taken := false, limit := s.now + limit } }

/-- The entry to CLEARING from `s` to `t` with this cause (R74): the outcome is fixed where none stands, the call timer,
the metering and the connected duration stop, the after-dial queue empties, and a call that owns the line has RELEASE
posted. The marks are the cause's own; nothing else changes but the notices. -/
def EntersClearing (o : CallOutcome) (s t : State) : Prop :=
  t.call.state = .clearing
    ∧ (s.call.outcome = none → t.call.outcome = some o ∧ t.call.reason = none)
    ∧ (s.call.outcome ≠ none → t.call.outcome = s.call.outcome ∧ t.call.reason = s.call.reason)
    ∧ t.call.timer = none ∧ t.call.afterDial = [] ∧ t.call.connectedSince = none ∧ t.call.duration = connectedDuration s
    ∧ t.call.acceptance = s.call.acceptance ∧ t.call.startTime = s.call.startTime
    ∧ t.call.bandAtAnswer = s.call.bandAtAnswer ∧ t.call.heldOffHook = s.call.heldOffHook
    ∧ t.tariff = { s.tariff with meter := t.tariff.meter } ∧ t.tariff.meter.state = .stopped
    ∧ (s.tariff.meter.state ≠ .stopped → t.call.steps = s.tariff.meter.steps)
    ∧ (s.line.owner = .customer → t.line = lineWithOrder .release 50 s)
    ∧ t = { s with call := t.call, tariff := t.tariff, line := t.line, ports := t.ports }

/-- The settle request to an account that is OPEN (R36): it is SETTLING with the same money, in FLIGHT while a coin flies,
else past the check of the COLLECT stage; of the coin unit the gate queue alone may change. -/
def AccountSettles (s t : State) : Prop :=
  (∃ stage, t.account.phase = .settling stage false)
    ∧ (s.coin.flight ≠ none → t.account = { s.account with phase := .settling .flight false } ∧ t.coin = s.coin)
    ∧ (s.coin.flight = none → CollectionsChecked { s.account with phase := .settling .collect false } s.coin t)
    ∧ t.account = { s.account with phase := t.account.phase, n := t.account.n }
    ∧ t.coin = { s.coin with gateQueue := t.coin.gateQueue }

/-- The entry to SETTLING of a call whose account is OPEN (R36, R76, R84): the account settles; and nothing but the call, its
analysis, its claim, the account and the gate queue changes. -/
def EntersSettling (s t : State) : Prop :=
  t.call.state = .settling ∧ t.call.timer = none ∧ AccountSettles s t
    ∧ t = { s with
        call := t.call, analyser := t.analyser, account := t.account, coin := t.coin, line := t.line, ports := t.ports }

/-- The call when its ownership has ended by a failure of the line, before its marks move it on (R78): from CONNECTING to
WARNING the outcome is fixed, timer, metering and connected duration stop and the after-dial queue empties; in CLEARING
all that is done already. -/
def failedCall (s : State) : Call :=
  if s.call.state = .clearing then s.call
  else { s.call with
    outcome := s.call.outcome.or (some .failed)
    reason := if s.call.outcome = none then none else s.call.reason
    timer := none, afterDial := [], connectedSince := none, duration := connectedDuration s
    steps := if s.tariff.meter.state = .stopped then s.call.steps else s.tariff.meter.steps }

/-- A call that loses its line is moved on by its marks, from `s` to `t`, as a done RELEASE moves it (R77, R78): hung up it
settles, with the follow-on mark it carries, with neither the follow-on timer starts. -/
def MovedByMarks (s t : State) : Prop :=
  (s.call.hangUp = true → t.call = { failedCall s with state := .settling, timer := none } ∧ AccountSettles s t)
    ∧ (s.call.hangUp = false → s.call.followOn = true → s.account.phase = .opened false →
        t.call = { failedCall s with state := .afterCall }
        ∧ CollectionsChecked { s.account with phase := .opened true } s.coin t)
    ∧ (s.call.hangUp = false → s.call.followOn = false →
        t.call = { failedCall s with state := .afterCall, timer := some (.followOn, s.now + 200) }
        ∧ t.account = s.account ∧ t.coin = s.coin)
    ∧ t.tariff = { s.tariff with meter := t.tariff.meter }
    ∧ (s.call.state = .clearing ∨ s.tariff.meter.state = .stopped → t.tariff = s.tariff)
    ∧ (s.call.state ≠ .clearing → t.tariff.meter.state = .stopped)

/-- A number is refused, from `s` to `t` (R57, R65): the analysis is DECIDED, the call REFUSED with the reason. -/
def NumberRefused (r : Reason) (buffer : Digits) (s t : State) : Prop :=
  t.analyser.state = .decided ∧ t.analyser.buffer = buffer ∧ t.analyser.timer = none
    ∧ t.call.state = .refused ∧ t.call.acceptance = none
    ∧ (s.call.outcome = none → t.call.outcome = some .refused ∧ t.call.reason = some r)
    ∧ t = { s with call := t.call, analyser := t.analyser, ports := t.ports }

/-- A complete number of this plan entry is accepted, from `s` to `t` (R55, R56, R65 to R67, R114, R116, R117): it is held
with its locked row and its deposit; below the deposit the call waits for coins, else it claims the line. -/
def NumberAccepted (e : PlanEntry) (buffer : Digits) (s t : State) : Prop :=
  let metered := !(e.cls == .free || e.noCoin || e.emergency)
  let row := s.cfg.bank.getD (classByte e.cls) []
  let deposit := if metered then (row.map (fun x => x.connection + x.step)).foldl max 0 else 0
  t.call.acceptance = some { digits := buffer, cls := e.cls, emergency := e.emergency, metered := metered
                             row := if metered then some row else none, generation := s.cfg.generation
                             deposit := deposit }
    ∧ t.analyser = { state := .decided, buffer := buffer, timer := none
                     decision := some (.accepted e.cls metered deposit) }
    ∧ (available s.account < deposit →
        t.call.state = .waitCoins ∧ t.call.timer = some (.deposit, s.now + 600) ∧ t.line = s.line)
    ∧ (deposit ≤ available s.account → s.line.owner = .nobody → s.line.waitingCustomer = none →
        s.line.preempting = none → s.line.slot = none →
        t.call.state = .connecting ∧ t.call.timer = none
        ∧ t.line = lineWithOrder (.connect buffer e.cls) 400 { s with line := { s.line with owner := .customer } })
    ∧ (deposit ≤ available s.account → s.line.owner ≠ .nobody →
        t.call.state = .waitLine ∧ t.call.timer = some (.lineWait, s.now + 900)
        ∧ (s.line.owner = .customer ∨ s.line.waitingCustomer ≠ none ∨ s.line.preempting ≠ none → t.line = s.line)
        ∧ (s.line.owner ≠ .customer → s.line.waitingCustomer = none → s.line.preempting = none →
            let preempts := e.emergency = true ∨ (s.line.owner = .report ∧ ∀ i ∈ s.report.batch, i.severity ≠ .critical)
            let preempting := { s with line := { s.line with preempting := some e.emergency } }
            (preempts → currentKind s.line ≠ some .abort → t.line = lineWithOrder (.abort false) 50 preempting)
            ∧ (preempts → currentKind s.line = some .abort → t.line = preempting.line)
            ∧ (¬ preempts → t.line = { s.line with waitingCustomer := some e.emergency })))
    ∧ t = { s with call := t.call, analyser := t.analyser, line := t.line, ports := t.ports }

/-- The call record of the account in `s`, as it ends with this outcome (R86, R87); E is among the figures (R40; log 33). -/
def callRecordOf (outcome : CallOutcome) (forfeited : Option Nat) (followOn : Bool) (s : State) : CallRecord :=
  { start := s.call.startTime, duration := connectedDuration s
    digits := s.call.acceptance.map (·.digits), cls := s.call.acceptance.map (·.cls), band := s.call.bandAtAnswer
    outcome := outcome, reason := s.call.reason
    figures := { d := s.account.d, k := s.account.k, e := s.account.e, b := s.account.b, r := s.account.r
                 c := s.account.c, j := s.account.j, unconfirmed := s.account.unconfirmed }
    forfeited := forfeited, generation := s.call.acceptance.map (·.generation), steps := s.call.steps
    tallyCoins := s.coin.tally.coins, tallyValue := s.coin.tally.value, followOn := followOn }

/-- What becomes of a call record from `s` to `t`, with no work of the store waiting (R86, R173, R174): it is posted where the
account held money or the call a number; one that the store refuses is counted into the totals and raises STORE. -/
def CallRecorded (r : CallRecord) (s t : State) : Prop :=
  let due := 0 < r.figures.d + r.figures.k ∨ s.call.acceptance ≠ none
  let sum := fun (a b : Nat) => min 4294967295 (a + b)
  (¬ due → t.store = s.store)
    ∧ (due → ∀ x, postRing .call (.call r) s.store = some x →
        t.store = x.1 ∧ x.1.queue = s.store.queue ++ [.record x.2 (.call r)])
    ∧ (due → postRing .call (.call r) s.store = none →
        (alarmEntry t.alarm srcStore).state ≠ .quiet
        ∧ t.store.totals =
          { calls := min 65535 (s.store.totals.calls + 1)
            d := sum s.store.totals.d r.figures.d, k := sum s.store.totals.k r.figures.k
            b := sum s.store.totals.b r.figures.b, r := sum s.store.totals.r r.figures.r
            c := sum s.store.totals.c r.figures.c, j := sum s.store.totals.j r.figures.j
            forfeited := sum s.store.totals.forfeited (r.forfeited.getD 0)
            tallyCoins := r.tallyCoins, tallyValue := r.tallyValue
            first := if s.store.totals.calls = 0 then r.start else s.store.totals.first, last := r.start })

/-- What a posted alarm record, kept in `x`, leaves of the store and of the notices from `s` to `t` (R139, R172, R173): the
record is the queue's newest, RING_STATE goes before its own notice where the ring is FULL now, and what else is posted comes
behind. -/
def AlarmTold (x : Store × Place) (record : Record) (k : NoticeKind) (fields : List Byte) (s t : State) : Prop :=
  t.store = x.1 ∧ x.1.queue = s.store.queue ++ [.record x.2 record]
    ∧ ∀ p, (portOf (postNotice k fields (if x.1.alarmRing.full = true then postNotice .ringState (byte1 1 ++ byte1 0) s
        else s)).ports p).queue <+: (portOf t.ports p).queue

/-- A clear from `s` to `t` with no work of the store waiting (R139, R144): entry and sensor at their first values, the CLEARED
record posted or lost, the notice, the service state. The raising of STORE for a lost record goes ahead of the clear's own
notice (log 8). -/
def SourceCleared (i : Nat) (origin : Origin) (s t : State) : Prop :=
  let e := alarmEntry s.alarm i
  let record : Record := .alarm
    { cleared := true, source := i, severity := (sourceSetup s.cfg i).severity, masked := (sourceSetup s.cfg i).masked
      origin := origin, time := timeOfDay s, count := e.count }
  let fields := byte1 i ++ byte1 e.count ++ byte1 (match origin with
    | .servicePort => 1
    | .automatic => 2
    | _ => 0)
  SameOutsideAlarm s t ∧ alarmEntry t.alarm i = {} ∧ t.alarm.service = derivedService t
    ∧ (i ≤ 7 → i < s.alarm.sensors.length →
        sensorState t.alarm i = { sensorState s.alarm i with hits := [], raisedLevel := none })
    ∧ (∀ x, postRing .alarm record s.store = some x → AlarmTold x record .alarmCleared fields s t)
    ∧ (postRing .alarm record s.store = none → t.store = s.store
        ∧ (i ≠ srcStore → (alarmEntry t.alarm srcStore).state ≠ .quiet
            ∧ let told := raise srcStore .recordStore { s with alarm := { s.alarm with entries := s.alarm.entries.set i {} } }
              ∀ p, (portOf (postNotice .alarmCleared fields told).ports p).queue <+: (portOf t.ports p).queue)
        ∧ (i = srcStore → ∀ p, (portOf (postNotice .alarmCleared fields s).ports p).queue <+: (portOf t.ports p).queue))

/-- A request frame has been taken on a port where no read waits: its slot is EMPTY, and the part sent bytes of 255
meanwhile (R200, R204). -/
def frameTaken (p : Port) (s : State) : State :=
  { s with ports := setPort p { portOf s.ports p with slot := .empty, fetch := none, sent := .ofRequest } s.ports }

/-- The customer claim of an acceptance is granted, from `u`, where the claim has left the waiting claims, to `t`: the owner
is CUSTOMER with CONNECT posted, and the call is CONNECTING (R67, R115). -/
def CustomerGranted (a : Acceptance) (u t : State) : Prop :=
  t.line = lineWithOrder (.connect a.digits a.cls) 400 { u with line := { u.line with owner := .customer } }
    ∧ t.call = { u.call with state := .connecting, timer := none }
    ∧ t = { u with call := t.call, line := t.line, ports := t.ports }

/-- The centre that a report call dials (R157). -/
def centreToDial (u : State) : Centre :=
  if u.report.centre = .fallback ∧ u.cfg.fallback = [] then .primary else u.report.centre

/-- The report claim is granted for a need that holds, from `u` to `t` (R115, R155, R157): every unmasked RAISED source is
REPORTING and an item of the batch, and the owner is REPORT with the REPORT order posted. -/
def ReportGranted (u t : State) : Prop :=
  let number := match centreToDial u with
    | .primary => u.cfg.primary
    | .fallback => u.cfg.fallback
  let batch : List BatchItem := (batchOrder u).map (fun i =>
    { source := i, severity := (sourceSetup u.cfg i).severity, count := (alarmEntry u.alarm i).count
      first := (alarmEntry u.alarm i).first, last := (alarmEntry u.alarm i).last, place := (alarmEntry u.alarm i).latest })
  t.line = lineWithOrder (.report number u.store.identity.terminal batch) 1800
      { u with line := { u.line with owner := .report } }
    ∧ t.report = { u.report with
        state := .inCall, batch := batch, dialled := centreToDial u, centre := centreToDial u
        run := if centreToDial u = u.report.centre then u.report.run else 0 }
    ∧ (∀ i, alarmEntry t.alarm i = if i ∈ batchOrder u then { alarmEntry u.alarm i with state := .reporting }
        else alarmEntry u.alarm i)
    ∧ t.alarm = { u.alarm with entries := t.alarm.entries }
    ∧ t = { u with line := t.line, report := t.report, alarm := t.alarm, ports := t.ports }

/-- The report unit after a failed report call (R157, R160, R163). -/
def failedReport (s : State) : Report :=
  let failures := min 255 (s.report.failures + 1)
  let other : Centre := match s.report.centre with
    | .primary => if s.cfg.fallback = [] then .primary else .fallback
    | .fallback => .primary
  { s.report with
    state := .backoff, batch := [], failures := failures
    run := if s.report.run < 2 then s.report.run + 1 else 0
    centre := if s.report.run < 2 then s.report.centre else other
    backoffUntil := some (s.now + 10 * (if failures = 1 then 60 else if failures = 2 then 120 else if failures = 3 then 240
      else if failures = 4 then 480 else 900)) }

/-- The alarm table once the sources of the batch have left REPORTING for RAISED (R160, R161). -/
def BatchReturned (s t : State) : Prop :=
  (∀ i, alarmEntry t.alarm i = if i ∈ s.report.batch.map (·.source) then
      { alarmEntry s.alarm i with state := .raised, reRaised := false } else alarmEntry s.alarm i)
    ∧ t.alarm = { s.alarm with entries := t.alarm.entries }

/-- What a start restores of an alarm source from the alarm ring (R149, R194): nothing where its latest record is CLEARED or
bears the reported mark; else RAISED with the record's count, time and place. -/
def restoredEntry (i : Nat) (st : Store) : AlarmEntry :=
  match (sourceRecords i st).getLast? with
  | some (place, r, reported) =>
    if r.cleared || reported then {}
    else { state := .raised, count := r.count, first := restoredFirst i st, last := r.time
           latest := some place }
  | none => {}

/-- The request a command brings and the port it came from; none for an event of the outside or of the part itself
(R205). -/
def requestOfCommand : Instr → Option (Request × Port)
  | .keyDigit p _ => some (.key, p)
  | .keyCancel p => some (.key, p)
  | .keyFollowOn p => some (.key, p)
  | .readAccount p => some (.readAccount, p)
  | .readCall p => some (.readCall, p)
  | .readStatus p => some (.readStatus, p)
  | .fetchNotices p => some (.fetchNotices, p)
  | .setNoticeMask p _ => some (.setNoticeMask, p)
  | .fetchOrder p _ => some (.fetchOrder, p)
  | .orderDone p _ _ _ => some (.orderDone, p)
  | .answer p => some (.lineEvent, p)
  | .busy p => some (.lineEvent, p)
  | .farClear p => some (.lineEvent, p)
  | .meterPulse p => some (.lineEvent, p)
  | .lineLost p => some (.lineEvent, p)
  | .lineRestored p => some (.lineEvent, p)
  | .claimCentre p => some (.claimCentre, p)
  | .endCentre p => some (.endCentre, p)
  | .setClock p _ => some (.setClock, p)
  | .readClock p => some (.readClock, p)
  | .writeCalendarDayType p _ _ => some (.writeCalendar, p)
  | .writeCalendarHoliday p _ _ => some (.writeCalendar, p)
  | .writeTariff p _ _ _ => some (.writeTariff, p)
  | .readTariff p _ _ _ => some (.readTariff, p)
  | .activateTariff p _ => some (.activateTariff, p)
  | .writePlan p _ _ => some (.writePlan, p)
  | .readPlan p _ => some (.readPlan, p)
  | .writeCoin p _ _ => some (.writeCoin, p)
  | .writeAlarmSetupSource p _ _ _ _ => some (.writeAlarmSetup, p)
  | .writeAlarmSetupSensor p _ _ _ _ => some (.writeAlarmSetup, p)
  | .writeSettingInterDigit p _ => some (.writeSetting, p)
  | .writeSettingRing p _ => some (.writeSetting, p)
  | .writeSettingBoxCapacity p _ => some (.writeSetting, p)
  | .writeSettingCollectionCode p _ => some (.writeSetting, p)
  | .writeSettingReportThreshold p _ => some (.writeSetting, p)
  | .writeSettingPriorityMode p _ => some (.writeSetting, p)
  | .writeSettingPrimaryCentre p _ => some (.writeSetting, p)
  | .writeSettingFallbackCentre p _ => some (.writeSetting, p)
  | .commitConfig p => some (.commitConfig, p)
  | .readRecords p _ _ _ => some (.readRecords, p)
  | .ackRecords p _ _ => some (.ackRecords, p)
  | .readAlarmsSource p _ _ => some (.readAlarms, p)
  | .readAlarmsSensor p => some (.readAlarms, p)
  | .ackAlarms p _ => some (.ackAlarms, p)
  | .clearAlarm p _ => some (.clearAlarm, p)
  | .writeIdentity p _ _ => some (.writeIdentity, p)
  | .readIdentity p => some (.readIdentity, p)
  | .lockIdentity p => some (.lockIdentity, p)
  | .restart p _ => some (.restart, p)
  | .openCollection p _ => some (.openCollection, p)
  | .closeCollection p => some (.closeCollection, p)
  | .readTally p => some (.readTally, p)
  | .testGate p => some (.testGate, p)
  | _ => none

end Sys2Proof.Machine
end

