-- ==== Sys2Proof/Certificates/Slice0/Obligations.lean ====
section
/-! DEFINITION. The statements for the provers. A statement about a request says what is answered in the response
slot of its port and what else changes; one about an event says the next state. `Running` is a part with power whose
recovery has ended, `awake` one whose blocks take events. The last sentence of a docstring names the log entry where
a statement rests on a choice of the model. -/

section

open Sys2Proof Sys2Proof.Machine

/-! ### The step -/

/-- Tier 1. The command at the front of the queue runs on the state with the queue's rest. -/
def Obligations.StepRunsFrontCommand : Prop :=
  ∀ (c : Instr) (rest : List Instr) (s : State), step { s with pending := c :: rest } = exec c { s with pending := rest }

/-- Tier 1. With an empty queue a running part runs the first of its own steps that is ready, an expiry that has come due
before any other, as the command that it is; with none ready a tenth of a second passes on the part's count and on its
clock, and with the tenth that the clock cannot take CLOCK_BECOMES_UNSET runs (R97); a part held in reset only lets time
pass (model's choice: log 1, log 2). -/
def Obligations.EmptyQueueStep : Prop :=
  ∀ s : State, s.pending = [] →
    (s.supply.inReset = true → step s = .next (tick s))
    ∧ (Running s → ∀ c rest, dueTimers s = c :: rest → step s = exec c s)
    ∧ (Running s → ∀ c, readyCommand s = some c → step s = exec c s)
    ∧ (Running s → readyCommand s = none →
        (s.tariff.clock = none → step s = .next { s with now := s.now + 1 })
        ∧ (∀ c, s.tariff.clock = some c →
            (∀ d, clockTick c = some d →
              step s = .next { s with now := s.now + 1, tariff := { s.tariff with clock := some d } })
            ∧ (clockTick c = none → step s = exec .clockBecomesUnset { s with now := s.now + 1 })))

/-- Tier 2. Every command, with any operands and in any state, ends in a next state, and takes nothing from the queue of
commands and adds nothing to it; time stands still meanwhile. -/
def Obligations.EveryCommandCompletes : Prop :=
  ∀ (c : Instr) (s : State), ∃ t, exec c s = .next t ∧ t.pending = s.pending ∧ t.now = s.now

/-! ### The laws that every step keeps -/

/-- Tier 3. Every step keeps the array's canonical form: a place is listed once, in key order. -/
def Obligations.ArrayStaysCanonical : Prop :=
  ∀ s t : State, ArrayCanonical s → step s = .next t → ArrayCanonical t

/-- Tier 3. Every step keeps every notice queue at sixteen records or fewer (R209). -/
def Obligations.NoticeQueuesStayBounded : Prop :=
  ∀ s t : State, QueuesBounded s → step s = .next t → QueuesBounded t

/-- Tier 3. Every step keeps the money laws: D + K = E + B + R, E the escrow list's value, C no more than B + E, and C
covered by banked and committed coins (R25, R27, R33, R34), with the laws of gate and save records that carry them. -/
def Obligations.MoneyLawsAreKept : Prop :=
  ∀ s t : State, MoneyLaws s → step s = .next t → MoneyLaws t

/-- Tier 3. Every step keeps the laws of the line: the slot holds an order only of the present owner (R119), nothing
waits on a free line (R118), a report call owns the line as long as it lasts (R155), and a call in CONNECTED or WARNING
owns it as CUSTOMER (R72). -/
def Obligations.LineLawsAreKept : Prop :=
  ∀ s t : State, LineLaws s → step s = .next t → LineLaws t

/-- Tier 3. A locked identity never changes: whatever a step does, resets and supply failures among it, sector 0 goes on
saying the same identity, LOCKED, and so does the working identity once the scan has run (R183). -/
def Obligations.LockedIdentityIsKept : Prop :=
  ∀ (i : Identity) (s t : State), LockedAs i s → step s = .next t → LockedAs i t

/-- Tier 1. The state after reset, whose array is blank (model's choice: log 4), meets the laws, so that they hold in
every state a run reaches. -/
def Obligations.ResetMeetsTheLaws : Prop :=
  ArrayCanonical State.reset ∧ QueuesBounded State.reset ∧ MoneyLaws State.reset ∧ LineLaws State.reset

/-! ### Notices -/

/-- Tier 2. Posting a notice of one record (R209): BOX_NEAR is offered to the line port alone, every other notice to all
three ports; at a port whose mask leaves the class out nothing changes; at one that takes it the record, with the time
of day and its field bytes filled up to eight with zeros, becomes the newest of the queue, or, where sixteen records
stand there, is dropped and sets the class's lost flag. Nothing but the ports changes. IDENTITY_LOCKED (R183) goes to all
three ports in two records, the terminal number packed two digits to a byte, 15 standing for no digit (to the end of the
eight bytes: log 34), then the site code; a port that takes its class queues both, or, with fewer than two places free,
neither, and sets its SYSTEM lost flag. The attention output of a port
(R201) is asserted while its queue holds a notice, the line port's also while the slot holds an order that is POSTED;
after every kind of reset all three are released. -/
def Obligations.NoticeIsOfferedToEachPort : Prop :=
  (∀ (p : Port) (cause : StartCause) (s : State),
    (attention s p = true ↔
      (portOf s.ports p).queue ≠ [] ∨ (p = .line ∧ ∃ o, s.line.slot = some o ∧ o.taken = false))
    ∧ attention (resetVolatile cause s) p = false)
  ∧ (∀ (k : NoticeKind) (fields : List Byte) (s : State),
    postNotice k fields s = { s with ports := (postNotice k fields s).ports }
    ∧ ∀ p : Port,
        let v := portOf s.ports p
        let w := portOf (postNotice k fields s).ports p
        let bit := classBit (noticeClass k)
        let n : Notice := { kind := k, time := s.tariff.clock.map tenthsOfDay, fields := padFields fields }
        (k = .boxNear ∧ p ≠ .line → w = v)
        ∧ (v.mask &&& bit = 0 → w = v)
        ∧ (¬ (k = .boxNear ∧ p ≠ .line) → v.mask &&& bit ≠ 0 → v.queue.length < 16 →
            w = { v with queue := v.queue ++ [n] })
        ∧ (¬ (k = .boxNear ∧ p ≠ .line) → v.mask &&& bit ≠ 0 → 16 ≤ v.queue.length →
            w.queue = v.queue ∧ w.lost = v.lost ||| bit ∧ w.slot = v.slot ∧ w.mask = v.mask ∧ w.sent = v.sent))
  ∧ (∀ (terminal : Digits) (site : Nat) (s : State), terminal.length ≤ 16 →
      let t := offerAll .identityLocked [packTerminal terminal, byte2 site] s
      (packTerminal terminal).length = 8
      ∧ (∀ k, k < 8 → (packTerminal terminal).getD k 0 =
          BitVec.ofNat 8 (terminal.getD (2 * k) 15 * 16 + terminal.getD (2 * k + 1) 15))
      ∧ t = { s with ports := t.ports }
      ∧ ∀ p : Port,
          let v := portOf s.ports p
          let w := portOf t.ports p
          let n := fun (fields : List Byte) =>
            ({ kind := .identityLocked, time := s.tariff.clock.map tenthsOfDay, fields := fields } : Notice)
          (v.mask &&& classBit .system = 0 → w = v)
          ∧ (v.mask &&& classBit .system ≠ 0 → v.queue.length ≤ 14 →
              w = { v with queue := v.queue ++ [n (packTerminal terminal), n (byte2 site ++ [0, 0, 0, 0, 0, 0])] })
          ∧ (v.mask &&& classBit .system ≠ 0 → 15 ≤ v.queue.length →
              w.queue = v.queue ∧ w.lost = v.lost ||| classBit .system ∧ w.slot = v.slot ∧ w.mask = v.mask
              ∧ w.sent = v.sent))

/-! ### Requests -/

/-- Tier 2. Every request is checked before its owner sees it (R203, R204): on a port that the catalogue does not give
it, REFUSED_PORT; while recovery runs, any but READ_STATUS and FETCH_NOTICES, REFUSED_STATE. Nothing else changes, but
for a read of this port that waited for the array: it is withdrawn, and an erase suspended for it alone resumes. -/
def Obligations.RequestsAreCheckedFirst : Prop :=
  ∀ (c : Instr) (q : Request) (p : Port) (s : State), requestOfCommand c = some (q, p) → s.supply.inReset = false →
    ∀ code, (permitted q p = false ∧ code = ResultCode.refusedPort)
        ∨ (permitted q p = true ∧ recovering s = true ∧ q ≠ .readStatus ∧ q ≠ .fetchNotices
            ∧ code = ResultCode.refusedState) →
      (SlotFree p s → exec c s = .next (answeredWith p code [] s))
      ∧ (¬ SlotFree p s →
          exec c s = .next (answeredWith p code [] { s with store := resumeErase { s.store with read := none } }))

/-- Tier 1. READ_IDENTITY, on any port, is answered OK with the terminal number, the site code and the lock state, and
changes nothing (R184). -/
def Obligations.ReadIdentityAnswers : Prop :=
  ∀ (p : Port) (s : State), Running s → SlotFree p s →
    exec (.readIdentity p) s = .next (answeredWith p .ok
      (digitBytes s.store.identity.terminal ++ byte2 s.store.identity.site
        ++ byte1 (match s.store.identity.lock with
          | .unlocked => 0
          | .locking => 1
          | .locked => 2)) s)

/-- Tier 2. The reading requests of the account, the call, the clock, the tariff, a plan entry, the alarm table and the
box are answered OK from the state as it stands, in every call state, and change nothing; READ_STATUS is answered on
every port, during recovery too (R22, R42, R49, R88, R92, R99, R147, R148, R207; field layouts: log 7, log 34). -/
def Obligations.ReadRequestsChangeNothing : Prop :=
  ∀ s : State,
    (∀ p, s.supply.inReset = false → SlotFree p s →
      exec (.readStatus p) s = .next (answeredWith p .ok (statusFields p s) s))
    ∧ (Running s → ∀ p, SlotFree p s →
        (p ≠ .service → exec (.readAccount p) s = .next (answeredWith p .ok (accountFields s) s))
        ∧ (p ≠ .service → exec (.readCall p) s = .next (answeredWith p .ok (callFields s) s))
        ∧ (p = .line → exec (.readClock p) s = .next (answeredWith p .ok (clockFields s) s))
        ∧ (p = .line → ∀ b cls band, cls ≤ 7 → band ≤ 3 →
            exec (.readTariff p (some b) cls band) s = .next (answeredWith p .ok
              (entryForm (bankEntry b cls band s) ++ byte2 s.cfg.generation ++ scheduleBytes s.tariff.schedule) s))
        ∧ (p = .line → ∀ entry,
            (entry ≤ 47 → exec (.readPlan p entry) s = .next (answeredWith p .ok
              (let e := s.cfg.plan.getD entry {}
               digitBytes e.digits ++ byte1 e.minLen ++ byte1 e.maxLen ++ byte1 (classByte e.cls) ++ flagByte e.barred
                ++ flagByte e.emergency ++ flagByte e.noCoin ++ flagByte e.dialAtMin) s))
            ∧ (47 < entry → exec (.readPlan p entry) s = .next (answeredWith p .refusedRange [] s)))
        ∧ (p ≠ .set → ∀ first count, first ≤ 15 → 1 ≤ count → count ≤ 3 →
            exec (.readAlarmsSource p first count) s = .next (answeredWith p .ok
              (byte1 (serviceByte s.alarm.service)
                ++ (((List.range 16).drop first).take count).flatMap (fun i => sourceBytes i s)) s))
        ∧ (p ≠ .set → exec (.readAlarmsSensor p) s = .next (answeredWith p .ok (sensorFields s) s))
        ∧ (p = .service → exec (.readTally p) s = .next (answeredWith p .ok (tallyFields s) s)))

/-- Tier 2. A frame that reaches no owner (R203): one whose length or check byte is wrong is answered FRAME_ERROR, one
of a code above 36 UNKNOWN, one whose fields do not fit its request REFUSED_RANGE (the model's reading of shapes: log
34); nothing else changes but data out, which sent 255 for each byte (R200). -/
def Obligations.BadFramesAreAnswered : Prop :=
  ∀ (p : Port) (bytes : List Byte) (s : State), s.supply.inReset = false → SlotFree p s → bytes.headD 0 ≠ 0 →
    (bytes.length < 3 ∨ 120 < (bytes.getD 1 0).toNat ∨ bytes.length ≠ (bytes.getD 1 0).toNat + 3 ∨ bytes.sum ≠ 0 →
      exec (.requestFrameError p bytes) s = .next (answeredWith p .frameError [] s))
    ∧ (3 ≤ bytes.length → (bytes.getD 1 0).toNat ≤ 120 → bytes.length = (bytes.getD 1 0).toNat + 3 → bytes.sum = 0 →
        (36 < (bytes.getD 0 0).toNat → exec (.requestFrameError p bytes) s = .next (answeredWith p .unknown [] s))
        ∧ (∀ q, requestOf (bytes.getD 0 0).toNat = some q → Running s → permitted q p = true →
            fieldsFit q ((bytes.drop 2).dropLast) = false →
            exec (.requestFrameError p bytes) s = .next (answeredWith p .refusedRange [] s)))

/-- Tier 2. A read select period (R204): an EMPTY slot sends NONE_PENDING (126) and a waiting one NOT_READY (127), and
both stay; a READY one sends its frame, and becomes EMPTY when the period runs to the check byte, else stays. The other
ports and everything else are as before. A select period without a byte is ignored (R200). Which bytes the part sent is
kept (log 24). -/
def Obligations.ReadSelectPeriodActsBySlot : Prop :=
  ∀ (p : Port) (clocked : Nat) (s : State), s.supply.inReset = false →
    let v := portOf s.ports p
    ∃ w : PortState, exec (.readSelectPeriod p clocked) s = .next { s with ports := setPort p w s.ports }
      ∧ w.mask = v.mask ∧ (clocked = 0 → w = v)
      ∧ (0 < clocked → v.slot = .empty → w = { v with sent := .ofSlot [126] })
      ∧ (0 < clocked → v.slot = .notReady → w = { v with sent := .ofSlot [127] })
      ∧ (0 < clocked → ∀ code fields, v.slot = .ready code fields →
          w.sent = .ofSlot ((frameOf (resultByte code) fields).take clocked)
          ∧ (clocked < fields.length + 3 → w = { v with sent := .ofSlot ((frameOf (resultByte code) fields).take clocked) })
          ∧ (fields.length + 3 ≤ clocked → w.slot = .empty ∧ w.fetch = none
              ∧ (v.fetch = none → w.queue = v.queue ∧ w.lost = v.lost)))

/-- Tier 2. FETCH_NOTICES (R211): the response holds the lost flags, the number of notices left behind and up to four
entries of thirteen bytes, oldest first; nothing leaves the queue until the response has been read in full (R204), and
then just those notices leave it and just the reported flags are cleared. A notice posted in between is queued behind
them and stays; one dropped in between leaves its class's flag set. That the response is read in full once as many bytes
are clocked as its frame has, the byte that goes out while the first comes in counted, is the model's choice (log 24). -/
def Obligations.FetchedNoticesLeaveWhenRead : Prop :=
  ∀ (p : Port) (clocked : Nat) (s : State), s.supply.inReset = false → SlotFree p s →
    let v := portOf s.ports p
    let fields := v.lost.setWidth 8 :: byte1 (v.queue.length - (v.queue.take 4).length) ++ (v.queue.take 4).flatMap noticeEntry
    ∃ t u : State, exec (.fetchNotices p) s = .next t
      ∧ (portOf t.ports p).slot = .ready .ok fields ∧ (portOf t.ports p).queue = v.queue ∧ (portOf t.ports p).lost = v.lost
      ∧ t = { s with ports := setPort p (portOf t.ports p) s.ports }
      ∧ exec (.readSelectPeriod p clocked) t = .next u
      ∧ (fields.length + 3 ≤ clocked →
          (portOf u.ports p).slot = .empty ∧ (portOf u.ports p).queue = v.queue.drop 4 ∧ (portOf u.ports p).lost = 0)
      ∧ (clocked < fields.length + 3 → (portOf u.ports p).queue = v.queue ∧ (portOf u.ports p).lost = v.lost)
      ∧ ∀ (k : NoticeKind) (record : List Byte), v.mask &&& classBit (noticeClass k) ≠ 0 → (k = .boxNear → p = .line) →
          fields.length + 3 ≤ clocked → ∃ w : State, exec (.readSelectPeriod p clocked) (postNotice k record t) = .next w
            ∧ (portOf w.ports p).slot = .empty
            ∧ (v.queue.length < 16 → (portOf w.ports p).lost = 0
                ∧ (portOf w.ports p).queue = v.queue.drop 4
                    ++ [{ kind := k, time := s.tariff.clock.map tenthsOfDay, fields := padFields record }])
            ∧ (16 ≤ v.queue.length → (portOf w.ports p).lost = classBit (noticeClass k)
                ∧ (portOf w.ports p).queue = v.queue.drop 4)

/-- Tier 1. SET_NOTICE_MASK replaces the port's own mask and is answered with it; queue and lost flags stay; a byte with
one of its two highest bits set is answered REFUSED_RANGE; after every reset the masks are the defaults (R210). -/
def Obligations.NoticeMaskIsReplaced : Prop :=
  (∀ (p : Port) (mask : Nat) (s : State), Running s → SlotFree p s →
    (mask ≤ 63 → ∃ t, exec (.setNoticeMask p mask) s = .next t
      ∧ t = { s with ports := setPort p (portOf t.ports p) s.ports }
      ∧ portOf t.ports p = { portOf s.ports p with
          mask := BitVec.ofNat 6 mask, slot := .ready .ok (byte1 mask), fetch := none
          sent := .ofRequest })
    ∧ (63 < mask → exec (.setNoticeMask p mask) s = .next (answeredWith p .refusedRange [] s)))
  ∧ (∀ (cause : StartCause) (s : State),
      (resetVolatile cause s).ports.set.mask = 0b100111 ∧ (resetVolatile cause s).ports.line.mask = 0b111000
      ∧ (resetVolatile cause s).ports.service.mask = 0b101000)

/-! ### Keys and the number analysis -/

/-- Tier 2. In COLLECTING, CANCEL empties the buffer and starts the first-digit timer afresh with its 20 s, with the
answer MORE; FOLLOW_ON is answered REFUSED_STATE and changes nothing; and a key value that is none of the fourteen keys
is answered REFUSED_RANGE in every call state (R46). -/
def Obligations.CancelRestartsTheAnalysis : Prop :=
  ∀ s : State, Running s → SlotFree .set s →
    (s.call.state = .collecting →
      exec (.keyCancel .set) s = .next (answeredWith .set .ok (byte1 0)
        { s with analyser := { state := .awaitingFirst, buffer := [], timer := some (.firstDigit, s.now + 200), decision := none } })
      ∧ exec (.keyFollowOn .set) s = .next (answeredWith .set .refusedState [] s))
    ∧ ∀ key, 13 < key → exec (.keyDigit .set key) s = .next (answeredWith .set .refusedRange [] s)

/-- Tier 2. Keys outside COLLECTING, as the table of R69 gives them: where it gives REFUSED_STATE or DISCARDED, that is
the answer, and nothing else changes. -/
def Obligations.KeysByCallState : Prop :=
  ∀ s : State, Running s → SlotFree .set s →
    let refused := Host.Outcome.next (ρ := Refusal) (φ := Fault) (answeredWith .set .refusedState [] s)
    let discarded := Host.Outcome.next (ρ := Refusal) (φ := Fault) (answeredWith .set .ok (byte1 3) s)
    (∀ d, d ≤ 11 →
      (s.call.state = .idle ∨ s.call.state = .settling → exec (.keyDigit .set d) s = refused)
      ∧ (s.call.state = .waitCoins ∨ s.call.state = .waitLine ∨ s.call.state = .connecting ∨ s.call.state = .alerting
          ∨ s.call.state = .refused ∨ s.call.state = .clearing ∨ s.call.state = .afterCall →
          exec (.keyDigit .set d) s = discarded))
    ∧ (s.call.state ≠ .collecting → s.call.state ≠ .waitCoins → s.call.state ≠ .waitLine →
        exec (.keyCancel .set) s = refused)
    ∧ (s.call.state = .idle ∨ s.call.state = .settling ∨ s.call.state = .waitCoins ∨ s.call.state = .waitLine
        ∨ s.call.state = .connecting ∨ s.call.state = .alerting ∨ s.call.state = .refused →
        exec (.keyFollowOn .set) s = refused)

/-- Tier 2. CANCEL in WAIT_COINS or WAIT_LINE abandons the accepted number: timer and claim end, the acceptance becomes
none, a fresh analysis starts in COLLECTING, and the account keeps its money (R68). -/
def Obligations.CancelAbandonsTheNumber : Prop :=
  ∀ s : State, Running s → SlotFree .set s → s.call.state = .waitCoins ∨ s.call.state = .waitLine →
    ∃ t, exec (.keyCancel .set) s = .next t
      ∧ (portOf t.ports .set).slot = .ready .ok (byte1 0)
      ∧ t.call = { s.call with state := .collecting, acceptance := none, timer := none }
      ∧ t.analyser = { state := .awaitingFirst, buffer := [], timer := some (.firstDigit, s.now + 200), decision := none }
      ∧ (s.call.state = .waitCoins → t.line = s.line)
      ∧ (s.call.state = .waitLine → t.line = { s.line with waitingCustomer := none, preempting := none })
      ∧ t = { s with call := t.call, analyser := t.analyser, line := t.line, ports := t.ports }

/-- Tier 2. A digit keyed in COLLECTING joins the buffer (R45, R50, R51, R53): with no candidate left the number is
refused UNOBTAINABLE and the call is REFUSED; while the best match is not complete more digits are awaited, under the
inter-digit timer. In the answer the reason follows REFUSED directly (log 34). -/
def Obligations.DigitJoinsTheBuffer : Prop :=
  ∀ (d : Nat) (s : State), Running s → SlotFree .set s → s.call.state = .collecting → d ≤ 11 →
    let buffer := s.analyser.buffer ++ [d]
    (candidates s.cfg.plan buffer = [] → ∃ t, exec (.keyDigit .set d) s = .next t
      ∧ (portOf t.ports .set).slot = .ready .ok (byte1 2 ++ byte1 0)
      ∧ t.analyser = { state := .decided, buffer := buffer, timer := none, decision := some (.refused .unobtainable) }
      ∧ t.call.state = .refused ∧ t.call.acceptance = none
      ∧ (s.call.outcome = none → t.call.outcome = some .refused ∧ t.call.reason = some .unobtainable)
      ∧ t = { s with call := t.call, analyser := t.analyser, ports := t.ports })
    ∧ (candidates s.cfg.plan buffer ≠ [] → (∀ e, bestMatch s.cfg.plan buffer = some e → isComplete buffer e = false) →
        exec (.keyDigit .set d) s = .next (answeredWith .set .ok (byte1 0)
          { s with analyser :=
            { state := .awaitingNext, buffer := buffer, timer := some (.interDigit, s.now + s.cfg.interDigit * 10)
              decision := none } }))

/-- Tier 2. The digit that completes a number (R50, R51, R54 to R57, R65 to R67, R114, R116, R117). A candidate's prefix
and the buffer agree over the shorter of the two; the best match is the longest prefix that lies wholly in the buffer;
it is complete at its greatest length, or from its least where it dials there. A number that the tests refuse, BARRED
first and then the service state's, leaves the call REFUSED with that reason. An accepted one is held with its locked
row and its deposit, the greatest sum of connection and step charge of the row: below the deposit the call waits for
coins under the 60 s deposit timer; otherwise it claims the line, and on a free line it is CONNECTING with a CONNECT
order posted. On a line of REPORT or CENTRE it waits for the line for 90 s: an EMERGENCY claim, and on REPORT any claim
where the batch holds no CRITICAL source, pre-empts with an ABORT, which a current ABORT already is; any other waits. A
claim held already is answered DUPLICATE and changes nothing of the line. Class and reason follow KEY's outcome directly
(log 34). -/
def Obligations.CompleteNumberIsDecided : Prop :=
  (∀ (d : Nat) (e : PlanEntry) (s : State), Running s → SlotFree .set s → s.call.state = .collecting → d ≤ 11 →
    let buffer := s.analyser.buffer ++ [d]
    candidates s.cfg.plan buffer ≠ [] → bestMatch s.cfg.plan buffer = some e → isComplete buffer e = true →
    (∀ r, refusalOf s.alarm.service e = some r → ∃ t, exec (.keyDigit .set d) s = .next t
      ∧ (portOf t.ports .set).slot = .ready .ok (byte1 2 ++ byte1 (reasonByte r)) ∧ NumberRefused r buffer s t)
    ∧ (refusalOf s.alarm.service e = none → ∃ t, exec (.keyDigit .set d) s = .next t
      ∧ (portOf t.ports .set).slot = .ready .ok (byte1 1 ++ byte1 (classByte e.cls)) ∧ NumberAccepted e buffer s t))
  ∧ (∀ (service : ServiceState) (e : PlanEntry) (buffer : Digits) (plan : List PlanEntry),
       (refusalOf service e = if e.barred = true then some .barred
         else if service = .emergencyOnly ∧ e.emergency = false then some .service
         else if service = .coinFree ∧ e.emergency = false ∧ e.noCoin = false ∧ e.cls ≠ .free then some .service else none)
       ∧ (isComplete buffer e = true ↔ buffer.length = e.maxLen ∨ (e.dialAtMin = true ∧ e.minLen ≤ buffer.length))
       ∧ (e ∈ candidates plan buffer ↔ e ∈ plan ∧ e.digits ≠ [] ∧ (e.digits <+: buffer ∨ buffer <+: e.digits))
       ∧ (bestMatch plan buffer = none ↔ ∀ x ∈ plan, x.digits ≠ [] → ¬ x.digits <+: buffer)
       ∧ (bestMatch plan buffer = some e → e ∈ plan ∧ e.digits ≠ [] ∧ e.digits <+: buffer
           ∧ ∀ x ∈ plan, x.digits ≠ [] → x.digits <+: buffer → x.digits.length ≤ e.digits.length))

/-- Tier 2. The digit timers and the call timers (R52, R53, R57, R66, R67, R71, R79). At the first-digit timer's expiry
the number is refused EMPTY; at the inter-digit timer's, INCOMPLETE where there is no best match or the buffer is
shorter than its least length, and else the number is complete and decided (R54 to R56, R65), as at a digit that
completes it. The deposit timer's expiry refuses the call NO_DEPOSIT, the line-wait timer's withdraws the claim and
refuses it LINE_BUSY, the ring timer's takes it to CLEARING as UNANSWERED, and the follow-on timer's only stops it. An
expiry of a digit timer that does not run changes nothing (log 3). -/
def Obligations.TimersOfTheCallEnd : Prop :=
  (∀ (s : State) (u : Nat), awake s = true →
     (s.analyser.timer = some (.firstDigit, u) → ∃ t, exec .firstDigitTimerExpiry s = .next t
       ∧ t.call.state = .refused ∧ t.analyser.state = .decided ∧ t.analyser.timer = none
       ∧ (s.call.outcome = none → t.call.outcome = some .refused ∧ t.call.reason = some .empty)
       ∧ t = { s with call := t.call, analyser := t.analyser, ports := t.ports })
     ∧ (s.analyser.timer = some (.interDigit, u) →
         (∀ e, bestMatch s.cfg.plan s.analyser.buffer = some e → s.analyser.buffer.length < e.minLen) →
         ∃ t, exec .interDigitTimerExpiry s = .next t
           ∧ t.call.state = .refused ∧ t.analyser.state = .decided ∧ t.analyser.timer = none
           ∧ (s.call.outcome = none → t.call.outcome = some .refused ∧ t.call.reason = some .incomplete)
           ∧ t = { s with call := t.call, analyser := t.analyser, ports := t.ports })
     ∧ (s.analyser.timer = some (.interDigit, u) → ∀ e, bestMatch s.cfg.plan s.analyser.buffer = some e →
         e.minLen ≤ s.analyser.buffer.length →
         (∀ r, refusalOf s.alarm.service e = some r → ∃ t, exec .interDigitTimerExpiry s = .next t
           ∧ NumberRefused r s.analyser.buffer s t)
         ∧ (refusalOf s.alarm.service e = none → ∃ t, exec .interDigitTimerExpiry s = .next t
             ∧ NumberAccepted e s.analyser.buffer s t))
     ∧ (s.analyser.timer = none → exec .firstDigitTimerExpiry s = .next s ∧ exec .interDigitTimerExpiry s = .next s))
  ∧ (∀ (s : State) (u : Nat), awake s = true →
       (s.call.timer = some (.deposit, u) → ∃ t, exec .depositTimerExpiry s = .next t
         ∧ t.call.state = .refused ∧ t.call.timer = none ∧ t.call.acceptance = s.call.acceptance
         ∧ (s.call.outcome = none → t.call.outcome = some .refused ∧ t.call.reason = some .noDeposit)
         ∧ t = { s with call := t.call, ports := t.ports })
       ∧ (s.call.timer = some (.lineWait, u) → ∃ t, exec .lineWaitTimerExpiry s = .next t
         ∧ t.call.state = .refused ∧ t.call.timer = none ∧ t.call.acceptance = s.call.acceptance
         ∧ (s.call.outcome = none → t.call.outcome = some .refused ∧ t.call.reason = some .lineBusy)
         ∧ t.line = { s.line with waitingCustomer := none, preempting := none }
         ∧ t = { s with call := t.call, line := t.line, ports := t.ports })
       ∧ (s.call.timer = some (.ring, u) → ∃ t, exec .ringTimerExpiry s = .next t ∧ EntersClearing .unanswered s t
           ∧ t.call.hangUp = s.call.hangUp ∧ t.call.followOn = s.call.followOn)
       ∧ (s.call.timer = some (.followOn, u) →
           exec .followOnTimerExpiry s = .next { s with call := { s.call with timer := none } }))

/-- Tier 2. A digit keyed in CONNECTED or WARNING (R82): with eight digits waiting it is answered REFUSED_BUSY and lost;
else it is queued, and with the order slot EMPTY it is posted at once as a TONE. FOLLOW_ON (R80, R81): an answered call
goes to CLEARING with the follow-on mark; in CLEARING the mark is set, unless the hang-up mark is, when the answer is
REFUSED_STATE; in AFTER_CALL under the follow-on timer the timer stops, the mark is set and the account has a pending
carry, with the shortfall check made for it (R34, R39). -/
def Obligations.KeysOfAnAnsweredCall : Prop :=
  (∀ (d : Nat) (s : State), Running s → SlotFree .set s → s.call.state = .connected ∨ s.call.state = .warning → d ≤ 11 →
     (8 ≤ s.call.afterDial.length → exec (.keyDigit .set d) s = .next (answeredWith .set .refusedBusy [] s))
     ∧ (s.call.afterDial.length < 8 → s.line.slot ≠ none →
         exec (.keyDigit .set d) s = .next (answeredWith .set .ok (byte1 4)
           { s with call := { s.call with afterDial := s.call.afterDial ++ [d] } }))
     ∧ (s.call.afterDial = [] → s.line.slot = none → s.line.owner = .customer →
         exec (.keyDigit .set d) s = .next (answeredWith .set .ok (byte1 4) { s with line := lineWithOrder (.tone d) 50 s })))
  ∧ (∀ s : State, Running s → SlotFree .set s →
       (s.call.state = .connected ∨ s.call.state = .warning → ∃ t, exec (.keyFollowOn .set) s = .next t
         ∧ EntersClearing .answered s t ∧ t.call.followOn = true ∧ (portOf t.ports .set).slot = .ready .ok (byte1 5))
       ∧ (s.call.state = .clearing → s.call.hangUp = false →
           exec (.keyFollowOn .set) s = .next (answeredWith .set .ok (byte1 5) { s with call := { s.call with followOn := true } }))
       ∧ (s.call.state = .clearing → s.call.hangUp = true →
           exec (.keyFollowOn .set) s = .next (answeredWith .set .refusedState [] s))
       ∧ (s.call.state = .afterCall → callTimerRuns .followOn s = false →
           exec (.keyFollowOn .set) s = .next (answeredWith .set .refusedState [] s))
       ∧ (s.call.state = .afterCall → callTimerRuns .followOn s = true → s.account.phase = .opened false →
           ∃ t, exec (.keyFollowOn .set) s = .next t
             ∧ t.call = { s.call with timer := none, followOn := true }
             ∧ CollectionsChecked { s.account with phase := .opened true } s.coin t
             ∧ (portOf t.ports .set).slot = .ready .ok (byte1 5)
             ∧ t = { s with call := t.call, account := t.account, coin := t.coin, ports := t.ports }))

/-! ### The hook and the call -/

/-- Tier 2. The hook (R61, R62, R64, R76). An off-hook within the 0.6 s hold only cancels the on-hook; with the hook
STALE only the pin changes; in IDLE it begins a call in COLLECTING, with a fresh account and a fresh analysis; in
SETTLING it is held. An on-hook is a level held for 0.6 s: the debounced change starts the hold, and the ON_HOOK event
that ends it acts by the call's state: IDLE takes the hook as ON; before the line is owned the claim and the timer end
and the account settles; while the call owns the line before it is answered or after, it goes to CLEARING, marked as
hung up. ON_HOOK with no hold running changes nothing (log 3). The on-hook in SETTLING and the off-hook in CLEARING are
left out here. -/
def Obligations.HookActsByCallState : Prop :=
  (∀ s : State, Running s →
     let lifted := { s with call := { s.call with hookInput := true, holdFrom := none } }
     (s.call.holdFrom ≠ none ∨ s.call.hookInput = true ∨ s.call.hook = .stale → exec .offHook s = .next lifted)
     ∧ (s.call.holdFrom = none → s.call.hookInput = false → s.call.hook ≠ .stale → s.call.restartEnd = false →
         (s.call.state = .idle → s.account.phase = .idle → ∃ t, exec .offHook s = .next t
           ∧ t.call = { s.call with
               state := .collecting, hook := .off, hookInput := true, holdFrom := none, startTime := timeOfDay s
               connectedSince := none, duration := 0, bandAtAnswer := none, steps := 0 }
           ∧ t.account = { phase := .opened false }
           ∧ t.analyser = { state := .awaitingFirst, buffer := [], timer := some (.firstDigit, s.now + 200), decision := none }
           ∧ t = { s with call := t.call, account := t.account, analyser := t.analyser, ports := t.ports })
         ∧ (s.call.state = .settling → exec .offHook s = .next
             { s with call := { s.call with hook := .off, hookInput := true, holdFrom := none, heldOffHook := true } })))
  ∧ (∀ s : State, Running s →
       (s.call.hookInput = true →
         exec .debouncedChangeToOnHook s = .next { s with call := { s.call with hookInput := false, holdFrom := some s.now } })
       ∧ (s.call.holdFrom = none → exec .onHook s = .next s)
       ∧ (s.call.holdFrom ≠ none →
           (s.call.state = .idle → exec .onHook s = .next
             { s with call := { s.call with hook := .on, holdFrom := none, heldOffHook := false } })
           ∧ (s.call.state = .clearing → exec .onHook s = .next
               { s with call := { s.call with
                   hook := .on, holdFrom := none, heldOffHook := false, hangUp := true, followOn := false } })
           ∧ ((∃ carry, s.account.phase = .opened carry) →
               s.call.state = .collecting ∨ s.call.state = .waitCoins ∨ s.call.state = .waitLine ∨ s.call.state = .afterCall
                 ∨ s.call.state = .refused →
               ∃ t, exec .onHook s = .next t ∧ EntersSettling s t ∧ t.call.hook = .on
                 ∧ (s.call.state = .collecting ∨ s.call.state = .waitCoins ∨ s.call.state = .waitLine →
                     s.call.outcome = none → t.call.outcome = some .unanswered)
                 ∧ (s.call.state = .waitLine → t.line.waitingCustomer = none ∧ t.line.preempting = none))
           ∧ (s.call.state = .connecting ∨ s.call.state = .alerting → ∃ t, exec .onHook s = .next t
               ∧ EntersClearing .unanswered { s with call := { s.call with hook := .on, holdFrom := none, heldOffHook := false } } t
               ∧ t.call.hook = .on ∧ t.call.hangUp = true ∧ t.call.followOn = false)
           ∧ (s.call.state = .connected ∨ s.call.state = .warning → ∃ t, exec .onHook s = .next t
               ∧ EntersClearing .answered { s with call := { s.call with hook := .on, holdFrom := none, heldOffHook := false } } t
               ∧ t.call.hook = .on ∧ t.call.hangUp = true ∧ t.call.followOn = false)))

/-- Tier 2. Line events reach the call while it owns the line, and take effect where they fit its state (R71, R73, R75):
BUSY in ALERTING and FAR_CLEAR in CONNECTED or WARNING take it to CLEARING; ANSWER in ALERTING makes it CONNECTED, with
the band in force as its band at answer and its duration counting, and starts no metering for an UNMETERED acceptance;
an event that does not fit is answered REFUSED_STATE and changes nothing. -/
def Obligations.LineEventsFitTheCallState : Prop :=
  ∀ s : State, Running s → SlotFree .line s →
    (s.line.owner ≠ .customer ∨ s.call.state ≠ .alerting →
      exec (.answer .line) s = .next (answeredWith .line .refusedState [] s)
      ∧ exec (.busy .line) s = .next (answeredWith .line .refusedState [] s))
    ∧ (s.line.owner ≠ .customer ∨ (s.call.state ≠ .connected ∧ s.call.state ≠ .warning) →
        exec (.farClear .line) s = .next (answeredWith .line .refusedState [] s)
        ∧ exec (.meterPulse .line) s = .next (answeredWith .line .refusedState [] s))
    ∧ (s.line.owner = .customer → s.call.state = .alerting →
        (∃ t, exec (.busy .line) s = .next t ∧ EntersClearing .busy s t ∧ (portOf t.ports .line).slot = .ready .ok [])
        ∧ ((∀ a, s.call.acceptance = some a → a.row = none) → ∃ t, exec (.answer .line) s = .next t
            ∧ t.call = { s.call with
                state := .connected, timer := none, bandAtAnswer := some (bandInForce s), connectedSince := some s.now
                duration := 0 }
            ∧ (portOf t.ports .line).slot = .ready .ok []
            ∧ t = { s with call := t.call, ports := t.ports }))
    ∧ (s.line.owner = .customer → s.call.state = .connected ∨ s.call.state = .warning →
        ∃ t, exec (.farClear .line) s = .next t ∧ EntersClearing .answered s t
          ∧ (portOf t.ports .line).slot = .ready .ok [])

/-! ### Coins and the gate -/

/-- Tier 2. A raising (R137 to R141): the source is not QUIET after it, its count is 1 or one more, up to 255, its last
time is the time of day, and no clear is pending. What lies outside the alarm and report units, the line, the write
queue and the notices is untouched. STORE is left out of that, since the store's waiting work, which goes ahead, may
clear it (log 14). With no work waiting, of any source: the RAISED record is posted with severity, mask, origin and
count as they are then, and its place is the entry's latest raised record; a record the store refuses is lost (R173),
the latest record is then none, and STORE is raised, except by STORE itself, ahead of the lost record's own notice (log
8). ALARM_RAISED bears source, severity, the state after the raising, count and mask; what else is posted comes behind
it. A source that was QUIET has the service state derived afresh. -/
def Obligations.RaisingMarksTheSource : Prop :=
  ∀ (i : Nat) (o : Origin) (s : State), i < s.alarm.entries.length →
    let t := raise i o s
    let before := alarmEntry s.alarm i
    let count := if before.state = .quiet then 1 else min 255 (before.count + 1)
    let shown := if before.state = .quiet then AlarmState.raised else before.state
    let x := sourceSetup s.cfg i
    let record : Record := .alarm
      { cleared := false, source := i, severity := x.severity, masked := x.masked, origin := o, time := timeOfDay s
        count := count }
    let fields := byte1 i ++ byte1 (severityByte x.severity) ++ byte1 (alarmStateByte shown) ++ byte1 count
      ++ flagByte x.masked
    (i ≠ 14 → SameOutsideAlarm s t ∧ (alarmEntry t.alarm i).state ≠ .quiet ∧ (alarmEntry t.alarm i).count = count
      ∧ (alarmEntry t.alarm i).last = timeOfDay s ∧ (alarmEntry t.alarm i).clearPending = false)
    ∧ (s.alarm.entries.length = 16 → nextWork s.store = none →
        SameOutsideAlarm s t ∧ (alarmEntry t.alarm i).state ≠ .quiet
        ∧ (before.state = .quiet → t.alarm.service = derivedService t)
        ∧ (∀ y, postRing .alarm record s.store = some y →
            (alarmEntry t.alarm i).latest = some y.2 ∧ AlarmTold y record .alarmRaised fields s t)
        ∧ (postRing .alarm record s.store = none → t.store = s.store ∧ (alarmEntry t.alarm i).latest = none
            ∧ (i = 14 → ∀ p,
                (portOf (postNotice .alarmRaised fields s).ports p).queue <+: (portOf t.ports p).queue)
            ∧ (i ≠ 14 → (alarmEntry t.alarm srcStore).state ≠ .quiet
                ∧ let lost := { before with
                    state := shown, count := count, last := timeOfDay s, clearPending := false, latest := none
                    first := if before.state = .quiet then timeOfDay s else before.first
                    reRaised := before.reRaised || (before.state == .reporting || before.state == .reported) }
                  let told := raise srcStore .recordStore { s with alarm := { s.alarm with entries := s.alarm.entries.set i lost } }
                  ∀ p, (portOf (postNotice .alarmRaised fields told).ports p).queue <+: (portOf t.ports p).queue)))

/-- Tier 2. An accept pulse (R1, R3, R6, R16): with the master inhibit asserted or the channel disabled it is ignored;
with no flight in progress it starts one, ESCROW below ten coins in the tube, else OVERFLOW; during a flight it counts
as a lost flight, and the second lost in a row raises COIN_JAM. The inhibit is released exactly while the call takes
coins, the part is IN_SERVICE, the supply is not in WARN and D + K leaves room for the greatest coin. -/
def Obligations.AcceptPulseStartsAFlight : Prop :=
  ∀ (k : Nat) (s : State), awake s = true →
    (masterInhibit s = false ↔
      ((s.call.state = .collecting ∨ s.call.state = .waitCoins ∨ s.call.state = .waitLine ∨ s.call.state = .connecting
          ∨ s.call.state = .alerting ∨ s.call.state = .connected ∨ s.call.state = .warning
          ∨ (s.call.state = .afterCall ∧ callTimerRuns .followOn s = true))
        ∧ s.alarm.service = .inService ∧ s.supply.state = .normal
        ∧ s.account.d + s.account.k + s.cfg.coinValues.foldl max 0 ≤ 65535))
    ∧ (masterInhibit s = true ∨ channelValue s.cfg k = 0 → exec (.acceptPulse k) s = .next s)
    ∧ (masterInhibit s = false → channelValue s.cfg k ≠ 0 →
        (s.coin.flight = none → exec (.acceptPulse k) s = .next { s with coin := { s.coin with
            flight := some { channel := k, value := channelValue s.cfg k, start := s.now
                             kind := if s.coin.escrow.length < 10 then .escrow else .overflow, ticket := s.coin.tickets }
            tickets := s.coin.tickets + 1 } })
        ∧ (s.coin.flight ≠ none → s.coin.flightLoss = 0 →
            exec (.acceptPulse k) s = .next { s with coin := { s.coin with flightLoss := 1 } })
        ∧ (s.coin.flight ≠ none → s.coin.flightLoss ≠ 0 →
            exec (.acceptPulse k) s = .next (raise srcCoinJam .coinUnit { s with coin := { s.coin with flightLoss := 0 } })))

/-- Tier 2. The coin unit's expiries (R6, R19, R20, R23, R36): a flight ends without credit, the second lost in a row
raising COIN_JAM, and a settlement that waited for it makes the shortfall check of its COLLECT stage and, with no
collection outstanding, goes on to its refunds (R34, R37); a gate test ends NOT_CONFIRMED; the collection window and the
lockout end. A flight or gate-test expiry with none running changes nothing (log 3). -/
def Obligations.CoinTimersEnd : Prop :=
  ∀ s : State, awake s = true →
    (s.coin.flight = none → exec .flightWindowExpiry s = .next s)
    ∧ (s.coin.flight ≠ none → (∀ r, s.account.phase ≠ .settling .flight r) →
        (s.coin.flightLoss = 0 → exec .flightWindowExpiry s =
          .next { s with coin := { s.coin with flight := none, flightLoss := 1 } })
        ∧ (s.coin.flightLoss ≠ 0 → exec .flightWindowExpiry s =
            .next (raise srcCoinJam .coinUnit { s with coin := { s.coin with flight := none, flightLoss := 0 } })))
    ∧ (∀ r, s.account.phase = .settling .flight r → s.coin.flight ≠ none →
        let coin := { s.coin with flight := none, flightLoss := if s.coin.flightLoss = 0 then 1 else 0 }
        let lost := if s.coin.flightLoss = 0 then { s with coin := coin } else raise srcCoinJam .coinUnit { s with coin := coin }
        ∃ t, exec .flightWindowExpiry s = .next t
          ∧ CollectionsChecked { s.account with phase := .settling .collect r } coin t
          ∧ t = { lost with account := t.account, coin := t.coin })
    ∧ (s.coin.gateTest ≠ none → exec .gateTestWindowExpiry s =
        .next (postNotice .gateTest (byte1 1) { s with coin := { s.coin with gateTest := none } }))
    ∧ (s.coin.gateTest = none → exec .gateTestWindowExpiry s = .next s)
    ∧ exec .collectionWindowExpiry s = .next { s with coin := { s.coin with windowUntil := none } }
    ∧ exec .collectionLockoutExpiry s = .next { s with coin := { s.coin with lockoutUntil := none } }

/-- Tier 2. An escrow entry event confirms an ESCROW flight (R4, R28, R32, R66): the coin is the newest of the escrow
list, D and E rise by its value, COIN_CREDITED is posted with the credit after it, the coin becomes the last credited
one; in WAIT_COINS the credit is compared with the deposit. So it is in every state of the account: an IDLE one is opened
afresh for the credit, one that settles takes it in every stage, and one in the FLIGHT stage then leaves it for the
shortfall check of the COLLECT stage and, with no collection outstanding, for its refunds (R34, R36, R37). That
COIN_CREDITED is queued ahead of CALL_STATE, LINE_STATE and CREDIT_OK, which other units post in the same step, is the
model's order of notices (log 8): R209 leaves either. -/
def Obligations.EscrowEntryCreditsTheCoin : Prop :=
  ∀ (f : Flight) (s : State), awake s = true → s.coin.flight = some f → f.kind = .escrow →
    let credited : Account := if s.account.phase = .idle then { phase := .opened false } else s.account
    let coin := { s.coin with
      flight := none
      escrow := s.coin.escrow ++ [{ channel := f.channel, value := f.value, motion := .no, id := s.coin.coinIds }]
      lastCredited := some { instant := s.now, id := s.coin.coinIds }
      coinIds := s.coin.coinIds + 1
      flightLoss := 0 }
    let account := { credited with d := credited.d + f.value, e := credited.e + f.value }
    let noticed := postNotice .coinCredited (byte1 f.channel ++ byte2 f.value ++ byte1 0 ++ byte2 (available account))
      { s with coin := coin, account := account }
    ∃ t, exec .escrowEntryEvent s = .next t
        ∧ ((∀ r, s.account.phase ≠ .settling .flight r) → t.coin = coin ∧ t.account = account)
        ∧ (∀ r, s.account.phase = .settling .flight r →
            CollectionsChecked { account with phase := .settling .collect r } coin t)
        ∧ (s.call.state ≠ .waitCoins → s.tariff.meter.state = .stopped →
            t = { noticed with coin := t.coin, account := t.account })
        ∧ (∀ p, (portOf noticed.ports p).queue <+: (portOf t.ports p).queue)
        ∧ (s.call.state ≠ .waitCoins → s.call.state ≠ .connected → s.call.state ≠ .warning →
            t.call = s.call ∧ t.line = s.line)
        ∧ (∀ a, s.call.acceptance = some a → s.call.state = .waitCoins →
            (a.deposit ≤ available account → t.call.state = .waitLine ∨ t.call.state = .connecting)
            ∧ (available account < a.deposit → t.call = s.call ∧ t.line = s.line))
        ∧ t = { s with coin := t.coin, account := t.account, call := t.call, line := t.line, tariff := t.tariff, ports := t.ports }

/-- Tier 2. An escrow entry event with no ESCROW flight is a stray pass (R18, R29): STRING_FRAUD is raised, and the coin
credited no more than 1.5 s ago, where it is still the newest of the list and not in motion, leaves it again with its
value, C being cut to what is left. The reference to the last credited coin is cleared. D and K together fall by the
value; how it is split between them is the model's reading (log 13). Rejects (R17): each records its time, the oldest of
eight giving way; the eighth within 60 s raises SLUG_STORM and empties the history. -/
def Obligations.StrayPassesAndRejectsRaise : Prop :=
  (∀ s : State, awake s = true → (∀ f, s.coin.flight = some f → f.kind = .overflow) → s.alarm.entries.length = 16 →
     (s.coin.lastCredited = none → exec .escrowEntryEvent s = .next (raise srcStringFraud .coinUnit s))
     ∧ (∀ l, s.coin.lastCredited = some l → l.instant + 15 < s.now ∨ s.coin.escrow = []
           ∨ (∀ x, s.coin.escrow.getLast? = some x → x.id ≠ l.id ∨ x.motion ≠ .no) →
         exec .escrowEntryEvent s = .next (raise srcStringFraud .coinUnit { s with coin := { s.coin with lastCredited := none } }))
     ∧ (∀ l, s.coin.lastCredited = some l → ∀ x, s.coin.escrow.getLast? = some x → s.now ≤ l.instant + 15 → x.id = l.id →
         x.motion = .no → ∃ t, exec .escrowEntryEvent s = .next t
           ∧ t.coin = { s.coin with escrow := s.coin.escrow.dropLast, lastCredited := none }
           ∧ t.account = { s.account with
               d := s.account.d - x.value, k := s.account.k - (x.value - s.account.d), e := s.account.e - x.value
               c := min s.account.c (s.account.b + (s.account.e - x.value)) }
           ∧ (alarmEntry t.alarm srcStringFraud).state ≠ .quiet
           ∧ t.cfg = s.cfg ∧ t.supply = s.supply ∧ t.analyser = s.analyser ∧ t.store.array = s.store.array))
  ∧ (∀ s : State, awake s = true →
       let kept := if 8 ≤ s.coin.rejects.length then s.coin.rejects.tail else s.coin.rejects
       (kept.length < 7 ∨ (kept.headD s.now) + 600 < s.now →
         exec .rejectPulse s = .next { s with coin := { s.coin with rejects := kept ++ [s.now] } })
       ∧ (kept.length = 7 → s.now ≤ kept.headD s.now + 600 →
           exec .rejectPulse s = .next (raise srcSlugStorm .coinUnit { s with coin := { s.coin with rejects := [] } })))

/-- Tier 2. The box-entry sensor (R5, R10, R13, R14, R28, R30): it confirms what began to wait first. A COLLECT moves
the oldest coin from the list into the tally and its value from E to B; n falls by one, the shortfall check is made
afresh (R34), and a settlement whose COLLECT stage has no collection left outstanding enters REFUND with REFUND_ALL
queued (R36, R37). An OVERFLOW coin is counted in the tally and credited to D and B, in every state of the account as an
escrow coin is, and a settlement that waited for its flight leaves the FLIGHT stage; with nothing waiting the event is
ignored. Counting a coin raises the tally's coins and its
channel's count by one and the value by the coin's, each no further than its greatest value; the jam coins stay. A coin
that brings the tally to the near level, nine tenths of the capacity rounded up, with the near-posted flag clear sets it
and posts BOX_NEAR; one that brings it from below the capacity to it raises BOX_FULL (R15). -/
def Obligations.BoxEntryBanksTheCoin : Prop :=
  (∀ s : State, awake s = true →
     (∀ g, s.coin.gateOp = some g → g.motion = .collect → ∀ x rest, s.coin.escrow = x :: rest →
       (∀ f, s.coin.flight = some f → f.kind = .escrow ∨ g.ticket < f.ticket) →
       let tally := countCoin x.channel x.value s.coin.tally
       let near := s.coin.nearPosted = false ∧ (s.cfg.capacity * 9 + 9) / 10 ≤ tally.coins
       let full := s.coin.tally.coins < s.cfg.capacity ∧ s.cfg.capacity ≤ tally.coins
       ∃ t, exec .boxEntryEvent s = .next t
         ∧ t.coin.nearPosted = (s.coin.nearPosted || decide near)
         ∧ (full → s.alarm.entries.length = 16 → (alarmEntry t.alarm srcBoxFull).state ≠ .quiet)
         ∧ (¬ full → s.call.state ≠ .waitCoins → s.tariff.meter.state = .stopped → t = { s with
             coin := t.coin, account := t.account
             ports := if near then (postNotice .boxNear (byte2 tally.coins ++ byte4 tally.value) s).ports else s.ports })
         ∧ CollectionsChecked
             { s.account with e := s.account.e - x.value, b := s.account.b + x.value, n := s.account.n - 1 }
             { s.coin with escrow := rest, gateOp := none, tally := tally, nearPosted := s.coin.nearPosted || decide near } t
         ∧ t.cfg = s.cfg ∧ t.supply = s.supply ∧ t.analyser = s.analyser ∧ t.store.array = s.store.array)
     ∧ (∀ f, s.coin.flight = some f → f.kind = .overflow →
         (∀ g, s.coin.gateOp = some g → g.motion = .collect → f.ticket ≤ g.ticket) →
         let tally := countCoin f.channel f.value s.coin.tally
         let near := s.coin.nearPosted = false ∧ (s.cfg.capacity * 9 + 9) / 10 ≤ tally.coins
         let full := s.coin.tally.coins < s.cfg.capacity ∧ s.cfg.capacity ≤ tally.coins
         let credited : Account := if s.account.phase = .idle then { phase := .opened false } else s.account
         let account := { credited with d := credited.d + f.value, b := credited.b + f.value }
         let coin := { s.coin with
           flight := none, flightLoss := 0, tally := tally, nearPosted := s.coin.nearPosted || decide near }
         ∃ t, exec .boxEntryEvent s = .next t
           ∧ t.coin.nearPosted = (s.coin.nearPosted || decide near)
           ∧ (full → s.alarm.entries.length = 16 → (alarmEntry t.alarm srcBoxFull).state ≠ .quiet)
           ∧ (¬ full → s.call.state ≠ .waitCoins → s.tariff.meter.state = .stopped → t = { s with
               coin := t.coin, account := t.account
               ports := (postNotice .coinCredited (byte1 f.channel ++ byte2 f.value ++ byte1 1 ++ byte2 (available t.account))
                 (if near then postNotice .boxNear (byte2 tally.coins ++ byte4 tally.value) s else s)).ports })
           ∧ ((∀ r, s.account.phase ≠ .settling .flight r) → t.coin = coin ∧ t.account = account)
           ∧ (∀ r, s.account.phase = .settling .flight r →
               CollectionsChecked { account with phase := .settling .collect r } coin t)
           ∧ t.cfg = s.cfg ∧ t.supply = s.supply ∧ t.analyser = s.analyser ∧ t.store.array = s.store.array)
     ∧ ((∀ g, s.coin.gateOp = some g → g.motion ≠ .collect) → (∀ f, s.coin.flight = some f → f.kind = .escrow) →
         exec .boxEntryEvent s = .next s))
  ∧ (∀ (channel value : Nat) (t : Tally), 1 ≤ channel → channel ≤ 6 → t.counts.length = 6 →
       (countCoin channel value t).coins = min 65535 (t.coins + 1)
       ∧ (countCoin channel value t).value = min 4294967295 (t.value + value)
       ∧ (countCoin channel value t).counts.getD (channel - 1) 0 = min 65535 (t.counts.getD (channel - 1) 0 + 1)
       ∧ (∀ k, k ≠ channel - 1 → (countCoin channel value t).counts.getD k 0 = t.counts.getD k 0)
       ∧ (countCoin channel value t).jam = t.jam)

/-- Tier 2. The return-chute sensor (R10, R13, R23, R31, R197): it confirms a REFUND, whose coin leaves the list and
whose value moves from E to R, the run of unconfirmed refunds returning to 0; or it ends a gate test as CONFIRMED; or it
counts a flushed coin, one in a cycle at most (log 16); else it is ignored. -/
def Obligations.ReturnChuteConfirms : Prop :=
  ∀ s : State, awake s = true →
    (∀ g, s.coin.gateOp = some g → g.motion = .refund → ∀ x rest, s.coin.escrow = x :: rest →
      s.call.state ≠ .waitCoins → s.tariff.meter.state = .stopped →
      exec .returnChuteEvent s = .next { s with
        coin := { s.coin with escrow := rest, gateOp := none, refundRun := 0 }
        account := { s.account with e := s.account.e - x.value, r := s.account.r + x.value } })
    ∧ (∀ g, s.coin.gateOp = some g → g.motion ≠ .refund → exec .returnChuteEvent s = .next s)
    ∧ (s.coin.gateOp = none → s.coin.gateTest ≠ none → exec .returnChuteEvent s =
        .next (postNotice .gateTest (byte1 0) { s with coin := { s.coin with gateTest := none } }))
    ∧ (s.coin.gateOp = none → s.coin.gateTest = none →
        (∀ r, s.supply.recovery = some r → r.flushUntil ≠ none → r.counted = false → exec .returnChuteEvent s =
          .next { s with supply := { s.supply with recovery := some { r with counted := true, flushed := r.flushed + 1 } } })
        ∧ ((∀ r, s.supply.recovery = some r → r.flushUntil = none ∨ r.counted = true) → exec .returnChuteEvent s = .next s))

/-- Tier 2. The gate takes its next work when it is free and the supply is not in WARN (R8, R9): COLLECT entries first,
each on the oldest coin; REFUND_ALL stays queued while it refunds coin by coin. A busy gate, WARN or an empty queue
change nothing. A COLLECT entry that finds no coin is removed and answered NO_ESCROW_COIN (R30): n falls by one, and a
settlement whose n is then 0 goes on to its refunds (R36). That a REFUND_ALL which finds no coin is only removed in this
step, ESCROW_EMPTY and the settlement's end being a step of their own, is the model's reading of R8 and R37 (log 23).
TEST_GATE (R23) is refused with REFUSED_STATE outside IDLE, with coins or gate work, or in WARN, which the model looks
at first (log 37), and with REFUSED_BUSY while a test runs; else it is ACCEPTED, with a test window of 0.6 s. -/
def Obligations.GateTakesItsWorkAndItsTest : Prop :=
  (∀ s : State, awake s = true →
     (gateFree s = false ∨ s.supply.state = .warn ∨ s.coin.gateQueue = [] → exec .gateOperationStart s = .next s)
     ∧ (gateFree s = true → s.supply.state = .normal →
         (∀ x rest, s.coin.escrow = x :: rest →
           (.collect ∈ s.coin.gateQueue → exec .gateOperationStart s = .next { s with coin := { s.coin with
             gateQueue := s.coin.gateQueue.erase .collect
             escrow := { x with motion := .collect } :: rest
             gateOp := some { motion := .collect, second := false, since := s.now, ticket := s.coin.tickets }
             tickets := s.coin.tickets + 1 } })
           ∧ (.collect ∉ s.coin.gateQueue → .refundAll ∈ s.coin.gateQueue →
               exec .gateOperationStart s = .next { s with coin := { s.coin with
                 escrow := { x with motion := .refund } :: rest
                 gateOp := some { motion := .refund, second := false, since := s.now, ticket := s.coin.tickets }
                 tickets := s.coin.tickets + 1 } }))
         ∧ (s.coin.escrow = [] → .collect ∉ s.coin.gateQueue → .refundAll ∈ s.coin.gateQueue →
             exec .gateOperationStart s =
               .next { s with coin := { s.coin with gateQueue := s.coin.gateQueue.erase .refundAll } })
         ∧ (s.coin.escrow = [] → .collect ∈ s.coin.gateQueue → s.call.state ≠ .waitCoins → s.tariff.meter.state = .stopped →
             let rest := s.coin.gateQueue.erase .collect
             ((∀ r, s.account.phase ≠ .settling .collect r) ∨ 1 < s.account.n → exec .gateOperationStart s = .next { s with
               coin := { s.coin with gateQueue := rest }, account := { s.account with n := s.account.n - 1 } })
             ∧ (∀ r, s.account.phase = .settling .collect r → s.account.n ≤ 1 → exec .gateOperationStart s = .next { s with
                 coin := { s.coin with gateQueue := if .refundAll ∈ rest then rest else rest ++ [.refundAll] }
                 account := { s.account with phase := .settling .refund r, n := 0 } }))))
  ∧ (∀ s : State, Running s → SlotFree .service s →
       (s.call.state ≠ .idle ∨ s.coin.escrow ≠ [] ∨ s.coin.gateOp ≠ none ∨ s.coin.gateQueue ≠ [] ∨ s.supply.state = .warn →
         exec (.testGate .service) s = .next (answeredWith .service .refusedState [] s))
       ∧ (s.call.state = .idle → s.coin.escrow = [] → s.coin.gateOp = none → s.coin.gateQueue = [] →
           s.supply.state = .normal →
           (s.coin.gateTest ≠ none → exec (.testGate .service) s = .next (answeredWith .service .refusedBusy [] s))
           ∧ (s.coin.gateTest = none → exec (.testGate .service) s =
               .next (answeredWith .service .accepted [] { s with coin := { s.coin with gateTest := some (s.now + 6) } }))))

/-- Tier 2. A gate window runs out (R11, R12, R30, R31): the first is followed by one second drive; at the second's end
a COLLECT is taken as collected-unconfirmed, its value moved from E to B and to J, one more jam coin counted and
COIN_JAM raised; n falls by one, the shortfall check is made afresh (R34), and a settlement whose COLLECT stage has no
collection left outstanding enters REFUND with REFUND_ALL queued (R36, R37); a REFUND as refunded-unconfirmed, its value moved from E to R and counted, the second such
in a row raising RETURN_BLOCKED. An expiry with no gate operation changes nothing (log 3). -/
def Obligations.GateWindowsRunOut : Prop :=
  ∀ s : State, awake s = true → s.alarm.entries.length = 16 →
    (s.coin.gateOp = none → exec .gateWindowExpiry s = .next s)
    ∧ (∀ g, s.coin.gateOp = some g → g.second = false → exec .gateWindowExpiry s = .next { s with coin := { s.coin with
        gateOp := some { g with second := true, since := s.now, ticket := s.coin.tickets }
        tickets := s.coin.tickets + 1 } })
    ∧ (∀ g, s.coin.gateOp = some g → g.second = true → ∀ x rest, s.coin.escrow = x :: rest →
        (g.motion = .collect → ∃ t, exec .gateWindowExpiry s = .next t
          ∧ CollectionsChecked
              { s.account with e := s.account.e - x.value, b := s.account.b + x.value, j := s.account.j + x.value
                               n := s.account.n - 1 }
              { s.coin with escrow := rest, gateOp := none
                            tally := { s.coin.tally with jam := min 65535 (s.coin.tally.jam + 1) } } t
          ∧ (alarmEntry t.alarm srcCoinJam).state ≠ .quiet
          ∧ t.cfg = s.cfg ∧ t.supply = s.supply ∧ t.analyser = s.analyser ∧ t.store.array = s.store.array)
        ∧ (g.motion = .refund → ∃ t, exec .gateWindowExpiry s = .next t
            ∧ t.coin = { s.coin with
                escrow := rest, gateOp := none, refundRun := if s.coin.refundRun = 0 then 1 else 0 }
            ∧ t.account = { s.account with
                e := s.account.e - x.value, r := s.account.r + x.value
                unconfirmed := min 255 (s.account.unconfirmed + 1) }
            ∧ (s.coin.refundRun ≠ 0 → (alarmEntry t.alarm srcReturnBlocked).state ≠ .quiet)
            ∧ (s.coin.refundRun = 0 → t.alarm = s.alarm ∧ t.store = s.store)
            ∧ t.cfg = s.cfg ∧ t.supply = s.supply ∧ t.analyser = s.analyser ∧ t.store.array = s.store.array))

/-- Tier 2. OPEN_COLLECTION (R19, R20): the right code opens the window for ten minutes, or starts them afresh, and the
wrong-code count returns to 0; a wrong one is counted, and the third raises BOX_DOOR and starts the lockout of 15
minutes; while that runs the answer is REFUSED_STATE. The box door's hit history empties as the window opens (R133).
CLOSE_COLLECTION (R21): with the window closed it is REFUSED_STATE; where the store cannot take the record it is
REFUSED_BUSY and nothing changes; else a COLLECTION record with the tally and the capacity is posted, the answer gives
the tally, and the tally, the near-posted flag and the window start afresh, and BOX_FULL is cleared by itself (R145),
or, while it is REPORTING, marked for the clear. The last two are for a store with no work waiting for a place, which
would go ahead (log 14). A code of another length than eight, or with a byte that is no keypad symbol, is answered
REFUSED_RANGE, the lockout or not, and one with * or # in it is compared and counts as wrong (both log 21); the time to
run follows OPEN directly (log 34). -/
def Obligations.CollectionsOpenAndClose : Prop :=
  (∀ (code : Digits) (s : State), Running s → SlotFree .service s → code.length ≠ 8 ∨ ¬ (∀ d ∈ code, d ≤ 11) →
     exec (.openCollection .service code) s = .next (answeredWith .service .refusedRange [] s))
  ∧ (∀ (code : Digits) (s : State), Running s → SlotFree .service s → code.length = 8 → code.all (· ≤ 11) = true →
     (s.coin.lockoutUntil ≠ none →
       exec (.openCollection .service code) s = .next (answeredWith .service .refusedState [] s))
     ∧ (s.coin.lockoutUntil = none →
         (code = s.cfg.code → ∃ t, exec (.openCollection .service code) s = .next t
           ∧ t.coin = { s.coin with windowUntil := some (s.now + 6000), wrongCodes := 0 }
           ∧ (portOf t.ports .service).slot = .ready .ok (byte1 0 ++ byte2 6000)
           ∧ (s.coin.windowUntil ≠ none → t.alarm = s.alarm)
           ∧ (s.coin.windowUntil = none → t.alarm = { s.alarm with
               sensors := s.alarm.sensors.set 0 { sensorState s.alarm 0 with hits := [] } })
           ∧ t = { s with coin := t.coin, alarm := t.alarm, ports := t.ports })
         ∧ (code ≠ s.cfg.code → s.coin.wrongCodes < 2 → exec (.openCollection .service code) s =
             .next (answeredWith .service .ok (byte1 1) { s with coin := { s.coin with wrongCodes := s.coin.wrongCodes + 1 } }))
         ∧ (code ≠ s.cfg.code → 2 ≤ s.coin.wrongCodes → s.alarm.entries.length = 16 →
             ∃ t, exec (.openCollection .service code) s = .next t
               ∧ t.coin = { s.coin with wrongCodes := 0, lockoutUntil := some (s.now + 9000) }
               ∧ (portOf t.ports .service).slot = .ready .ok (byte1 2)
               ∧ (alarmEntry t.alarm srcBoxDoor).state ≠ .quiet ∧ t.account = s.account ∧ t.call = s.call ∧ t.cfg = s.cfg)))
  ∧ (∀ s : State, Running s → SlotFree .service s →
       let record : Record := .collection { time := timeOfDay s, tally := s.coin.tally, capacity := s.cfg.capacity }
       let full := alarmEntry s.alarm srcBoxFull
       (s.coin.windowUntil = none → exec (.closeCollection .service) s = .next (answeredWith .service .refusedState [] s))
       ∧ (s.coin.windowUntil ≠ none → nextWork s.store = none →
           (postRing .call record s.store = none →
             exec (.closeCollection .service) s = .next (answeredWith .service .refusedBusy [] s))
           ∧ (postRing .call record s.store ≠ none → ∃ t, exec (.closeCollection .service) s = .next t
               ∧ t.coin = { s.coin with tally := {}, nearPosted := false, windowUntil := none }
               ∧ (portOf t.ports .service).slot = .ready .ok (tallyBytes s.coin.tally)
               ∧ (t.store.queue.any (fun op => match op with
                   | .record _ r => r == record
                   | _ => false)) = true
               ∧ (full.state = .quiet → t.alarm = s.alarm)
               ∧ (full.state = .reporting → t.alarm = { s.alarm with
                   entries := s.alarm.entries.set srcBoxFull { full with clearPending := true } })
               ∧ (full.state = .raised ∨ full.state = .reported → s.alarm.entries.length = 16 →
                   alarmEntry t.alarm srcBoxFull = {} ∧ t.alarm.service = derivedService t)
               ∧ t.account = s.account ∧ t.call = s.call ∧ t.cfg = s.cfg ∧ t.tariff = s.tariff ∧ t.analyser = s.analyser
               ∧ t.supply = s.supply ∧ t.store.array = s.store.array)))

/-! ### The account's ends -/

/-- Tier 2. A settlement ends when its refunds are over (R31, R37, R84), the gate free and the list empty, whether the
REFUND_ALL has been taken out with the list empty or still stands in the queue and could be taken now: the account is
IDLE with all amounts zero and the call IDLE with nothing left of it, or, with an off-hook held and the handset still off, at once COLLECTING for the
next call; a settlement of recovery hands its figures to recovery. Until then the event changes nothing (log 23). A
carry completes once no collection is outstanding (R40, R81): the new account is OPEN with K the credit left over, E as
it stood and B what was banked beyond the charges; the call is COLLECTING with no number, outcome or follow-on mark,
under a fresh analysis; the escrow coins stay (log 26). The call record of either end (R86, R87), posted where D + K is
more than 0 or the call holds a number, has the account's figures, E among them (log 33), the forfeited B − C at a
settlement alone, and the follow-on flag at a carry; one the store refuses is counted into the overflow totals and
raises STORE (R173, R174). The clauses on the record are for a call whose outcome is fixed (log 30) and a store with no
work waiting, which would go ahead (log 14). -/
def Obligations.AccountsEndAndCarry : Prop :=
  (∀ s : State, awake s = true →
     let refundsOver := s.coin.gateOp = none ∧ s.coin.escrow = [] ∧ (s.coin.gateQueue = []
       ∨ (s.coin.gateQueue = [.refundAll] ∧ s.coin.gateTest = none ∧ s.supply.state = .normal
           ∧ ∀ r, s.supply.recovery = some r → r.flushUntil = none))
     (s.account.phase = .settling .refund false → refundsOver →
       ∃ t, exec .settlementEnds s = .next t
         ∧ t.coin = { s.coin with gateQueue := [] }
         ∧ ((s.call.heldOffHook = false ∨ s.call.hook ≠ .off) →
             t.account = {} ∧ t.analyser = {} ∧ t.call.state = .idle ∧ t.call.acceptance = none ∧ t.call.outcome = none
             ∧ t.call.reason = none ∧ t.call.hangUp = false ∧ t.call.followOn = false ∧ t.call.timer = none
             ∧ t.call.duration = 0 ∧ t.call.restartEnd = false)
         ∧ (s.call.heldOffHook = true → s.call.hook = .off → t.call.state = .collecting
             ∧ t.account = { phase := .opened false } ∧ t.call.heldOffHook = false ∧ t.call.acceptance = none)
         ∧ (s.call.restartEnd = true → t.supply = { s.supply with callEnded := true })
         ∧ (s.call.restartEnd = false → t.supply = s.supply)
         ∧ (s.alarm.entries.length = 16 → nextWork s.store = none → ∀ o, s.call.outcome = some o →
             CallRecorded (callRecordOf o (some (s.account.b - s.account.c)) false s) s t)
         ∧ t.cfg = s.cfg ∧ t.tariff = s.tariff ∧ t.store.array = s.store.array)
     ∧ (∀ r, s.supply.recovery = some r → s.account.phase = .settling .refund true → refundsOver →
         exec .settlementEnds s = .next { s with
           account := {}
           coin := { s.coin with gateQueue := [] }
           supply := { s.supply with recovery := some { r with phase := .checking, figures := some (figuresOf s.account) } } })
     ∧ (s.coin.escrow ≠ [] ∨ s.coin.gateOp ≠ none ∨ .collect ∈ s.coin.gateQueue
         ∨ (.refundAll ∈ s.coin.gateQueue ∧ (s.supply.state = .warn ∨ s.coin.gateTest ≠ none))
         ∨ (∀ r, s.account.phase ≠ .settling .refund r) → exec .settlementEnds s = .next s))
  ∧ (∀ s : State, awake s = true →
       (s.account.phase = .opened true → s.account.n = 0 → ∃ t, exec .carryCompletes s = .next t
         ∧ t.account = { phase := .opened false, d := 0, k := s.account.e + s.account.b - s.account.c, e := s.account.e
                         b := s.account.b - s.account.c, r := 0, c := 0, j := 0, unconfirmed := 0, n := 0 }
         ∧ t.call = { s.call with
             state := .collecting, outcome := none, reason := none, acceptance := none, startTime := timeOfDay s
             duration := 0, connectedSince := none, bandAtAnswer := none, steps := 0, followOn := false }
         ∧ t.analyser = { state := .awaitingFirst, buffer := [], timer := some (.firstDigit, s.now + 200), decision := none }
         ∧ (s.alarm.entries.length = 16 → nextWork s.store = none → ∀ o, s.call.outcome = some o →
             CallRecorded (callRecordOf o none true s) s t)
         ∧ t.coin = s.coin ∧ t.cfg = s.cfg ∧ t.supply = s.supply ∧ t.store.array = s.store.array)
       ∧ (s.account.phase ≠ .opened true ∨ s.account.n ≠ 0 → exec .carryCompletes s = .next s))

/-! ### Metering, tariffs and the clock -/

/-- Tier 2. ANSWER of a METERED call starts metering from the locked row, with the entry of the band in force (R71, R103
to R105, R108, R110). The connection charge is added to C, the shortfall check following it and every charge (R34). A LOCAL call with a free interval enters it; without one its
first step is charged at once; an EXCHANGE call is PULSED, with twice the step charge as its warning threshold, and goes
to WARNING when A lies below that. Where A does not cover the connection charge, A itself is charged, and where what
is left does not cover the first step of a call without a free interval nothing more is: the call is cleared as
FORCED_CLEAR, its metering STOPPED with no row. That mode and count of a context so stopped are LOCAL and 0 is the model's
choice (log 30). -/
def Obligations.AnswerStartsMetering : Prop :=
  ∀ s : State, Running s → SlotFree .line s → s.line.owner = .customer → s.call.state = .alerting →
    s.tariff.meter.state = .stopped → s.account.phase = .opened false →
    ∀ a, s.call.acceptance = some a → ∀ row, a.row = some row →
    let e := row.getD (bandInForce s) TariffEntry.initial
    let left := available { s.account with c := s.account.c + e.connection }
    let checked := fun (t : State) => if e.connection = 0 then t.account = s.account ∧ t.coin = s.coin
      else CollectionsChecked { s.account with c := s.account.c + e.connection } s.coin t
    (e.connection ≤ available s.account → e.source = .localSteps → e.free ≠ 0 →
      ∃ t, exec (.answer .line) s = .next t
        ∧ t.call = { s.call with
            state := .connected, timer := none, bandAtAnswer := some (bandInForce s), connectedSince := some s.now
            duration := 0 }
        ∧ t.account = { s.account with c := s.account.c + e.connection, n := t.account.n }
        ∧ checked t
        ∧ t.tariff.meter = { state := .freeInterval, mode := .localSteps, row := some row
                             periodUntil := some (s.now + e.free), entry := some e, steps := 0 }
        ∧ (portOf t.ports .line).slot = .ready .ok []
        ∧ t = { s with call := t.call, account := t.account, coin := t.coin, tariff := t.tariff, ports := t.ports })
    ∧ (e.connection ≤ available s.account → e.source = .localSteps → e.free = 0 → e.step ≤ left →
      ∃ t, exec (.answer .line) s = .next t ∧ t.call.state = .connected
        ∧ t.account = { s.account with c := s.account.c + e.connection + e.step, n := t.account.n }
        ∧ (∃ u : State, checked u ∧ CollectionsChecked { u.account with c := u.account.c + e.step } u.coin t)
        ∧ t.tariff.meter = { state := .stepping, mode := .localSteps, row := some row, entry := some e, steps := 1
                             periodUntil := some (s.now + (if e.firstPeriod ≠ 0 then e.firstPeriod else e.period)) })
    ∧ (e.connection ≤ available s.account → e.source = .localSteps → e.free = 0 → left < e.step →
      ∃ t, exec (.answer .line) s = .next t ∧ t.call.state = .clearing
        ∧ (s.call.outcome = none → t.call.outcome = some .forcedClear)
        ∧ t.account = { s.account with c := s.account.c + e.connection, n := t.account.n }
        ∧ checked t
        ∧ t.tariff.meter = {} ∧ t.call.steps = 0 ∧ t.line = lineWithOrder .release 50 s)
    ∧ (e.connection ≤ available s.account → e.source = .exchange →
      ∃ t, exec (.answer .line) s = .next t
        ∧ t.call.state = (if left < 2 * e.step then .warning else .connected)
        ∧ t.account = { s.account with c := s.account.c + e.connection, n := t.account.n }
        ∧ checked t
        ∧ t.tariff.meter = { state := .pulsed, mode := .exchange, row := some row, threshold := some (2 * e.step)
                             warned := decide (left < 2 * e.step), steps := 0 })
    ∧ (available s.account < e.connection →
      ∃ t, exec (.answer .line) s = .next t ∧ t.call.state = .clearing
        ∧ (s.call.outcome = none → t.call.outcome = some .forcedClear)
        ∧ t.account = { s.account with c := s.account.c + available s.account, n := t.account.n }
        ∧ (0 < available s.account → CollectionsChecked { s.account with c := s.account.c + available s.account } s.coin t)
        ∧ t.tariff.meter = {} ∧ t.line = lineWithOrder .release 50 s)

/-- Tier 2. METER_PULSE (R73, R108, R109, R110): with no exchange metering running it is taken and charges nothing;
while PULSED it adds the step charge of the band in force to C, with the shortfall check behind it (R34), counts one and
sets the threshold afresh; a pulse that A does not cover charges A, counts, and clears the call as FORCED_CLEAR, its
metering STOPPED with no row; for an account being closed metering ends with no charge. That mode and count of a context
so stopped are LOCAL and 0 is the model's choice (log 30). -/
def Obligations.MeterPulseCharges : Prop :=
  ∀ s : State, Running s → SlotFree .line s → s.line.owner = .customer →
    s.call.state = .connected ∨ s.call.state = .warning →
    let m := (entryInForce s).step
    (s.tariff.meter.state ≠ .pulsed → exec (.meterPulse .line) s = .next (answeredWith .line .ok [] s))
    ∧ (s.tariff.meter.state = .pulsed →
        (s.account.phase = .opened false → m ≤ available s.account → ∃ t, exec (.meterPulse .line) s = .next t
          ∧ CollectionsChecked { s.account with c := s.account.c + m } s.coin t
          ∧ t.tariff.meter.state = .pulsed ∧ t.tariff.meter.steps = min 65535 (s.tariff.meter.steps + 1)
          ∧ t.tariff.meter.threshold = some (2 * m)
          ∧ t.tariff.meter.warned = decide (available { s.account with c := s.account.c + m } < 2 * m)
          ∧ t = { s with call := t.call, account := t.account, coin := t.coin, tariff := t.tariff, ports := t.ports })
        ∧ (s.account.phase = .opened false → available s.account < m → ∃ t, exec (.meterPulse .line) s = .next t
            ∧ t.call.state = .clearing ∧ t.call.steps = min 65535 (s.tariff.meter.steps + 1)
            ∧ (s.call.outcome = none → t.call.outcome = some .forcedClear)
            ∧ t.account = { s.account with c := s.account.c + available s.account, n := t.account.n }
            ∧ CollectionsChecked { s.account with c := s.account.c + available s.account } s.coin t
            ∧ t.tariff.meter = {} ∧ t.line = lineWithOrder .release 50 s)
        ∧ ((∀ carry, s.account.phase = .opened carry → carry = true) → exec (.meterPulse .line) s =
            .next (answeredWith .line .ok [] { s with tariff := { s.tariff with meter := { s.tariff.meter with
              state := .forced, periodUntil := none } } })))

/-- Tier 2. A step falls due (R106, R108): where A covers the step charge of the band in force it is added to C, the
shortfall check follows (R34), the step is counted and its period starts, the first step period where the call's first step has one; where A falls short
nothing is charged and an answered call is cleared as FORCED_CLEAR with its steps handed over. With no period running
the event changes nothing (log 3). The warning point (R107) fixes the step charge of the band in force as the warning
charge; with A below it and the call CONNECTED, CREDIT_WARNING is sent and posted with the charge (in three bytes: log
34), A and the time left, and the call is in WARNING; with A enough and no warning sent nothing more happens. -/
def Obligations.StepsAndWarningPointsAreMetered : Prop :=
  (∀ s : State, awake s = true →
     let m := s.tariff.meter
     let e := entryInForce s
     (periodRuns m = false → exec .stepFallsDue s = .next s)
     ∧ (periodRuns m = true → s.account.phase = .opened false → e.step ≤ available s.account →
         ∃ t, exec .stepFallsDue s = .next t
           ∧ CollectionsChecked { s.account with c := s.account.c + e.step } s.coin t
           ∧ t.tariff.meter = { m with
               state := .stepping, steps := min 65535 (m.steps + 1), entry := some e, warnPassed := false
               warnCharge := none, warned := false
               periodUntil := some (s.now + (if m.state = .freeInterval ∧ e.firstPeriod ≠ 0 then e.firstPeriod else e.period)) }
           ∧ t.call = { s.call with state := if m.warned = true ∧ s.call.state = .warning then .connected else s.call.state }
           ∧ t = { s with call := t.call, account := t.account, coin := t.coin, tariff := t.tariff, ports := t.ports })
     ∧ (periodRuns m = true → available s.account < e.step →
         s.call.state = .connected ∨ s.call.state = .warning →
         ∃ t, exec .stepFallsDue s = .next t ∧ EntersClearing .forcedClear s t))
  ∧ (∀ s : State, awake s = true → periodRuns s.tariff.meter = true → s.tariff.meter.warnPassed = false →
       s.tariff.meter.warned = false →
       let m := s.tariff.meter
       let w := (entryInForce s).step
       (w ≤ available s.account → exec .warningPoint s =
         .next { s with tariff := { s.tariff with meter := { m with warnPassed := true, warnCharge := some w } } })
       ∧ (available s.account < w → s.call.state = .connected → exec .warningPoint s =
           .next (postNotice .creditWarning
             (byte3 w ++ byte2 (available s.account) ++ optionBytes byte2 (m.periodUntil.map (fun u => u - s.now)))
             { s with
               call := { s.call with state := .warning }
               tariff := { s.tariff with meter := { m with warnPassed := true, warnCharge := some w, warned := true } } })))

/-- Part of ClockAndCalendarAreSet: the count of the clock (R97). One tenth of a second on, each field carries into the next
at its end: tenths at 9, seconds and minutes at 59, hours at 23, days at the length of the month, months at 12; and the tick
at the end of 2099 is the one the clock does not take. A valid time goes over into a valid one, and the weekday of a date
goes on by one with the date, 1 January 2000 being a Saturday. -/
def Sys2Proof.Machine.ClockCounts : Prop :=
  (∀ (t : DateTime) (tenth : Nat),
    let next := clockTick { time := t, tenth := tenth }
    (tenth < 9 → next = some { time := t, tenth := tenth + 1 })
    ∧ (tenth = 9 →
        (t.second < 59 → next = some { time := { t with second := t.second + 1 }, tenth := 0 })
        ∧ (t.second = 59 → t.minute < 59 → next = some { time := { t with minute := t.minute + 1, second := 0 }, tenth := 0 })
        ∧ (t.second = 59 → t.minute = 59 → t.hour < 23 →
            next = some { time := { t with hour := t.hour + 1, minute := 0, second := 0 }, tenth := 0 })
        ∧ (t.second = 59 → t.minute = 59 → t.hour = 23 →
            let length := if t.month = 2 then (if t.year % 4 = 0 then 29 else 28)
              else if t.month ∈ [4, 6, 9, 11] then 30 else 31
            (t.day < length → next = some { time := ⟨t.year, t.month, t.day + 1, 0, 0, 0⟩, tenth := 0 })
            ∧ (t.day = length → t.month < 12 → next = some { time := ⟨t.year, t.month + 1, 1, 0, 0, 0⟩, tenth := 0 })
            ∧ (t.day = length → t.month = 12 → t.year < 2099 →
                next = some { time := ⟨t.year + 1, 1, 1, 0, 0, 0⟩, tenth := 0 })
            ∧ (t.day = length → t.month = 12 → t.year = 2099 → next = none))))
  ∧ (∀ c u : ClockTime, timeValid c.time = true → c.tenth ≤ 9 → clockTick c = some u →
      timeValid u.time = true ∧ u.tenth ≤ 9
      ∧ weekday (dateOf u.time) =
          if dateOf u.time = dateOf c.time then weekday (dateOf c.time) else (weekday (dateOf c.time) + 1) % 7)
  ∧ weekday ⟨2000, 1, 1⟩ = 5

/-- Part of ClockAndCalendarAreSet: the band in force (R100, R101): 0 while the clock is UNSET; else that of the latest switch
point at or before the present minute, in the schedule of the day type, which is SUNDAY for a date of the holiday list and
else goes by the weekday, Monday counting from 0. A schedule has a point at minute 0 and rising minutes, so there is one. -/
def Sys2Proof.Machine.BandFollowsTheCalendar : Prop :=
  ∀ s : State,
    (s.tariff.clock = none → bandInForce s = 0)
    ∧ (∀ c, s.tariff.clock = some c →
        let day := weekday (dateOf c.time)
        let points := if some (dateOf c.time) ∈ s.cfg.holidays then s.cfg.sunday
          else if day = 6 then s.cfg.sunday else if day = 5 then s.cfg.saturday else s.cfg.weekday
        let present := c.time.hour * 60 + c.time.minute
        points.Pairwise (fun p q => p.minute < q.minute) → (points.head?.map (·.minute)) = some 0 →
        ∃ p ∈ points, p.minute ≤ present ∧ (∀ q ∈ points, q.minute ≤ present → q.minute ≤ p.minute)
          ∧ bandInForce s = p.band)

/-- Tier 2. The clock and the calendar (R95, R97, R98, R100 to R102), in three parts: what the requests write, how the
clock counts, and which band is in force. SET_CLOCK takes a valid time with tenths 0 and,
where a scheduled time is not yet reached, leaves it scheduled, and where it reaches or passes it, activates the PENDING
bank with a COMMIT posted, which joins the queue where nothing waits ahead of it and there is room (log 14); the clock
that passes the end of 2099 is UNSET, with CLOCK_UNSET, and a schedule then waits for the clock; a day's schedule has
one to six points, the first at minute 0 and the minutes rising; a holiday slot takes a valid date that stands in no
other slot. What is out of range is answered REFUSED_RANGE and changes nothing. CLOCK_BECOMES_UNSET is that moment
itself (log 1), and with the clock UNSET already changes nothing (log 3). The clock carries from tenths up to years, over
the usual lengths of the months and 29 days in February of every fourth year, and its tick at the end of 2099 is the one it
does not take; the weekday goes on with the date from Saturday, 1 January 2000. The band in force is 0 while the clock is
UNSET, and else that of the latest switch point at or before the present minute in the schedule of the day's type. -/
def Obligations.ClockAndCalendarAreSet : Prop :=
  ClockCounts ∧ BandFollowsTheCalendar ∧
  ∀ (x : DateTime) (slot : Nat) (d : Date) (points : List (Nat × Nat)) (s : State), Running s → SlotFree .line s →
    (timeValid x = false → exec (.setClock .line x) s = .next (answeredWith .line .refusedRange [] s))
    ∧ (timeValid x = true → s.tariff.schedule = .none → exec (.setClock .line x) s =
        .next (answeredWith .line .ok [] { s with tariff := { s.tariff with clock := some { time := x, tenth := 0 } } }))
    ∧ (timeValid x = true → ∀ u, scheduledTime s.tariff.schedule = some u → secondsOf x < secondsOf u →
        exec (.setClock .line x) s = .next (answeredWith .line .ok [] { s with tariff := { s.tariff with
          clock := some { time := x, tenth := 0 }, schedule := .scheduled u } }))
    ∧ (timeValid x = true → ∀ u, scheduledTime s.tariff.schedule = some u → secondsOf u ≤ secondsOf x →
        ∃ t, exec (.setClock .line x) s = .next t ∧ (portOf t.ports .line).slot = .ready .ok []
          ∧ t.tariff = { s.tariff with clock := some { time := x, tenth := 0 }, schedule := .none }
          ∧ t.cfg = { s.cfg with
              bank := copyBank s.cfg.bank s.tariff.pendingBank
              generation := if 65535 ≤ s.cfg.generation then 0 else s.cfg.generation + 1 }
          ∧ (nextWork s.store = none → queueHasRoom s.store = true → s.store.queue.any isCommit = false →
              t.store.queue = s.store.queue ++ [.commit])
          ∧ t.call = s.call ∧ t.account = s.account ∧ t.coin = s.coin)
    ∧ (s.tariff.clock = none → exec .clockBecomesUnset s = .next s)
    ∧ (s.tariff.clock ≠ none → exec .clockBecomesUnset s = .next (postNotice .clockUnset []
        { s with tariff := { s.tariff with clock := none, schedule := scheduleWithoutClock s.tariff.schedule } }))
    ∧ (∀ u, scheduleWithoutClock (.scheduled u) = .waitingClock u)
    ∧ (1 ≤ points.length → points.length ≤ 6 → (points.head?.map (·.1)) = some 0 →
        points.Pairwise (fun a b => a.1 < b.1) → (∀ p ∈ points, p.1 ≤ 1439 ∧ p.2 ≤ 3) →
        let l : List SwitchPoint := points.map (fun p => ⟨p.1, p.2⟩)
        exec (.writeCalendarDayType .line (some .weekday) points) s =
          .next (answeredWith .line .ok [] { s with cfg := { s.cfg with weekday := l } })
        ∧ exec (.writeCalendarDayType .line (some .saturday) points) s =
          .next (answeredWith .line .ok [] { s with cfg := { s.cfg with saturday := l } })
        ∧ exec (.writeCalendarDayType .line (some .sunday) points) s =
          .next (answeredWith .line .ok [] { s with cfg := { s.cfg with sunday := l } }))
    ∧ (points.length = 0 ∨ 6 < points.length ∨ (points.head?.map (·.1)) ≠ some 0
        ∨ ¬ points.Pairwise (fun a b => a.1 < b.1) ∨ ¬ (∀ p ∈ points, p.1 ≤ 1439 ∧ p.2 ≤ 3) →
        exec (.writeCalendarDayType .line (some .weekday) points) s = .next (answeredWith .line .refusedRange [] s)
        ∧ exec (.writeCalendarDayType .line (some .saturday) points) s = .next (answeredWith .line .refusedRange [] s)
        ∧ exec (.writeCalendarDayType .line (some .sunday) points) s = .next (answeredWith .line .refusedRange [] s))
    ∧ (slot ≤ 19 → exec (.writeCalendarHoliday .line slot none) s =
        .next (answeredWith .line .ok [] { s with cfg := { s.cfg with holidays := s.cfg.holidays.set slot none } }))
    ∧ (slot ≤ 19 → dateValid d = true → (∀ k, k ≠ slot → s.cfg.holidays.getD k none ≠ some d) →
        exec (.writeCalendarHoliday .line slot (some d)) s =
          .next (answeredWith .line .ok [] { s with cfg := { s.cfg with holidays := s.cfg.holidays.set slot (some d) } }))
    ∧ (19 < slot ∨ dateValid d = false ∨ (∃ k ∈ List.range 20, k ≠ slot ∧ s.cfg.holidays.getD k none = some d) →
        exec (.writeCalendarHoliday .line slot (some d)) s = .next (answeredWith .line .refusedRange [] s))

/-- Tier 2. WRITE_TARIFF (R89, R91): a class or band out of range, or a field out of its range, is answered
REFUSED_RANGE and changes nothing; else the PENDING entry becomes the fields, or absent for CLEAR, and nothing else
changes; but a schedule, whether it waits for its time or for the clock, is cancelled by either, and ACTIVATION_CANCELLED
with its time is posted to every port. -/
def Obligations.TariffEntriesAreWritten : Prop :=
  ∀ (cls band : Nat) (f : TariffFields) (s : State), Running s → SlotFree .line s →
    let inRange := f.connection ≤ 65535 ∧ 1 ≤ f.step ∧ f.step ≤ 65535 ∧ 10 ≤ f.period ∧ f.period ≤ 36000
      ∧ (f.firstPeriod = 0 ∨ (10 ≤ f.firstPeriod ∧ f.firstPeriod ≤ 36000)) ∧ f.free ≤ 6000 ∧ f.free % 10 = 0
      ∧ f.source ≠ none ∧ 50 ≤ f.lead ∧ f.lead ≤ 600 ∧ f.lead % 10 = 0
    let written := fun (e : Option TariffEntry) =>
      s.tariff.pendingBank.set cls ((s.tariff.pendingBank.getD cls []).set band e)
    (7 < cls ∨ 3 < band ∨ ¬ inRange →
      exec (.writeTariff .line cls band (some f)) s = .next (answeredWith .line .refusedRange [] s))
    ∧ (7 < cls ∨ 3 < band → exec (.writeTariff .line cls band none) s = .next (answeredWith .line .refusedRange [] s))
    ∧ (cls ≤ 7 → band ≤ 3 → ∀ fields : Option TariffFields, (fields = none ∨ (fields = some f ∧ inRange)) →
        let entry := fields.map (fun f => (
          { connection := f.connection, step := f.step, period := f.period, firstPeriod := f.firstPeriod
            free := f.free, source := f.source.getD .localSteps, lead := f.lead } : TariffEntry))
        (s.tariff.schedule = .none → exec (.writeTariff .line cls band fields) s =
          .next (answeredWith .line .ok [] { s with tariff := { s.tariff with pendingBank := written entry } }))
        ∧ (∀ u, s.tariff.schedule = .scheduled u ∨ s.tariff.schedule = .waitingClock u →
            exec (.writeTariff .line cls band fields) s =
              .next (answeredWith .line .ok [] (postNotice .activationCancelled (timeBytes u)
                { s with tariff := { s.tariff with pendingBank := written entry, schedule := .none } }))))

/-- Tier 2. An activation (R93 to R95): ordered NOW, by a time already reached, or by the scheduled moment, it copies
every present PENDING entry over the ACTIVE one, raises the generation by one, from 65535 to 0, ends the schedule and
posts a COMMIT, which joins the queue where nothing waits ahead of it and there is room. An empty PENDING bank is
answered REFUSED_STATE, a time that is none REFUSED_RANGE; a later time is scheduled, or waits for the clock.
SCHEDULED_ACTIVATION_DUE is the moment itself, whatever the clock shows (log 1), and with no schedule changes nothing
(log 3); the answers bear no form byte (log 34). The COMMIT's clause is for a store with no work waiting (log 14). -/
def Obligations.ActivationCopiesTheBank : Prop :=
  ∀ (x : DateTime) (s : State), Running s →
    let generation := if 65535 ≤ s.cfg.generation then 0 else s.cfg.generation + 1
    let activated := fun (t : State) =>
      t.cfg = { s.cfg with bank := t.cfg.bank, generation := generation }
      ∧ (s.cfg.bank.length = 8 → (∀ r ∈ s.cfg.bank, r.length = 4) → s.tariff.pendingBank.length = 8 →
          (∀ r ∈ s.tariff.pendingBank, r.length = 4) → ∀ cls, cls ≤ 7 → ∀ band, band ≤ 3 →
            rowEntry (t.cfg.bank.getD cls []) band =
              ((s.tariff.pendingBank.getD cls []).getD band none).getD (rowEntry (s.cfg.bank.getD cls []) band))
      ∧ t.tariff = { s.tariff with schedule := .none }
      ∧ (nextWork s.store = none → queueHasRoom s.store = true → s.store.queue.any isCommit = false →
          t.store.queue = s.store.queue ++ [.commit])
      ∧ t.call = s.call ∧ t.account = s.account ∧ t.coin = s.coin
    (∀ u, s.tariff.schedule = .scheduled u → ∃ t, exec .scheduledActivationDue s = .next t ∧ activated t)
    ∧ (s.tariff.schedule = .none → exec .scheduledActivationDue s = .next s)
    ∧ (SlotFree .line s →
        (pendingEmpty s.tariff = true →
          exec (.activateTariff .line none) s = .next (answeredWith .line .refusedState [] s))
        ∧ (pendingEmpty s.tariff = false → ∃ t, exec (.activateTariff .line none) s = .next t ∧ activated t
            ∧ (portOf t.ports .line).slot = .ready .ok (byte2 generation))
        ∧ (timeValid x = false →
            exec (.activateTariff .line (some x)) s = .next (answeredWith .line .refusedRange [] s))
        ∧ (timeValid x = true → pendingEmpty s.tariff = false → clockReached x s = true →
            ∃ t, exec (.activateTariff .line (some x)) s = .next t ∧ activated t)
        ∧ (timeValid x = true → pendingEmpty s.tariff = false → clockReached x s = false → s.tariff.clock ≠ none →
            exec (.activateTariff .line (some x)) s = .next (answeredWith .line .ok (byte1 1 ++ byte1 0)
              { s with tariff := { s.tariff with schedule := .scheduled x } }))
        ∧ (timeValid x = true → pendingEmpty s.tariff = false → s.tariff.clock = none →
            exec (.activateTariff .line (some x)) s = .next (answeredWith .line .ok (byte1 2 ++ byte1 0)
              { s with tariff := { s.tariff with schedule := .waitingClock x } })))

/-! ### Orders and the line -/

/-- Part of OrdersAreFetchedAndDone: FETCH_ORDER (R121) and the refusals of ORDER_DONE (R122). A part above 16 is answered
REFUSED_RANGE with the slot EMPTY too (log 37). -/
def Sys2Proof.Machine.OrdersAreFetched : Prop :=
  ∀ (kind : OrderKind) (number part : Nat) (outcome : OrderOutcome) (s : State), Running s → SlotFree .line s →
    (16 < part → exec (.fetchOrder .line part) s = .next (answeredWith .line .refusedRange [] s))
    ∧ (part ≤ 16 → s.line.slot = none → exec (.fetchOrder .line part) s = .next (answeredWith .line .ok (byte1 2) s))
    ∧ (∀ o, s.line.slot = some o →
        let taken := { s with line := { s.line with slot := some { o with taken := true } } }
        let head := byte1 (orderKindByte (orderKind o.body)) ++ byte1 o.number
        exec (.fetchOrder .line 0) s = .next (answeredWith .line .ok
          (byte1 0 ++ head ++ byte1 (ownerByte o.owner) ++ bodyBytes o.body) taken)
        ∧ (1 ≤ part → part ≤ 16 →
            (∀ i, (bodyBatch o.body)[part - 1]? = some i → exec (.fetchOrder .line part) s = .next (answeredWith .line .ok
              (byte1 1 ++ head ++ (byte1 i.source ++ byte1 (severityByte i.severity) ++ byte1 i.count
                ++ optionBytes timeBytes i.first ++ optionBytes timeBytes i.last)) taken))
            ∧ ((bodyBatch o.body).length < part →
                exec (.fetchOrder .line part) s = .next (answeredWith .line .refusedRange [] s))))
    ∧ exec (.orderDone .line none number (some outcome)) s = .next (answeredWith .line .refusedRange [] s)
    ∧ exec (.orderDone .line (some kind) number none) s = .next (answeredWith .line .refusedRange [] s)
    ∧ ((outcomesOf kind).contains outcome = false → exec (.orderDone .line (some kind) number (some outcome)) s =
        .next (answeredWith .line .refusedRange [] s))
    ∧ ((outcomesOf kind).contains outcome = true →
        (∀ o, s.line.slot = some o → orderKind o.body ≠ kind ∨ o.number ≠ number ∨ o.taken = false) →
        exec (.orderDone .line (some kind) number (some outcome)) s = .next (answeredWith .line .refusedState [] s))

/-- Part of OrdersAreFetchedAndDone: the end of a CONNECT, a TONE and a RELEASE (R67, R70, R77, R83, R122). A call that holds
the line has an OPEN account; a RELEASE's end is stated for one. -/
def Sys2Proof.Machine.CallOrdersEnd : Prop :=
  ∀ (number : Nat) (outcome : OrderOutcome) (s : State), Running s → SlotFree .line s →
    ∀ o, s.line.slot = some o → o.taken = true → o.number = number →
    let done := fun (kind : OrderKind) => exec (.orderDone .line (some kind) number (some outcome)) s
    let emptied := { s.line with slot := none }
    (orderKind o.body = .connect → s.call.state = .connecting →
      (outcome = .dialled → ∃ t, done .connect = .next t
        ∧ t.call = { s.call with state := .alerting, timer := some (.ring, s.now + s.cfg.ring * 10) }
        ∧ t.line = emptied ∧ (portOf t.ports .line).slot = .ready .ok []
        ∧ t = { s with call := t.call, line := t.line, ports := t.ports })
      ∧ (outcome = .noDialTone ∨ outcome = .failed → ∃ t, done .connect = .next t ∧ EntersClearing .failed s t))
    ∧ (orderKind o.body = .tone → outcome = .sent ∨ outcome = .failed →
        (s.call.afterDial = [] → done .tone = .next (answeredWith .line .ok [] { s with line := emptied }))
        ∧ (s.call.state = .connected ∨ s.call.state = .warning → s.line.owner = .customer →
            ∀ d rest, s.call.afterDial = d :: rest → done .tone = .next (answeredWith .line .ok [] { s with
              call := { s.call with afterDial := rest }, line := lineWithOrder (.tone d) 50 s })))
    ∧ (orderKind o.body = .release → s.call.state = .clearing → s.line.owner = .customer →
        (∃ carry, s.account.phase = .opened carry) → outcome = .cleared ∨ outcome = .failed →
        let w := releaseDone (freeLine (frameTaken .line s))
        done .release = .next (answeredWith .line .ok [] (arbiter w))
        ∧ w.line = { emptied with owner := .nobody }
        ∧ (s.call.hangUp = false → s.call.followOn = false →
            w.call = { s.call with state := .afterCall, timer := some (.followOn, s.now + 200) }
            ∧ w = { s with line := w.line, call := w.call, ports := w.ports })
        ∧ (s.call.hangUp = false → s.call.followOn = true → s.account.phase = .opened false →
            w.call = { s.call with state := .afterCall }
            ∧ CollectionsChecked { s.account with phase := .opened true } s.coin w
            ∧ w = { s with line := w.line, call := w.call, account := w.account, coin := w.coin, ports := w.ports })
        ∧ (s.call.hangUp = true → EntersSettling s w))

/-- Part of OrdersAreFetchedAndDone: the end of a REPORT, of its ABORT and of a centre session's (R117, R122, R128, R155 to
R163), for a store with no work waiting (log 14) and no pending clear. That LINE_STATE is posted ahead of REPORT_ENDED is the
model's order of notices (log 8). -/
def Sys2Proof.Machine.LineIsFreedByOrders : Prop :=
  ∀ (number : Nat) (outcome : OrderOutcome) (s : State), Running s → SlotFree .line s →
    ∀ o, s.line.slot = some o → o.taken = true → o.number = number →
    let done := fun (kind : OrderKind) => exec (.orderDone .line (some kind) number (some outcome)) s
    let freed := postNotice .lineState (byte1 0)
      { frameTaken .line s with line := { s.line with slot := none, owner := .nobody } }
    let marks := s.report.batch.filterMap (fun i => i.place.map (fun p => StoreOp.mark p .reported))
    let ended := fun (x : ReportOutcome) (failures backoff : Nat) (w : State) =>
      w = { s with line := freed.line, alarm := w.alarm, report := w.report, store := w.store, ports := w.ports }
      ∧ w.ports = (postNotice .reportEnded (byte1 (reportOutcomeByte x) ++ byte1 (centreByte s.report.dialled)
          ++ byte1 s.report.batch.length ++ byte1 failures ++ byte2 backoff) freed).ports
    (s.line.owner = .report → nextWork s.store = none →
      (∀ i ∈ s.report.batch, (alarmEntry s.alarm i.source).state = .reporting
        ∧ (alarmEntry s.alarm i.source).clearPending = false) →
      (orderKind o.body = .report →
        (outcome = .delivered → queueUsed s.store + marks.length ≤ 8 →
          let w := reportEnded .delivered freed
          done .report = .next (answeredWith .line .ok [] (weigh (arbiter w)))
          ∧ ended .delivered 0 0 w
          ∧ w.report = { s.report with
              state := .standby, batch := [], failures := 0, run := 0, centre := .primary
              rotation := (s.report.batch.head?.map (·.source)).or s.report.rotation }
          ∧ w.store = { s.store with queue := s.store.queue ++ marks }
          ∧ (∀ i, alarmEntry w.alarm i =
              if i ∈ s.report.batch.map (·.source) then
                { alarmEntry s.alarm i with
                  state := if (alarmEntry s.alarm i).reRaised then .raised else .reported, reRaised := false }
              else alarmEntry s.alarm i)
          ∧ w.alarm = { s.alarm with entries := w.alarm.entries })
        ∧ (outcome = .noAnswer ∨ outcome = .busy ∨ outcome = .failed →
            let w := reportEnded (reportOutcomeOf outcome) freed
            done .report = .next (answeredWith .line .ok [] (weigh (arbiter w)))
            ∧ ended (reportOutcomeOf outcome) (failedReport s).failures
                ((((failedReport s).backoffUntil.getD 0) - s.now) / 10) w
            ∧ w.report = failedReport s ∧ w.store = s.store ∧ BatchReturned s w))
      ∧ (orderKind o.body = .abort → outcome = .cleared ∨ outcome = .failed →
          let w := reportEnded .aborted freed
          done .abort = .next (answeredWith .line .ok [] (weigh (handOn w)))
          ∧ ended .aborted s.report.failures 0 w
          ∧ w.report = { s.report with state := .standby, batch := [] } ∧ w.store = s.store ∧ BatchReturned s w))
    ∧ (s.line.owner = .centre → outcome = .cleared ∨ outcome = .failed → ∀ atLimit, o.body = .abort atLimit →
        done .abort = .next (answeredWith .line .ok [] (handOn (postNotice .centreEnded
          (byte1 (if atLimit = true then 2 else 1)) { freed with line := { freed.line with centreUntil := none } }))))

/-- Part of OrdersAreFetchedAndDone: an order past its limit on a line of the report unit or the centre (R123, R128). -/
def Sys2Proof.Machine.LimitsEndTheOwnership : Prop :=
  ∀ s : State, Running s → s.alarm.entries.length = 16 → s.line.slot ≠ none →
    let raised := raise srcLineFault .lineAllocator s
    (s.line.owner = .report → s.report.state = .inCall →
      let w := reportEnded .failed (freeLine raised)
      exec .orderLimitExpiry s = .next (weigh (handOn w))
      ∧ w.line = { s.line with slot := none, owner := .nobody } ∧ (alarmEntry w.alarm srcLineFault).state ≠ .quiet
      ∧ w.report = { failedReport s with
          identityUnsetPosted := w.report.identityUnsetPosted, centreUnsetPosted := w.report.centreUnsetPosted }
      ∧ SameOutsideAlarm s w)
    ∧ (s.line.owner = .centre →
        let w := endCentreSession .failed (freeLine raised)
        exec .orderLimitExpiry s = .next (handOn w)
        ∧ w.line = { s.line with
            slot := none, owner := .nobody, centreUntil := none, waitingReport := w.line.waitingReport }
        ∧ (alarmEntry w.alarm srcLineFault).state ≠ .quiet ∧ SameOutsideAlarm s w)

/-- Part of OrdersAreFetchedAndDone: the pre-empting claim's grant and the arbiter's choice (R115 to R118, R155). -/
def Sys2Proof.Machine.ArbiterChooses : Prop :=
  ∀ w : State, w.line.owner = .nobody → w.line.slot = none →
    let withoutCustomer := { w with line := { w.line with waitingCustomer := none } }
    let withoutReport := { w with line := { w.line with waitingReport := none } }
    (w.line.preempting = none → handOn w = arbiter w)
    ∧ (∀ a, w.call.acceptance = some a →
        (w.line.preempting ≠ none → CustomerGranted a { w with line := { w.line with preempting := none } } (handOn w))
        ∧ (w.line.waitingCustomer = some true
            ∨ (w.line.waitingCustomer = some false ∧ w.line.waitingReport ≠ some true) →
            CustomerGranted a withoutCustomer (arbiter w)))
    ∧ (reportNeeded w = true →
        (w.line.waitingCustomer = none ∧ w.line.waitingReport ≠ none)
          ∨ (w.line.waitingCustomer = some false ∧ w.line.waitingReport = some true) →
        ReportGranted withoutReport (arbiter w))
    ∧ (reportNeeded w = false → w.line.waitingCustomer = none → w.line.waitingReport ≠ none →
        arbiter w = { w with
          line := { w.line with waitingReport := none }
          report := { w.report with state := .standby, failures := 0, run := 0, centre := .primary }
          ports := (postNotice .lineState (byte1 0) (postNotice .lineState (byte1 2) w)).ports })
    ∧ (w.line.waitingCustomer = none → w.line.waitingReport = none → arbiter w = w)

/-- Tier 2. Orders are fetched and done, and what follows (R67, R70, R77, R83, R115 to R118, R121 to R123, R155 to
R163), in five parts. FETCH_ORDER gives part 0, or item k of a REPORT's batch, and makes the order TAKEN; it says EMPTY,
or REFUSED_RANGE where there is no such item, and with EMPTY too for a part above 16 (log 37; forms: log 7; an unset time
sent as absent, a TONE's digit as one byte, no form byte ahead of the fields of an order's kind: log 34). ORDER_DONE of an
outcome that is none of its kind's is answered REFUSED_RANGE (log 22), of an order not current or not TAKEN REFUSED_STATE.
DIALLED takes the call to ALERTING, NO_DIAL_TONE and FAILED to CLEARING; a TONE's end posts
the next digit; a RELEASE's end, for an OPEN account, frees the line and moves the call on by its marks. A REPORT's end
or its ABORT's frees the line, moves the batch's sources, posts the marks of a delivered one, sets failure count, centre
run, centre, rotation point and backoff, and posts REPORT_ENDED, which the model queues behind LINE_STATE (log 8); an
ABORT ends a centre session. A limit's end raises LINE_FAULT and tells REPORT or CENTRE that it failed. Then the
pre-empting claim is granted, or the arbiter chooses: EMERGENCY, a CRITICAL report, ORDINARY, the other report. The
clauses on the end of a report are for a store with no work waiting (log 14) and no pending clear. -/
def Obligations.OrdersAreFetchedAndDone : Prop :=
  OrdersAreFetched ∧ CallOrdersEnd ∧ LineIsFreedByOrders ∧ LimitsEndTheOwnership ∧ ArbiterChooses

/-- Tier 2. Centre sessions (R127, R128): CLAIM_CENTRE takes a free line on which nothing waits, for 30 minutes, else it
is answered REFUSED_BUSY; END_CENTRE frees it, or is answered REFUSED_STATE where no session runs; at the limit an ABORT
is posted for the session, unless one is current. A session expiry with no session or no timer changes nothing (log 3).
END_CENTRE with a claim waiting is left out here. -/
def Obligations.CentreSessionsRunTheirTime : Prop :=
  ∀ s : State, Running s →
    (SlotFree .line s →
      (s.line.owner = .nobody → s.line.waitingCustomer = none → s.line.waitingReport = none →
        ∃ t, exec (.claimCentre .line) s = .next t
          ∧ t.line = { s.line with owner := .centre, centreUntil := some (s.now + 18000) }
          ∧ (portOf t.ports .line).slot = .ready .ok [] ∧ t = { s with line := t.line, ports := t.ports })
      ∧ (s.line.owner ≠ .nobody ∨ s.line.waitingCustomer ≠ none ∨ s.line.waitingReport ≠ none →
          exec (.claimCentre .line) s = .next (answeredWith .line .refusedBusy [] s))
      ∧ (s.line.owner = .centre → s.line.waitingCustomer = none → s.line.waitingReport = none → s.line.preempting = none →
          ∃ t, exec (.endCentre .line) s = .next t
            ∧ t.line = { s.line with owner := .nobody, slot := none, centreUntil := none }
            ∧ (portOf t.ports .line).slot = .ready .ok [] ∧ t = { s with line := t.line, ports := t.ports })
      ∧ (s.line.owner ≠ .centre → exec (.endCentre .line) s = .next (answeredWith .line .refusedState [] s)))
    ∧ (s.line.owner = .centre → s.line.centreUntil ≠ none →
        (currentKind s.line ≠ some .abort → exec .centreSessionExpiry s = .next { s with
          line := lineWithOrder (.abort true) 50 { s with line := { s.line with centreUntil := none } } })
        ∧ (currentKind s.line = some .abort →
            exec .centreSessionExpiry s = .next { s with line := { s.line with centreUntil := none } }))
    ∧ (s.line.owner ≠ .centre ∨ s.line.centreUntil = none → exec .centreSessionExpiry s = .next s)

/-- Tier 2. The line fails (R77, R78, R123 to R125). LINE_LOST raises LINE_FAULT in every owner state; on a free line that is
all it does. On a call's line it ends the ownership, as does an order of the call past its limit, in every state in which
the call owns the line, CLEARING among them: the outcome is FAILED where none is fixed, timer, metering, duration and
after-dial queue stop, in CLEARING having stopped already, and the call moves on by its marks as after a RELEASE: hung up
it settles, with the follow-on mark it carries, with neither it is in AFTER_CALL under the follow-on timer. These clauses
are for an OPEN account, as a call that holds the line has, and no customer claim beside the call's. On a line of REPORT
the report call has failed: the batch's sources, for a store with no work waiting (log 14) and no pending clear, are RAISED
again, and failure count, centre run, centre and backoff follow. A centre session ends with CENTRE_ENDED, cause LINE_LOST.
Then the pre-empting claim is granted, or the arbiter runs, and after a report call the need is weighed. That LINE_STATE
is posted ahead of the former owner's own notice is the model's order (log 8). LINE_RESTORED clears LINE_FAULT. With no
order current the limit's expiry changes nothing (log 3). The clauses on LINE_RESTORED are for a store with no work waiting
for a place, which would go ahead (log 14). -/
def Obligations.LineFailureEndsTheOwnership : Prop :=
  ∀ s : State, Running s → SlotFree .line s → s.alarm.entries.length = 16 →
    let holds := s.call.state = .connecting ∨ s.call.state = .alerting ∨ s.call.state = .connected
      ∨ s.call.state = .warning ∨ s.call.state = .clearing
    let failed := fun (t : State) =>
      MovedByMarks s t ∧ t.line.owner ≠ .customer ∧ (alarmEntry t.alarm srcLineFault).state ≠ .quiet
      ∧ t.analyser = s.analyser ∧ t.cfg = s.cfg ∧ t.supply = s.supply ∧ t.store.array = s.store.array
    let raised := raise srcLineFault .lineAllocator (frameTaken .line s)
    let freed := postNotice .lineState (byte1 0) { raised with line := { raised.line with slot := none, owner := .nobody } }
    (s.line.owner = .nobody → exec (.lineLost .line) s = .next (answeredWith .line .ok [] raised)
      ∧ (alarmEntry raised.alarm srcLineFault).state ≠ .quiet ∧ SameOutsideAlarm s raised)
    ∧ (s.line.owner = .customer → s.line.waitingCustomer = none → s.line.preempting = none → holds →
        (∃ carry, s.account.phase = .opened carry) →
        (∃ t, exec (.lineLost .line) s = .next t ∧ failed t ∧ (portOf t.ports .line).slot = .ready .ok [])
        ∧ (s.line.slot ≠ none → ∃ t, exec .orderLimitExpiry s = .next t ∧ failed t))
    ∧ (s.line.owner = .report → s.report.state = .inCall →
        let w := reportEnded .failed freed
        exec (.lineLost .line) s = .next (answeredWith .line .ok [] (weigh (handOn w)))
        ∧ w.line = { s.line with slot := none, owner := .nobody } ∧ (alarmEntry w.alarm srcLineFault).state ≠ .quiet
        ∧ w.report = { failedReport s with
            identityUnsetPosted := w.report.identityUnsetPosted, centreUnsetPosted := w.report.centreUnsetPosted }
        ∧ (nextWork raised.store = none →
            (∀ i ∈ s.report.batch, (alarmEntry raised.alarm i.source).state = .reporting
              ∧ (alarmEntry raised.alarm i.source).clearPending = false) → BatchReturned raised w)
        ∧ SameOutsideAlarm s w)
    ∧ (s.line.owner = .centre →
        let w := postNotice .centreEnded (byte1 3) { freed with line := { freed.line with centreUntil := none } }
        exec (.lineLost .line) s = .next (answeredWith .line .ok [] (handOn w))
        ∧ w.line = { s.line with
            slot := none, owner := .nobody, centreUntil := none, waitingReport := w.line.waitingReport }
        ∧ (alarmEntry w.alarm srcLineFault).state ≠ .quiet ∧ SameOutsideAlarm s w)
    ∧ (s.line.slot = none → exec .orderLimitExpiry s = .next s)
    ∧ (nextWork s.store = none → (alarmEntry s.alarm srcLineFault).state = .quiet →
        exec (.lineRestored .line) s = .next (answeredWith .line .ok [] s))
    ∧ (nextWork s.store = none → (alarmEntry s.alarm srcLineFault).state = .raised
        ∨ (alarmEntry s.alarm srcLineFault).state = .reported → ∃ t, exec (.lineRestored .line) s = .next t
          ∧ alarmEntry t.alarm srcLineFault = {} ∧ (portOf t.ports .line).slot = .ready .ok []
          ∧ t.account = s.account ∧ t.call = s.call ∧ t.coin = s.coin ∧ t.cfg = s.cfg)

/-- Tier 2. WRITE_COIN, WRITE_PLAN and the settings 1 to 4 (R2, R15, R19, R48, R53, R71): each writes its one field of
the working configuration and is answered OK; a value out of range is answered REFUSED_RANGE, WRITE_COIN in a call (its
range is looked at first: log 37) and WRITE_PLAN in COLLECTING or WAIT_COINS REFUSED_STATE, and nothing changes. A
prefix that is another entry's is answered REFUSED_RANGE, and with a prefix so is a flag that is neither set nor clear
(log 36); a plan entry with an empty prefix becomes empty, whatever the other fields are. A box capacity whose near
level the tally stands at sets a clear near-posted flag and posts BOX_NEAR; one that the tally, below the old capacity,
stands at raises BOX_FULL. -/
def Obligations.ConfigurationIsWritten : Prop :=
  ∀ (k v entry n : Nat) (f : PlanFields) (code : Digits) (s : State), Running s → SlotFree .line s →
    let written := fun (cfg : Configuration) =>
      Host.Outcome.next (ρ := Refusal) (φ := Fault) (answeredWith .line .ok [] { s with cfg := cfg })
    let outOfRange := Host.Outcome.next (ρ := Refusal) (φ := Fault) (answeredWith .line .refusedRange [] s)
    let refused := Host.Outcome.next (ρ := Refusal) (φ := Fault) (answeredWith .line .refusedState [] s)
    (k < 1 ∨ 6 < k ∨ 65535 < v → exec (.writeCoin .line k v) s = outOfRange)
    ∧ (1 ≤ k → k ≤ 6 → v ≤ 65535 →
        (s.call.state ≠ .idle → exec (.writeCoin .line k v) s = refused)
        ∧ (s.call.state = .idle → exec (.writeCoin .line k v) s =
            written { s.cfg with coinValues := s.cfg.coinValues.set (k - 1) v }))
    ∧ (s.call.state = .collecting ∨ s.call.state = .waitCoins → exec (.writePlan .line entry f) s = refused)
    ∧ (s.call.state ≠ .collecting → s.call.state ≠ .waitCoins →
        (47 < entry ∨ 10 < f.digits.length ∨ ¬ (∀ d ∈ f.digits, d ≤ 11) → exec (.writePlan .line entry f) s = outOfRange)
        ∧ (f.digits ≠ [] → f.minLen < 1 ∨ 24 < f.minLen ∨ f.maxLen < f.minLen ∨ 24 < f.maxLen
            ∨ f.maxLen < f.digits.length ∨ 7 < f.cls ∨ f.barred = none ∨ f.emergency = none ∨ f.noCoin = none
            ∨ f.dialAtMin = none → exec (.writePlan .line entry f) s = outOfRange)
        ∧ (f.digits ≠ [] → ∀ j, j ≠ entry → (s.cfg.plan.getD j {}).digits = f.digits →
            exec (.writePlan .line entry f) s = outOfRange)
        ∧ (entry ≤ 47 → f.digits = [] → exec (.writePlan .line entry f) s =
            written { s.cfg with plan := s.cfg.plan.set entry {} })
        ∧ (entry ≤ 47 → f.digits ≠ [] → f.digits.length ≤ 10 → (∀ d ∈ f.digits, d ≤ 11) → 1 ≤ f.minLen → f.minLen ≤ 24 →
            f.minLen ≤ f.maxLen → f.maxLen ≤ 24 → f.digits.length ≤ f.maxLen →
            (∀ j, j ≠ entry → (s.cfg.plan.getD j {}).digits ≠ f.digits) → ∀ cls, classOfNumber f.cls = some cls →
            ∀ barred, f.barred = some barred → ∀ emergency, f.emergency = some emergency →
            ∀ noCoin, f.noCoin = some noCoin → ∀ dialAtMin, f.dialAtMin = some dialAtMin →
            let e : PlanEntry :=
              { digits := f.digits, minLen := f.minLen, maxLen := f.maxLen, cls := cls, barred := barred
                emergency := emergency, noCoin := noCoin, dialAtMin := dialAtMin }
            exec (.writePlan .line entry f) s = written { s.cfg with plan := s.cfg.plan.set entry e }))
    ∧ (n < 2 ∨ 30 < n → exec (.writeSettingInterDigit .line n) s = outOfRange)
    ∧ (2 ≤ n → n ≤ 30 → exec (.writeSettingInterDigit .line n) s = written { s.cfg with interDigit := n })
    ∧ (n < 30 ∨ 300 < n → exec (.writeSettingRing .line n) s = outOfRange)
    ∧ (30 ≤ n → n ≤ 300 → exec (.writeSettingRing .line n) s = written { s.cfg with ring := n })
    ∧ (n < 100 ∨ 3000 < n → exec (.writeSettingBoxCapacity .line n) s = outOfRange)
    ∧ (100 ≤ n → n ≤ 3000 → s.coin.tally.coins < (n * 9 + 9) / 10 →
        exec (.writeSettingBoxCapacity .line n) s = written { s.cfg with capacity := n })
    ∧ (100 ≤ n → n ≤ 3000 → (n * 9 + 9) / 10 ≤ s.coin.tally.coins →
        let full := s.coin.tally.coins < s.cfg.capacity ∧ n ≤ s.coin.tally.coins
        (¬ full → s.coin.nearPosted = true →
          exec (.writeSettingBoxCapacity .line n) s = written { s.cfg with capacity := n })
        ∧ (¬ full → s.coin.nearPosted = false → exec (.writeSettingBoxCapacity .line n) s =
            .next (answeredWith .line .ok [] (postNotice .boxNear (byte2 s.coin.tally.coins ++ byte4 s.coin.tally.value)
              { frameTaken .line s with
                cfg := { s.cfg with capacity := n }, coin := { s.coin with nearPosted := true } })))
        ∧ (full → s.alarm.entries.length = 16 → ∃ t, exec (.writeSettingBoxCapacity .line n) s = .next t
            ∧ t.cfg = { s.cfg with capacity := n } ∧ t.coin = { s.coin with nearPosted := true }
            ∧ (alarmEntry t.alarm srcBoxFull).state ≠ .quiet ∧ (portOf t.ports .line).slot = .ready .ok []
            ∧ t.account = s.account ∧ t.call = s.call ∧ t.tariff = s.tariff ∧ t.supply = s.supply
            ∧ t.store.array = s.store.array))
    ∧ (code.length ≠ 8 ∨ ¬ (∀ d ∈ code, d ≤ 9) → exec (.writeSettingCollectionCode .line code) s = outOfRange)
    ∧ (code.length = 8 → (∀ d ∈ code, d ≤ 9) →
        exec (.writeSettingCollectionCode .line code) s = written { s.cfg with code := code })

/-- Tier 2. WRITE_ALARM_SETUP and the settings 5 to 8 (R135, R136, R141, R150, R152 to R157): a source's setup is
written, the service state is derived afresh from the unmasked sources that are not QUIET, and a change of it posts
SERVICE_STATE (which of several deciding sources it names is a free value: log 9); a sensor's setup is written, its
window given in tenths and kept in whole seconds (log 34), and its history emptied; the report threshold, the priority
mode and the centre numbers are written. What is out of range is answered REFUSED_RANGE and changes nothing. After each
but the sensor's the need of a report is weighed: urgent sources that wait for an identity or a centre are told of once
a start; a report is needed with the identity LOCKED, a primary centre and an unmasked RAISED source at or above the
threshold. Needed, in STANDBY the claim is made: it waits on a line of the customer or the centre, marked CRITICAL or
not, and a free line grants it with its batch; a waiting claim is re-marked. Not needed, a claim is withdrawn or a
backoff cancelled, and the run ends. A call in progress goes on. The batch order is by severity, then by number, in
ROTATING mode from the number after the rotation point. A claim on a line that the report unit itself owns is answered
DUPLICATE (R114). -/
def Obligations.AlarmAndReportSetupsAreWritten : Prop :=
  (∀ (i threshold window : Nat) (sev : Severity) (masked : Bool) (e : Effect) (mode : SensorMode) (pm : PriorityMode)
      (number : Digits) (s : State), Running s → SlotFree .line s →
    let weighed := fun (u : State) => Host.Outcome.next (ρ := Refusal) (φ := Fault) (answeredWith .line .ok [] (weigh u))
    let outOfRange := Host.Outcome.next (ρ := Refusal) (φ := Fault) (answeredWith .line .refusedRange [] s)
    let u := { frameTaken .line s with cfg := { s.cfg with sources := s.cfg.sources.set i ⟨sev, masked, e⟩ } }
    (15 < i → exec (.writeAlarmSetupSource .line i (some sev) (some masked) (some e)) s = outOfRange)
    ∧ exec (.writeAlarmSetupSource .line i none (some masked) (some e)) s = outOfRange
    ∧ exec (.writeAlarmSetupSource .line i (some sev) none (some e)) s = outOfRange
    ∧ exec (.writeAlarmSetupSource .line i (some sev) (some masked) none) s = outOfRange
    ∧ (i ≤ 15 → derivedService u = s.alarm.service →
        exec (.writeAlarmSetupSource .line i (some sev) (some masked) (some e)) s = weighed u)
    ∧ (i ≤ 15 → derivedService u ≠ s.alarm.service →
        exec (.writeAlarmSetupSource .line i (some sev) (some masked) (some e)) s = weighed (postNotice .serviceState
          (byte1 (serviceByte (derivedService u)) ++ optionBytes byte1 (decidingSource u))
          { u with freeCount := s.freeCount + 1, alarm := { s.alarm with service := derivedService u } }))
    ∧ (7 < i ∨ threshold < 1 ∨ 15 < threshold ∨ window < 10 ∨ 2550 < window ∨ window % 10 ≠ 0 →
        exec (.writeAlarmSetupSensor .line i (some mode) threshold window) s = outOfRange)
    ∧ exec (.writeAlarmSetupSensor .line i none threshold window) s = outOfRange
    ∧ (i ≤ 7 → 1 ≤ threshold → threshold ≤ 15 → 10 ≤ window → window ≤ 2550 → window % 10 = 0 →
        exec (.writeAlarmSetupSensor .line i (some mode) threshold window) s = .next (answeredWith .line .ok [] { s with
          cfg := { s.cfg with sensors := s.cfg.sensors.set i ⟨mode, threshold, window / 10⟩ }
          alarm := { s.alarm with
            sensors := s.alarm.sensors.set i { sensorState s.alarm i with hits := [], raisedLevel := none } } }))
    ∧ exec (.writeSettingReportThreshold .line none) s = outOfRange
    ∧ exec (.writeSettingReportThreshold .line (some sev)) s =
        weighed { frameTaken .line s with cfg := { s.cfg with threshold := sev } }
    ∧ exec (.writeSettingPriorityMode .line none) s = outOfRange
    ∧ exec (.writeSettingPriorityMode .line (some pm)) s =
        weighed { frameTaken .line s with cfg := { s.cfg with priority := pm } }
    ∧ (16 < number.length ∨ ¬ (∀ d ∈ number, d ≤ 11) →
        exec (.writeSettingPrimaryCentre .line number) s = outOfRange
        ∧ exec (.writeSettingFallbackCentre .line number) s = outOfRange)
    ∧ (number.length ≤ 16 → (∀ d ∈ number, d ≤ 11) →
        exec (.writeSettingPrimaryCentre .line number) s =
          weighed { frameTaken .line s with cfg := { s.cfg with primary := number } }
        ∧ exec (.writeSettingFallbackCentre .line number) s =
          weighed { frameTaken .line s with cfg := { s.cfg with fallback := number } }))
  ∧ (∀ u : State, Running u →
       let effective := fun (x : Effect) => ∃ i ∈ List.range 16, (alarmEntry u.alarm i).state ≠ .quiet
         ∧ (sourceSetup u.cfg i).masked = false ∧ (sourceSetup u.cfg i).effect = x
       let waiting := fun (i : Nat) => (alarmEntry u.alarm i).state = .raised ∧ (sourceSetup u.cfg i).masked = false
       let severity := fun (i : Nat) => severityByte (sourceSetup u.cfg i).severity
       let urgent := (List.range 16).filter (fun i => waiting i ∧ severityByte u.cfg.threshold ≤ severity i)
       let told := if urgent = [] then u
         else if u.store.identity.lock ≠ .locked then
           (if u.report.identityUnsetPosted = true then u else postNotice .identityUnset (byte1 urgent.length)
             { u with report := { u.report with identityUnsetPosted := true } })
         else if u.cfg.primary = [] then
           (if u.report.centreUnsetPosted = true then u else postNotice .centreUnset (byte1 urgent.length)
             { u with report := { u.report with centreUnsetPosted := true } })
         else u
       let ended := { told with report := { told.report with
         state := .standby, backoffUntil := none, failures := 0, run := 0, centre := .primary } }
       let rank := fun (i : Nat) => match u.cfg.priority, u.report.rotation with
         | .rotating, some p => if p < i then i else i + 16
         | _, _ => i
       (derivedService u = if effective .emergencyOnly then .emergencyOnly else if effective .coinFree then .coinFree
         else .inService)
       ∧ (∀ i, decidingSource u = some i → i ≤ 15 ∧ (alarmEntry u.alarm i).state ≠ .quiet
           ∧ (sourceSetup u.cfg i).masked = false ∧ (derivedService u = .emergencyOnly → (sourceSetup u.cfg i).effect = .emergencyOnly)
           ∧ (derivedService u = .coinFree → (sourceSetup u.cfg i).effect = .coinFree))
       ∧ (reportNeeded u = true ↔ u.store.identity.lock = .locked ∧ u.cfg.primary ≠ [] ∧ urgent ≠ [])
       ∧ (claimCritical u = true ↔ ∃ i ∈ List.range 16, waiting i ∧ severity i = 3)
       ∧ (∀ i, i ∈ batchOrder u ↔ i < 16 ∧ waiting i)
       ∧ (batchOrder u).Pairwise (fun i j => severity j < severity i ∨ (severity i = severity j ∧ rank i < rank j))
       ∧ (reportNeeded u = true →
           (u.report.state = .standby →
             (u.line.owner = .customer ∨ u.line.owner = .centre → weigh u = { u with
               report := { u.report with state := .claimed }
               line := { u.line with waitingReport := some (claimCritical u) } })
             ∧ (u.line.owner = .report → weigh u = { u with report := { u.report with state := .claimed } })
             ∧ (u.line.owner = .nobody → u.line.slot = none → ReportGranted u (weigh u)))
           ∧ (u.report.state = .claimed → weigh u =
               { u with line := { u.line with waitingReport := u.line.waitingReport.map (fun _ => claimCritical u) } })
           ∧ (u.report.state = .backoff → weigh u = u))
       ∧ (reportNeeded u = false →
           (u.report.state = .standby → weigh u = told)
           ∧ (u.report.state = .claimed → weigh u = { ended with
               report := { ended.report with backoffUntil := told.report.backoffUntil }
               line := { told.line with waitingReport := none } })
           ∧ (u.report.state = .backoff → weigh u = ended))
       ∧ (u.report.state = .inCall → weigh u = told))

/-! ### Alarms and reports -/

/-- Tier 2. An edge of a tamper sensor (R130 to R133): an edge that does not qualify only changes the level held; one
that does enters the hit history, whose oldest of fifteen gives way; with threshold-many hits no further apart than the
window the source is raised, the history emptied and, in BOTH mode, the level left by the edge becomes the active one.
While the collection window is open no edge of the box door qualifies. An edge to the level already held changes nothing
(log 3). -/
def Obligations.SensorEdgesCountHits : Prop :=
  ∀ (i : Nat) (high : Bool) (s : State), awake s = true → i ≤ 7 →
    let v := sensorState s.alarm i
    let x := sensorSetup s.cfg i
    let hits := (if 15 ≤ v.hits.length then v.hits.tail else v.hits) ++ [s.now]
    let withSensor := fun (w : Sensor) => { s with alarm := { s.alarm with sensors := s.alarm.sensors.set i w } }
    let qualifies := ¬ (i = 0 ∧ s.coin.windowUntil ≠ none)
      ∧ (x.mode = .both ∨ (x.mode = .rising ∧ high = true) ∨ (x.mode = .falling ∧ high = false))
    (v.level = high → exec (.sensorEdge i high) s = .next s)
    ∧ (v.level ≠ high → ¬ qualifies → exec (.sensorEdge i high) s = .next (withSensor { v with level := high }))
    ∧ (v.level ≠ high → qualifies →
        (hits.length < x.threshold ∨ hits.getD (hits.length - x.threshold) 0 + x.window * 10 < s.now →
          exec (.sensorEdge i high) s = .next (withSensor { v with level := high, hits := hits }))
        ∧ (x.threshold ≤ hits.length → s.now ≤ hits.getD (hits.length - x.threshold) 0 + x.window * 10 →
            exec (.sensorEdge i high) s = .next (raise i .sensor (withSensor
              { level := high, hits := [], raisedLevel := if x.mode = .both then some high else v.raisedLevel }))))

/-- Tier 2. CLEAR_ALARM, ACK_ALARMS and the end of a backoff (R139, R142 to R145, R152, R163, R164). A clear is held
back while the source is REPORTING, its sensor stands at its active level or the box is full; a QUIET source stays; a
RAISED or REPORTED one becomes QUIET, all its fields at their first values, its sensor's history empty, and the answer
gives its count (behind CLEARED: log 34). A clear posts the CLEARED record, with the count it ends and the port or
AUTOMATIC as origin, then ALARM_CLEARED, and derives the service state; a record that the store refuses is lost and
raises STORE, except by STORE itself, ahead of the clear's notice (log 8). An automatic clear leaves a QUIET source and
is held pending by a REPORTING one. ACK_ALARMS takes a RAISED source to REPORTED and posts the reported mark of its
latest record; it skips any other. A backoff ends in STANDBY, with a claim made where a report is needed. The clauses on
a clear and on an acknowledged source are for a store with no work waiting for a place, which would go ahead
(log 14). BACKOFF_EXPIRY outside BACKOFF changes nothing (log 3). ACK_ALARMS is stated for a list of one source. -/
def Obligations.AlarmsAreClearedAndAcknowledged : Prop :=
  ∀ (i : Nat) (p : Port) (sources : List Nat) (s : State), Running s → s.alarm.entries.length = 16 →
    let e := alarmEntry s.alarm i
    let heldBack := (i ≤ 7 ∧ atActiveLevel s i = true) ∨ (i = srcBoxFull ∧ s.cfg.capacity ≤ s.coin.tally.coins)
    (SlotFree p s → p ≠ .set →
      (15 < i → exec (.clearAlarm p i) s = .next (answeredWith p .refusedRange [] s))
      ∧ (i ≤ 15 →
          (e.state = .reporting ∨ heldBack → exec (.clearAlarm p i) s = .next (answeredWith p .refusedState [] s))
          ∧ (e.state = .quiet → ¬ heldBack → exec (.clearAlarm p i) s = .next (answeredWith p .ok (byte1 0) s))
          ∧ (e.state = .raised ∨ e.state = .reported → ¬ heldBack → nextWork s.store = none →
              ∃ t, exec (.clearAlarm p i) s = .next t
                ∧ SourceCleared i (if p = .line then .linePort else .servicePort) s t
                ∧ (portOf t.ports p).slot = .ready .ok (byte1 1 ++ byte1 e.count))))
    ∧ (i ≤ 15 → (e.state = .raised ∨ e.state = .reported → nextWork s.store = none → SourceCleared i .automatic s (autoClear i s))
        ∧ (e.state = .quiet → autoClear i s = s)
        ∧ (e.state = .reporting → autoClear i s = { s with alarm := { s.alarm with
            entries := s.alarm.entries.set i { e with clearPending := true } } }))
    ∧ (SlotFree .line s →
        (sources = [] ∨ 16 < sources.length ∨ ¬ (∀ j ∈ sources, j ≤ 15) →
          exec (.ackAlarms .line sources) s = .next (answeredWith .line .refusedRange [] s))
        ∧ (i ≤ 15 → e.state ≠ .raised → ∃ t, exec (.ackAlarms .line [i]) s = .next t
            ∧ SameOutsideAlarm s t ∧ t.store = s.store ∧ alarmEntry t.alarm i = e
            ∧ (portOf t.ports .line).slot = .ready .ok [])
        ∧ (i ≤ 15 → e.state = .raised → nextWork s.store = none → queueHasRoom s.store = true → ∀ x, e.latest = some x →
            ∃ t, exec (.ackAlarms .line [i]) s = .next t ∧ SameOutsideAlarm s t
              ∧ alarmEntry t.alarm i = { e with state := .reported, reRaised := false }
              ∧ t.store = { s.store with queue := s.store.queue ++ [.mark x .reported] }
              ∧ (portOf t.ports .line).slot = .ready .ok (byte1 i)))
    ∧ (s.report.state ≠ .backoff → exec .backoffExpiry s = .next s)
    ∧ (s.report.state = .backoff → ∃ t, exec .backoffExpiry s = .next t
        ∧ SameOutsideAlarm s t ∧ t.store = s.store ∧ t.report.backoffUntil = none
        ∧ (reportNeeded s = false → t.report = { s.report with
            state := .standby, backoffUntil := none, identityUnsetPosted := t.report.identityUnsetPosted
            centreUnsetPosted := t.report.centreUnsetPosted })
        ∧ (reportNeeded s = true → s.line.owner = .customer →
            t.report.state = .claimed ∧ t.line = { s.line with waitingReport := some (claimCritical s) }))

/-! ### The record store -/

/-- Tier 2. READ_RECORDS and ACK_RECORDS (R170, R176, R177): a read of an array that is free, or whose erase can be
suspended, is answered at once, and the erase goes on with its slice; else the slot is NOT_READY until the array is
free. Past the last record present the response tells the ring's figures and, behind them (log 34), a count of no
record. ACK_RECORDS queues the acknowledged mark of the newest record acknowledged and moves the upload mark past it.
The clauses on ACK_RECORDS that reach the queue are for a store with no work waiting for a place, which would go ahead
(log 14); the operation in flight counts among the eight places (log 12). That a read with an erase to suspend is
answered at once is log 19; READ_RECORDS_READY with no read waiting, or the array not free, changes nothing (log 3). -/
def Obligations.RecordsAreReadAndAcknowledged : Prop :=
  ∀ (r : Ring) (offset count : Nat) (s : State), Running s →
    let resumed := { s.store with
      read := none
      erase := s.store.erase.map (fun j => if j.phase = .running ∨ j.phase = .suspended then { j with phase := .slice } else j) }
    let present := ringPresent r s.store
    (SlotFree .line s →
      (3071 < offset ∨ count < 1 ∨ 4 < count →
        exec (.readRecords .line (some r) offset count) s = .next (answeredWith .line .refusedRange [] s))
      ∧ (offset ≤ 3071 → 1 ≤ count → count ≤ 4 →
          (readable s.store = true → exec (.readRecords .line (some r) offset count) s =
            .next (answeredWith .line .ok (recordsFields r offset count s.store) { s with store := resumed }))
          ∧ (readable s.store = false → exec (.readRecords .line (some r) offset count) s = .next { s with
              store := { s.store with read := some ⟨r, offset, count⟩ }
              ports := setPort .line { portOf s.ports .line with slot := .notReady, fetch := none, sent := .ofRequest } s.ports }))
      ∧ (count < 1 ∨ 3072 < count ∨ present.length < count →
          exec (.ackRecords .line (some r) count) s = .next (answeredWith .line .refusedRange [] s))
      ∧ (nextWork s.store = none → 1 ≤ count → count ≤ 3072 → ∀ x, present[count - 1]? = some x →
          (queueHasRoom s.store = false →
            exec (.ackRecords .line (some r) count) s = .next (answeredWith .line .refusedBusy [] s))
          ∧ (queueHasRoom s.store = true →
              let st := setRing r { ringOf s.store r with upload := x.1 + 1 }
                { s.store with queue := s.store.queue ++ [.mark x.2.1 .acknowledged] }
              exec (.ackRecords .line (some r) count) s =
                .next (answeredWith .line .ok (byte2 (ringPresent r st).length) { s with store := st }))))
    ∧ (present.length ≤ offset → recordsFields r offset count s.store =
        byte2 present.length ++ flagByte (ringOf s.store r).full ++ byte2 (ringOf s.store r).torn ++ byte1 0)
    ∧ (s.store.read = none → exec .readRecordsReady s = .next s)
    ∧ (readable s.store = false → exec .readRecordsReady s = .next s)
    ∧ (∀ w, s.store.read = some w → readable s.store = true → exec .readRecordsReady s = .next { s with
        store := resumed
        ports := setPort .line { portOf s.ports .line with
          slot := .ready .ok (recordsFields w.ring w.offset w.count s.store) } s.ports })

/-- Tier 2. The store takes its next operation (R168 to R171, R181, R188): while a program is in flight or a read waits
it takes none; with nothing in flight it takes the reserved place first, else the oldest queued operation; an erase
makes its sector's header unreadable as it begins (sector 0 keeps its places until it ends: log 11; the model notes
which alarm records go: log 18), a COMMIT its image copy with the sector's header, the first where both are invalid (log
10); a running erase is suspended by a program of another sector at the head, but not in its slice, while it is
suspended already or while a COMMIT programs. In WARN erases and COMMITs are passed over, and keep their places, for the
oldest program behind them, unless an erase of its sector stands ahead of it or is stopped in flight. The slice after a
resume ends by the erase running on. An event that finds nothing to do changes nothing (log 3). -/
def Obligations.StoreTakesOperations : Prop :=
  ∀ s : State, awake s = true →
    (s.store.program ≠ none ∨ s.store.read ≠ none → exec .storeOperationStart s = .next s)
    ∧ (s.store.program = none → s.store.read = none →
        (s.store.erase = none →
          (∀ op, s.store.reserved = some op → (programSector op).isSome = true → exec .storeOperationStart s = .next { s with
            store := { s.store with reserved := none, program := some { op := op, reserved := true } } })
          ∧ (s.store.reserved = none → s.store.queue = [] → exec .storeOperationStart s = .next s)
          ∧ (s.store.reserved = none → ∀ op rest, s.store.queue = op :: rest →
              ((programSector op).isSome = true → exec .storeOperationStart s = .next { s with
                store := { s.store with queue := rest, program := some { op := op, reserved := false } } })
              ∧ (s.supply.state = .normal → ∀ sector seq, op = .erase sector seq →
                  exec .storeOperationStart s = .next { s with store := { s.store with
                    queue := rest
                    erase := some { sector := sector, seq := seq, commit := false, phase := .running }
                    array := { s.store.array with
                      headers := dropHeader sector s.store.array.headers
                      cells := if sector = 0 then s.store.array.cells else eraseCells sector s.store.array.cells
                      erasedRaised := noteErased sector s.store.array } } })
              ∧ (s.supply.state = .normal → op = .commit → exec .storeOperationStart s = .next { s with store := { s.store with
                  queue := rest
                  erase := some { sector := commitSector s.store.array, seq := 0, commit := true, phase := .running }
                  array := if commitSector s.store.array = 1
                    then { s.store.array with headers := dropHeader 1 s.store.array.headers, image1 := none }
                    else { s.store.array with headers := dropHeader 2 s.store.array.headers, image2 := none } } })))
        ∧ (∀ j, s.store.erase = some j → j.phase = .running → s.supply.state = .normal →
            (∀ op, s.store.reserved = some op → (∃ k, programSector op = some k ∧ k ≠ j.sector) →
              exec .storeOperationStart s = .next { s with store := { s.store with
                reserved := none, erase := some { j with phase := .suspended }
                program := some { op := op, reserved := true } } })
            ∧ (s.store.reserved = none → ∀ op rest, s.store.queue = op :: rest →
                ((∃ k, programSector op = some k ∧ k ≠ j.sector) →
                  exec .storeOperationStart s = .next { s with store := { s.store with
                    queue := rest, erase := some { j with phase := .suspended }
                    program := some { op := op, reserved := false } } })
                ∧ (programSector op = none ∨ programSector op = some j.sector → exec .storeOperationStart s = .next s)))
        ∧ (∀ j, s.store.erase = some j → j.phase ≠ .running → j.phase ≠ .stopped → exec .storeOperationStart s = .next s)
        ∧ (s.supply.state = .warn → (∀ j, s.store.erase = some j → j.phase = .stopped) →
            (∀ op, s.store.reserved = some op → (programSector op).isSome = true →
              exec .storeOperationStart s = .next { s with store := { s.store with
                reserved := none, program := some { op := op, reserved := true } } })
            ∧ (s.store.reserved = none → (∀ op ∈ s.store.queue, programSector op = none) →
                exec .storeOperationStart s = .next s)
            ∧ (s.store.reserved = none → ∀ ahead op behind, s.store.queue = ahead ++ op :: behind →
                (∀ x ∈ ahead, programSector x = none) → ∀ k, programSector op = some k →
                let barred := (∃ x ∈ ahead, isEraseOf k x = true)
                  ∨ (∃ j, s.store.erase = some j ∧ j.sector = k ∧ j.commit = false)
                (barred → exec .storeOperationStart s = .next s)
                ∧ (¬ barred → exec .storeOperationStart s = .next { s with store := { s.store with
                    queue := ahead ++ behind, program := some { op := op, reserved := false } } }))))
    ∧ (s.store.erase = none → exec .eraseSliceEnd s = .next s)
    ∧ (∀ j, s.store.erase = some j →
        (j.phase = .slice → exec .eraseSliceEnd s =
          .next { s with store := { s.store with erase := some { j with phase := .running } } })
        ∧ (j.phase ≠ .slice → exec .eraseSliceEnd s = .next s))

/-- Tier 2. Operations of the array end (R166, R169, R171, R178, R180 to R183): a record program leaves its record in
its place, without marks, and every other place as it was, but a place already programmed stays as it is; a mark program
adds its mark to a programmed place, a reported mark only where the sector still bears the sequence number named, and
the lock mark leaves the identity LOCKED, with IDENTITY_LOCKED posted in its two records (R209) and the need of a report
weighed behind it (R152); an erase leaves its sector blank under its header with the new sequence
number, sector 0 without one; a COMMIT's erase programs its sector's header too and goes on to program the configuration
as it then stands, and ends with its copy valid, numbered one above the other copy, without a wrap (log 10). An
operation's end with none in flight changes nothing (log 3); the number of a commit with no other valid copy (log 10) is
left out here. -/
def Obligations.ArrayOperationsEnd : Prop :=
  ∀ s : State, awake s = true →
    (s.store.program = none → exec .programDone s = .next s ∧ exec .markProgramDone s = .next s)
    ∧ (∀ x, s.store.program = some x →
        (∀ place r, x.op = .record place r → ∃ t, exec .programDone s = .next t
          ∧ t.store.program = none ∧ t = { s with store := t.store }
          ∧ t.store.array = { s.store.array with cells := t.store.array.cells }
          ∧ (∀ c, readCell (placeKey place.sector place.number) s.store.array.cells = some c → t.store.array = s.store.array)
          ∧ (readCell (placeKey place.sector place.number) s.store.array.cells = none →
              readCell (placeKey place.sector place.number) t.store.array.cells = some { record := some r, marks := [] })
          ∧ ∀ key, key ≠ placeKey place.sector place.number →
              readCell key t.store.array.cells = readCell key s.store.array.cells)
        ∧ (∀ place kind, x.op = .mark place kind → ∃ t, exec .markProgramDone s = .next t
            ∧ t.store.program = none ∧ t.cfg = s.cfg ∧ t.coin = s.coin ∧ t.account = s.account ∧ t.call = s.call
            ∧ (kind ≠ .lock → t = { s with store := t.store } ∧ t.store.identity = s.store.identity)
            ∧ (kind = .lock →
                let identity := { s.store.identity with lock := .locked }
                let told := offerAll .identityLocked [packTerminal identity.terminal, byte2 identity.site] s
                t.store.identity = identity
                ∧ (∃ st : Store, st.identity = identity ∧ t = { weigh { told with store := st } with store := t.store })
                ∧ ∀ p, (portOf told.ports p).queue <+: (portOf t.ports p).queue)
            ∧ t.store.array = { s.store.array with cells := t.store.array.cells }
            ∧ (kind = .reported → headerSeq place.sector s.store.array.headers ≠ some place.seq →
                t.store.array = s.store.array)
            ∧ (kind ≠ .reported ∨ headerSeq place.sector s.store.array.headers = some place.seq →
                ∀ c, readCell (placeKey place.sector place.number) s.store.array.cells = some c →
                  readCell (placeKey place.sector place.number) t.store.array.cells =
                    some { c with marks := if kind ∈ c.marks then c.marks else c.marks ++ [kind] })
            ∧ ∀ key, key ≠ placeKey place.sector place.number →
                readCell key t.store.array.cells = readCell key s.store.array.cells))
    ∧ (s.store.erase = none → exec .eraseDone s = .next s ∧ exec .commitDone s = .next s)
    ∧ (∀ j, s.store.erase = some j →
        (j.phase = .suspended ∨ j.phase = .stopped → exec .eraseDone s = .next s ∧ exec .commitDone s = .next s)
        ∧ (j.phase = .running → j.commit = true → exec .eraseDone s =
            .next { s with store := { s.store with
              erase := some { j with phase := .programming s.cfg }
              array := { s.store.array with
                headers := if j.sector = 0 then s.store.array.headers
                  else writeHeader j.sector j.seq s.store.array.headers } } })
        ∧ (j.phase = .running → j.commit = false → ∃ t, exec .eraseDone s = .next t
            ∧ t.store.erase = none ∧ t = { s with store := t.store }
            ∧ t.store.array = { s.store.array with
                cells := eraseCells j.sector s.store.array.cells
                headers := if j.sector = 0 then s.store.array.headers else writeHeader j.sector j.seq s.store.array.headers })
        ∧ (∀ cfg, j.phase = .programming cfg → j.commit = true → ∃ t, exec .commitDone s = .next t
            ∧ t.store.erase = none ∧ t.cfg = s.cfg
            ∧ t = { s with freeCount := t.freeCount, store := t.store, ports := t.ports }
            ∧ t.store.array = { s.store.array with image1 := t.store.array.image1, image2 := t.store.array.image2 }
            ∧ (j.sector = 1 → t.store.array.image2 = s.store.array.image2
                ∧ (t.store.array.image1.map (·.cfg)) = some cfg
                ∧ ∀ other, s.store.array.image2 = some other →
                    t.store.array.image1 = some { seq := other.seq + 1, cfg := cfg })
            ∧ (j.sector = 2 → t.store.array.image1 = s.store.array.image1
                ∧ (t.store.array.image2.map (·.cfg)) = some cfg
                ∧ ∀ other, s.store.array.image1 = some other →
                    t.store.array.image2 = some { seq := other.seq + 1, cfg := cfg })))

/-- Part of OwedWorkIsQueued: the posting of a ring record (R168, R171 to R173). It is refused exactly where the ring is
FULL, the queue has no free place, or the OPEN sector is used up and the following one can be neither opened under the
next number nor is being erased (log 32); else the record takes the OPEN sector's next place, or place 0 of the following
sector, which is then the OPEN one under the next number, and is queued as the newest. The ring becomes FULL exactly where
that was the sector's last place and the sector after it, for which no erase is queued or in flight, holds a record not
acknowledged; RING_STATE FULL is then posted. -/
def Sys2Proof.Machine.PlacesAreAssigned : Prop :=
  ∀ (r : Ring) (record : Record) (s : State),
    let st := s.store
    let g := ringOf st r
    let following := fun (k : Nat) => ringFirst r + (k - ringFirst r + 1) % ringSectors r
    let ready := fun (k seq : Nat) => (∃ q, .erase k q ∈ st.queue)
      ∨ (∃ j, st.erase = some j ∧ j.sector = k ∧ j.commit = false)
      ∨ (headerSeq k st.array.headers = some seq ∧ sectorCells k st.array.cells = [])
    let unacknowledged := fun (k : Nat) => ∃ x ∈ ringSectorCells r st.array k, g.upload ≤ x.1
    (postRing r record st = none ↔
      g.full = true ∨ 8 ≤ queueUsed st ∨ (ringPlaces r ≤ g.used ∧ ¬ ready (following g.sector) (g.seq + 1)))
    ∧ (∀ x, postRing r record st = some x →
        let h : RingState := if g.used < ringPlaces r then g
          else { g with sector := following g.sector, seq := g.seq + 1, used := 0 }
        let place : Place := ⟨h.sector, h.used, h.seq⟩
        x.2 = place
        ∧ ringOf x.1 r = { h with used := h.used + 1, full := (ringOf x.1 r).full }
        ∧ ((ringOf x.1 r).full = true ↔ h.used + 1 = ringPlaces r ∧ ¬ ready (following h.sector) (h.seq + 1)
            ∧ unacknowledged (following h.sector))
        ∧ x.1 = setRing r (ringOf x.1 r) { st with queue := st.queue ++ [.record place record] }
        ∧ postRecord r record s = some
            (if (ringOf x.1 r).full = true then postNotice .ringState (byte1 (ringByte r) ++ byte1 0) { s with store := x.1 }
             else { s with store := x.1 }, place))
    ∧ (postRing r record st = none → postRecord r record s = none)

/-- Tier 2. Work the store owes (R168, R172, R173, R175, R181, R185), and the places of ring records (PlacesAreAssigned:
R171 to R173). A ring is owed the erase of the sector after the
OPEN one while that sector can be neither opened nor is being erased, a blank one of an earlier lap among them (log 32);
once every record of it has been acknowledged and a place is free, the erase is queued, with the next sequence number; a
FULL ring then leaves FULL with RING_STATE OPEN posted, and where the other ring is not FULL either and the totals are
zero, STORE is cleared, or, while it is REPORTING, marked for the clear. An erase owed to the save area follows where a
place is left. The OVERFLOW record, once the call ring takes it, is posted with the totals, which return to zero.
A free place goes to the first that waits, in the order of R168: an event with nothing owed, or with earlier work
waiting for the place, changes nothing (log 3). COMMIT_CONFIG joins a COMMIT that waits, or takes a place, or is answered
REFUSED_BUSY. A place is free while fewer than eight are taken, where the model counts the operation in flight among the
eight (log 12); the clauses on COMMIT_CONFIG are for a store with no work waiting for a place (log 14). -/
def Obligations.OwedWorkIsQueued : Prop :=
  PlacesAreAssigned
  ∧ ∀ (r : Ring) (s : State), awake s = true →
    let g := ringOf s.store r
    let next := nextSector r g.sector
    let erase : StoreOp := .erase next (g.seq + 1)
    let queued := { s.store with queue := s.store.queue ++ [erase] }
    let left := postNotice .ringState (byte1 (ringByte r) ++ byte1 1) { s with store := setRing r { g with full := false } queued }
    let cleared := (∀ q, q ≠ r → (ringOf s.store q).full = false) ∧ s.store.totals = {}
    let store := (alarmEntry s.alarm srcStore).state
    let first := s.store.waitingMarks = [] ∧ (r = .alarm → eraseEligible .call s.store = false)
    let last := s.store.waitingMarks = [] ∧ (∀ q, eraseEligible q s.store = false) ∧ s.store.saveOwed = false
    (eraseEligible r s.store = true ↔
      ¬ (eraseQueued s.store next = true ∨ erasing s.store next = true
          ∨ (headerSeq next s.store.array.headers = some (g.seq + 1) ∧ sectorCells next s.store.array.cells = []))
        ∧ (∀ x ∈ ringSectorCells r s.store.array next, x.1 < g.upload) ∧ queueUsed s.store < 8)
    ∧ (eraseEligible r s.store = false ∨ ¬ first → exec (.owedEraseQueued r) s = .next s)
    ∧ (eraseEligible r s.store = true → first →
        (g.full = false →
          (s.store.saveOwed = false → exec (.owedEraseQueued r) s = .next { s with store := queued })
          ∧ (s.store.saveOwed = true → queueUsed s.store ≤ 6 → (∀ q, q ≠ r → eraseEligible q s.store = false) →
              exec (.owedEraseQueued r) s = .next { s with
                store := { queued with saveOwed := false, queue := queued.queue ++ [.erase 3 0] } }))
        ∧ (g.full = true → s.store.saveOwed = false →
            (¬ cleared ∨ store = .quiet → exec (.owedEraseQueued r) s = .next left)
            ∧ (cleared → store = .reporting → exec (.owedEraseQueued r) s = .next { left with alarm := { s.alarm with
                entries := s.alarm.entries.set srcStore { alarmEntry s.alarm srcStore with clearPending := true } } })
            ∧ (cleared → store = .raised ∨ store = .reported → ∃ t, exec (.owedEraseQueued r) s = .next t
                ∧ t = autoClear srcStore left ∧ SameOutsideAlarm s t ∧ (ringOf t.store r).full = false
                ∧ alarmEntry t.alarm srcStore = {}
                ∧ t.store.queue.take (s.store.queue.length + 1) = s.store.queue ++ [erase])))
    ∧ (s.store.totals.calls = 0 ∨ s.store.callRing.full = true ∨ ¬ last → exec .overflowRecord s = .next s)
    ∧ (0 < s.store.totals.calls → s.store.callRing.full = false → last →
        (postRing .call (.overflow s.store.totals (timeOfDay s)) s.store = none → exec .overflowRecord s = .next s)
        ∧ (∀ x, postRing .call (.overflow s.store.totals (timeOfDay s)) s.store = some x →
            ∃ t, exec .overflowRecord s = .next t ∧ SameOutsideAlarm s t ∧ t.store.totals = {}
              ∧ t.store.queue.take (s.store.queue.length + 1) =
                  s.store.queue ++ [.record x.2 (.overflow s.store.totals (timeOfDay s))]))
    ∧ (Running s → SlotFree .line s → nextWork s.store = none →
        (s.store.queue.any isCommit = true →
          exec (.commitConfig .line) s = .next (answeredWith .line .accepted [] s))
        ∧ (s.store.queue.any isCommit = false → queueHasRoom s.store = true →
            exec (.commitConfig .line) s = .next (answeredWith .line .accepted []
              { s with store := { s.store with queue := s.store.queue ++ [.commit] } }))
        ∧ (s.store.queue.any isCommit = false → queueHasRoom s.store = false →
            exec (.commitConfig .line) s = .next (answeredWith .line .refusedBusy [] s)))

/-- Tier 2. The identity (R182, R183): WRITE_IDENTITY queues a record for the next blank place of sector 0, or, with the
sector used up, its erase and a record for place 0; LOCK_IDENTITY of a written identity queues the lock mark and leaves
it LOCKING; an identity that is LOCKING or LOCKED takes neither; a field out of range is answered ahead of that (log 37).
The clauses that reach the queue are for a store with
no work waiting for a place (log 14); the operation in flight counts among the eight places (log 12). A used-up sector 0
with fewer than two free places is left out here. -/
def Obligations.IdentityIsWrittenAndLocked : Prop :=
  ∀ (p : Port) (terminal : Digits) (site : Nat) (s : State), Running s → SlotFree p s →
    let valid := terminal.length ≤ 16 ∧ (∀ d ∈ terminal, d ≤ 9) ∧ site ≤ 65535
    let used := queueUsed s.store
    (p ≠ .set →
      (¬ valid → exec (.writeIdentity p terminal site) s = .next (answeredWith p .refusedRange [] s))
      ∧ (valid → s.store.identity.lock ≠ .unlocked →
          exec (.writeIdentity p terminal site) s = .next (answeredWith p .refusedState [] s))
      ∧ (valid → s.store.identity.lock = .unlocked → nextWork s.store = none →
          (s.store.identity.next < 64 →
            (8 ≤ used → exec (.writeIdentity p terminal site) s = .next (answeredWith p .refusedBusy [] s))
            ∧ (used < 8 → exec (.writeIdentity p terminal site) s = .next (answeredWith p .ok [] { s with store := { s.store with
                queue := s.store.queue ++ [.record ⟨0, s.store.identity.next, 0⟩ (.identity terminal site)]
                identity := { terminal := terminal, site := site, lock := .unlocked
                              newest := some s.store.identity.next, next := s.store.identity.next + 1 } } })))
          ∧ (64 ≤ s.store.identity.next → used < 7 → exec (.writeIdentity p terminal site) s =
              .next (answeredWith p .ok [] { s with store := { s.store with
                queue := s.store.queue ++ [.erase 0 0, .record ⟨0, 0, 0⟩ (.identity terminal site)]
                identity := { terminal := terminal, site := site, lock := .unlocked, newest := some 0, next := 1 } } }))))
    ∧ (p = .line →
        (s.store.identity.lock ≠ .unlocked ∨ s.store.identity.terminal = [] →
          exec (.lockIdentity p) s = .next (answeredWith p .refusedState [] s))
        ∧ (s.store.identity.lock = .unlocked → s.store.identity.terminal ≠ [] → nextWork s.store = none →
            (8 ≤ used → exec (.lockIdentity p) s = .next (answeredWith p .refusedBusy [] s))
            ∧ (used < 8 → ∀ k, s.store.identity.newest = some k → exec (.lockIdentity p) s =
                .next (answeredWith p .accepted [] { s with store := { s.store with
                  queue := s.store.queue ++ [.mark ⟨0, k, 0⟩ .lock]
                  identity := { s.store.identity with lock := .locking } } }))))

/-! ### Supply, restart and recovery -/

/-- Tier 2. The supply crosses WARN (R186, R188 to R190). Falling: SUPPLY_STATE is posted, an erase in flight is
stopped, a COMMIT abandoned, work of the store that waits takes the places that are free (log 14), an OVERFLOW record
owed among it with the totals (R175), and the account, the escrow list, the tally, the totals and the call's state go
into a save record that takes the reserved place and the save area's next place; while the reserved place is taken, or a
superseded mark waits for its program's end, the record waits. Rising: the stopped erase starts again at once (log 39),
and the save record is withdrawn where it waits or its program has not begun, superseded once it ends where it has,
superseded at once where it is written. A withdrawal that leaves 48 places used or more, every save record marked (log
38), makes the save area's erase owed (R185), which is queued where it is the first work that can have a place. A
crossing into the state that already stands changes nothing (log 3). So it is while recovery runs, but that no save record
is made then: next place, reserved place and the record that waits stay as they are. -/
def Obligations.SupplyCrossingsSaveTheAccount : Prop :=
  ∀ s : State, awake s = true →
    let recovers := s.supply.recovery ≠ none
    let stopped := { s.store with erase := s.store.erase.map (fun j => { j with phase := .stopped }) }
    let halted := { s.store with
      erase := s.store.erase.bind (fun j => if j.commit then none else some { j with phase := .stopped }) }
    let restarted := s.store.erase.map (fun j => if j.phase = .stopped then { j with phase := .running } else j)
    let place : Place := ⟨3, s.store.saveNext, (headerSeq 3 s.store.array.headers).getD 0⟩
    let record : SaveRecord :=
      { time := timeOfDay s, ringPosition := nextPosition .call s.store, account := s.account, escrow := s.coin.escrow
        callState := s.call.state, cls := s.call.acceptance.map (·.cls), tally := s.coin.tally, totals := s.store.totals }
    let rises := fun (st : Store) => Host.Outcome.next (ρ := Refusal) (φ := Fault) (postNotice .supplyState (byte1 0)
      { s with supply := { s.supply with state := .normal }, store := { st with erase := restarted } })
    let withdraws := fun (st : Store) =>
      let back := { st with saveNext := st.saveNext - 1, currentSave := none }
      let owed := { back with saveOwed := true }
      (saveEraseDue back = false → exec .warnRising s = rises back)
      ∧ (saveEraseDue back = true →
          (nextWork owed = some .saveErase → exec .warnRising s = rises
            { back with saveOwed := false, queue := st.queue ++ [.erase 3 0] })
          ∧ (nextWork owed ≠ some .saveErase → exec .warnRising s = rises owed))
    (s.supply.state = .warn → exec .warnFalling s = .next s)
    ∧ (s.supply.state = .normal → nextWork s.store = none → (∀ j, s.store.erase = some j → j.commit = false) →
        (recovers ∨ savePlaceUsable s.store = false → exec .warnFalling s = .next (postNotice .supplyState (byte1 1)
          { s with supply := { s.supply with state := .warn }, store := stopped }))
        ∧ (¬ recovers → savePlaceUsable s.store = true → reservedTaken s.store = false →
            exec .warnFalling s = .next (postNotice .supplyState (byte1 1) { s with
              supply := { s.supply with state := .warn }
              store := { stopped with
                saveNext := s.store.saveNext + 1, currentSave := some place
                reserved := some (.record place (.save record)) } }))
        ∧ (¬ recovers → savePlaceUsable s.store = true → reservedTaken s.store = true →
            exec .warnFalling s = .next (postNotice .supplyState (byte1 1) { s with
              supply := { s.supply with state := .warn }
              store := { stopped with
                saveNext := s.store.saveNext + 1, currentSave := some place, nextSave := some (place, record) } })))
    ∧ (s.supply.state = .normal → ∃ t, exec .warnFalling s = .next t
        ∧ SameOutsideAlarm { s with supply := { s.supply with state := .warn } } t
        ∧ t.store.erase = halted.erase ∧ t.store.program = s.store.program
        ∧ t.store.queue.take s.store.queue.length = s.store.queue
        ∧ (s.store.totals.calls = 0 → t.store.totals = s.store.totals)
        ∧ (nextWork halted = some .overflow → ∀ x, postRing .call (.overflow s.store.totals (timeOfDay s)) halted = some x →
            t.store.totals = {} ∧ .record x.2 (.overflow s.store.totals (timeOfDay s)) ∈ t.store.queue)
        ∧ (recovers ∨ savePlaceUsable halted = false → t.store.saveNext = s.store.saveNext ∧ t.store.reserved = s.store.reserved
            ∧ t.store.nextSave = s.store.nextSave ∧ t.store.currentSave = s.store.currentSave)
        ∧ (¬ recovers → savePlaceUsable halted = true →
            let saved := { record with ringPosition := nextPosition .call t.store, totals := t.store.totals }
            t.store.saveNext = s.store.saveNext + 1 ∧ t.store.currentSave = some place
            ∧ (reservedTaken s.store = false → t.store.reserved = some (.record place (.save saved))
                ∧ t.store.nextSave = s.store.nextSave)
            ∧ (reservedTaken s.store = true → t.store.reserved = s.store.reserved
                ∧ t.store.nextSave = some (place, saved))))
    ∧ (s.supply.state = .normal → exec .warnRising s = .next s)
    ∧ (s.supply.state = .warn → s.store.nextSave ≠ none → withdraws { s.store with nextSave := none })
    ∧ (s.supply.state = .warn → s.store.nextSave = none →
        (s.store.currentSave = none → exec .warnRising s = rises s.store)
        ∧ (∀ x, s.store.currentSave = some x →
            (∀ y r, s.store.reserved = some (.record y r) → withdraws { s.store with reserved := none })
            ∧ (s.store.reserved = none → ∀ job, s.store.program = some job → ∀ r, job.op = .record x r →
                exec .warnRising s = rises { s.store with supersedeAfter := some x, currentSave := none })
            ∧ (s.store.reserved = none → s.store.program = none → exec .warnRising s = rises
                { s.store with reserved := some (.mark x .superseded), currentSave := none })))

/-- Tier 2. The supply falls below FAIL (R166, R167, R187): the part is held in reset with every block at its reset
value; of what it held only the array stays, but for the blank place of a record program cut short, which is TORN. That
a call's start time, band at answer, steps handed over, centre dialled and metering mode and count come back as absent,
0, PRIMARY and LOCAL is the model's (log 30), as are the sensor levels, low until recovery takes them (log 6). The hook
pin and the escrow sensor, the part's own timing and the counters by which the model tells coins and free values apart
go on (log 1, log 4, log 9, log 29, log 31); a TORN place shows no marks, and a mark cut short is not programmed (log
25). A part already held changes nothing (log 5). -/
def Obligations.SupplyFailureLosesTheVolatileState : Prop :=
  ∀ s : State,
    (s.supply.inReset = true → exec .supplyReset s = .next s)
    ∧ (s.supply.inReset = false → ∃ t, exec .supplyReset s = .next t
        ∧ t = { State.reset with
            pending := s.pending, now := s.now, freeCount := t.freeCount
            coin := { tubeCoins := s.coin.tubeCoins, tickets := s.coin.tickets, coinIds := s.coin.coinIds }
            call := { hookInput := s.call.hookInput }
            store := { array := t.store.array }
            supply := { cause := .supplyReset, inReset := true } }
        ∧ t.store.array = { s.store.array with cells := t.store.array.cells }
        ∧ ((∀ j, s.store.erase = some j → j.sector ≠ 0) →
            (s.store.program = none → t.store.array = s.store.array)
            ∧ (∀ x, s.store.program = some x →
                (∀ place kind, x.op = .mark place kind → t.store.array = s.store.array)
                ∧ (∀ place r, x.op = .record place r →
                    (∀ c, readCell (placeKey place.sector place.number) s.store.array.cells = some c →
                      t.store.array = s.store.array)
                    ∧ (readCell (placeKey place.sector place.number) s.store.array.cells = none →
                        readCell (placeKey place.sector place.number) t.store.array.cells =
                          some { record := none, marks := [] })
                    ∧ ∀ key, key ≠ placeKey place.sector place.number →
                        readCell key t.store.array.cells = readCell key s.store.array.cells))))

/-- Part of StartsRecoverThePart: what the scan finds (R167, R171, R173, R179, R180, R182, R185). In each ring the sector with
the greatest number among the valid headers is the OPEN one (log 18), its next place follows the last programmed one, and
the upload mark stands behind the newest acknowledged record, or else at the oldest, for positions that rise, as they do
in a ring; torn places from there on are counted; the ring is FULL where the OPEN sector is used up and the following one
holds a record not acknowledged. A ring without a valid header holds nothing, and its first sector is OPEN under number 0.
The erases queued are the first sector's of such a ring, that of each sector after the OPEN one of which every record is
acknowledged or whose header is not valid, and sector 3's where its header is not valid (in what order: log 41). The
image loaded is the valid copy of the greater commit number; the identity is that of the record with the lock mark, else
of the newest valid one (log 11); the save area's next place follows its last programmed one. -/
def Sys2Proof.Machine.ScanFindsTheStore : Prop :=
  ∀ a : NvArray, cellsWf a.cells → headersWf a.headers →
    let scanned := scanStore { array := a }
    let fresh := fun (r : Ring) => ∀ k, ringFirst r ≤ k → k < ringFirst r + ringSectors r → headerSeq k a.headers = none
    let open_ := fun (r : Ring) => (ringOf scanned r).sector
    let next := fun (r : Ring) => ringFirst r + (open_ r - ringFirst r + 1) % ringSectors r
    let lies := fun (r : Ring) (k position : Nat) (c : Cell) => ∃ q n, headerSeq k a.headers = some q ∧ n < 128
      ∧ readCell (placeKey k n) a.cells = some c ∧ position = q * ringPlaces r + n
    let holds := fun (r : Ring) (position : Nat) (c : Cell) =>
      ∃ k, ringFirst r ≤ k ∧ k < ringFirst r + ringSectors r ∧ lies r k position c
    let usedTo := fun (k n : Nat) => (∀ m, n ≤ m → m < 128 → readCell (placeKey k m) a.cells = none)
      ∧ (0 < n → n ≤ 128 ∧ readCell (placeKey k (n - 1)) a.cells ≠ none)
    let owed := fun (r : Ring) => ∀ position c, lies r (next r) position c → position < (ringOf scanned r).upload
    scanned = { array := a, queue := scanned.queue, callRing := scanned.callRing, alarmRing := scanned.alarmRing
                identity := scanned.identity, saveNext := scanned.saveNext }
    ∧ (∀ r : Ring, (fresh r → ringOf scanned r = { sector := ringFirst r })
        ∧ (¬ fresh r →
            let g := ringOf scanned r
            ringFirst r ≤ g.sector ∧ g.sector < ringFirst r + ringSectors r ∧ headerSeq g.sector a.headers = some g.seq
            ∧ (∀ k q, ringFirst r ≤ k → k < ringFirst r + ringSectors r → headerSeq k a.headers = some q → q ≤ g.seq)
            ∧ usedTo g.sector g.used
            ∧ g.torn = ((ringPresent r scanned).filter (fun x => x.2.2.record.isNone)).length
            ∧ (g.full = true ↔ g.used = ringPlaces r ∧ ¬ owed r)
            ∧ ((ringCells r g.sector a).Pairwise (fun x y => x.1 < y.1) →
                ((∃ position c, holds r position c ∧ .acknowledged ∈ c.marks) →
                  0 < g.upload ∧ (∃ c, holds r (g.upload - 1) c ∧ .acknowledged ∈ c.marks)
                  ∧ ∀ position c, holds r position c → .acknowledged ∈ c.marks → position < g.upload)
                ∧ ((∀ position c, holds r position c → .acknowledged ∉ c.marks) →
                    (∀ position c, holds r position c → g.upload ≤ position)
                    ∧ ((∃ position c, holds r position c) → ∃ c, holds r g.upload c)))))
    ∧ (∀ op, op ∈ scanned.queue ↔ (∃ r, (fresh r ∧ op = .erase (ringFirst r) 0)
          ∨ (owed r ∧ op = .erase (next r) ((ringOf scanned r).seq + 1)))
        ∨ (headerSeq 3 a.headers = none ∧ op = .erase 3 0))
    ∧ (loadedImage a = none ↔ a.image1 = none ∧ a.image2 = none)
    ∧ (∀ x, loadedImage a = some x → (a.image1 = some x ∨ a.image2 = some x)
        ∧ ∀ y, a.image1 = some y ∨ a.image2 = some y → y.seq ≤ x.seq)
    ∧ usedTo 0 scanned.identity.next
    ∧ ((∀ n, n < 128 → ∀ c, readCell (placeKey 0 n) a.cells = some c → c.record = none) →
        scanned.identity = { next := scanned.identity.next })
    ∧ (∀ n t site marks, n < 128 → readCell (placeKey 0 n) a.cells = some ⟨some (.identity t site), marks⟩ →
        (∀ m c, n < m → m < 128 → readCell (placeKey 0 m) a.cells = some c → c.record = none ∨
          (.lock ∈ marks ∧ .lock ∉ c.marks)) →
        (.lock ∈ marks ∨ ∀ m c, m < 128 → readCell (placeKey 0 m) a.cells = some c → .lock ∉ c.marks ∨ c.record = none) →
        scanned.identity = { terminal := t, site := site, lock := if .lock ∈ marks then .locked else .unlocked
                             newest := some n, next := scanned.identity.next })
    ∧ (headerSeq 3 a.headers = none → scanned.saveNext = 0)
    ∧ (headerSeq 3 a.headers ≠ none → usedTo 3 scanned.saveNext)

/-- Tier 2. The three starts (R187, R191 to R197, R41): a power-on reset at any moment, the rise past FAIL of a part
held in reset, and a restart that falls due; the last two change nothing when they are not due (log 3). The scan finds in
each ring the OPEN sector, next place, upload mark, torn count and FULL, the erases owed, the image, the identity and the
save area's next place (R171, R173, R179, R180, R182, R185: ScanFindsTheStore); save place, upload marks, torn counts and,
with no OVERFLOW record owed, the call ring stay so. The part is then awake in stage 4, the erases of the scan queued (in
what order: log 41): configuration from the loaded image or the
defaults, identity from sector 0 (log 11), no call, a STALE hook, line and report unit at rest (call's start time, band
and steps, centre dialled, metering mode and count: log 30). A restart keeps clock, tally and totals. Each source that
bears an unreported record is RAISED again (its first time: log 18), a sensor at its active level and, but for a
restart, SUPPLY are raised; STORE, which the store's waiting work may clear, is left out, and an OVERFLOW record may
have taken the totals (log 14). The tally is the newer's of ring and save record (R195), for ring positions that rise,
as they do in a ring (R171); BOX_FULL is raised at the capacity. Every unmarked save record but the one to resolve has
its resolved mark posted or waiting. With none to resolve, one that a RECOVERED record names among them (log 20), the
sensor check is due. Else the coin in motion is folded in and the rest is the escrow list; an IDLE account hands its
figures, with E (log 33), to the check; any other is reconstituted, SETTLING: it refunds where B covers C, else collects
until the coins claimed do. The totals come from that save record. The inputs of hook and tube are kept (log 31). -/
def Obligations.StartsRecoverThePart : Prop :=
  ScanFindsTheStore
  ∧ ∀ (levels : Levels) (s : State),
    let array := arrayAfterReset s
    let scanned := scanStore { array := array }
    let cfg := match loadedImage array with
      | some x => x.cfg
      | none => Configuration.initial
    let found := match (unmarkedSaves array).getLast? with
      | some (p, r) => if namedByRecovered p scanned = true then none else some (p, r)
      | none => none
    let active := fun (i : Nat) => ((sensorSetup cfg i).mode = .rising ∧ levels.tamper.getD i false = true)
      ∨ ((sensorSetup cfg i).mode = .falling ∧ levels.tamper.getD i false = false)
    let supply := fun (cause : StartCause) (r : Recovery) =>
      ({ state := if levels.belowWarn then .warn else .normal, inReset := false, cause := cause
         loaded := (loadedImage array).isSome, recovery := some r } : Supply)
    let common := fun (cause : StartCause) (t : State) =>
      let totals := if cause = .restart then s.store.totals else (found.map (·.2.totals)).getD {}
      t.pending = s.pending ∧ t.now = s.now ∧ t.call = { hookInput := s.call.hookInput } ∧ t.analyser = {} ∧ t.line = {}
      ∧ t.report = {} ∧ t.tariff = { clock := if cause = .restart then s.tariff.clock else none } ∧ t.cfg = cfg
      ∧ t.coin = { escrow := t.coin.escrow, gateQueue := t.coin.gateQueue, tally := t.coin.tally
                   nearPosted := decide ((cfg.capacity * 9 + 9) / 10 ≤ t.coin.tally.coins)
                   tubeCoins := s.coin.tubeCoins, tickets := s.coin.tickets, coinIds := s.coin.coinIds }
      ∧ t.store.array = array ∧ t.store.identity = scanIdentity array ∧ t.store.program = none ∧ t.store.erase = none
      ∧ t.store.saveNext = scanned.saveNext
      ∧ (∀ r, (ringOf t.store r).upload = (ringOf scanned r).upload ∧ (ringOf t.store r).torn = (ringOf scanned r).torn)
      ∧ (totals.calls = 0 → t.store.callRing = scanned.callRing)
      ∧ t.store.reserved = none ∧ t.store.read = none ∧ t.store.queue.take scanned.queue.length = scanned.queue
      ∧ (t.store.totals = totals ∨ (0 < totals.calls ∧ t.store.totals = {} ∧ t.store.queue.any (fun op => match op with
          | .record _ (.overflow x _) => x == totals
          | _ => false) = true))
      ∧ (∀ i, i = 8 ∨ i = 9 ∨ i = 10 ∨ i = 11 ∨ i = 13 → alarmEntry t.alarm i = restoredEntry i scanned)
      ∧ (∀ i, i ≤ 7 → sensorState t.alarm i = { level := levels.tamper.getD i false }
          ∧ (active i → (alarmEntry t.alarm i).state ≠ .quiet)
          ∧ (¬ active i → alarmEntry t.alarm i = restoredEntry i scanned))
      ∧ (cause ≠ .restart → (alarmEntry t.alarm srcSupply).state ≠ .quiet)
      ∧ (cause = .restart → alarmEntry t.alarm srcSupply = restoredEntry srcSupply scanned)
      ∧ (cfg.capacity ≤ t.coin.tally.coins → (alarmEntry t.alarm srcBoxFull).state ≠ .quiet)
      ∧ (t.coin.tally.coins < cfg.capacity → alarmEntry t.alarm srcBoxFull = restoredEntry srcBoxFull scanned)
      ∧ t.alarm.service = derivedService t
      ∧ (∀ x ∈ unmarkedSaves array, found ≠ some x →
          .mark x.1 .resolved ∈ t.store.queue ∨ x.1 ∈ t.store.waitingMarks)
    let started := fun (cause : StartCause) (t : State) =>
      let tally := if cause = .restart then s.coin.tally else recoveredTally scanned
      common cause t
      ∧ (found = none → t.supply = supply cause { stage := 4, phase := .checking } ∧ t.account = {}
          ∧ t.coin.escrow = [] ∧ t.coin.gateQueue = [] ∧ t.coin.tally = tally)
      ∧ (∀ p r, found = some (p, r) →
          let head : Option EscrowCoin := r.escrow.head?
          let motion : Motion := (head.map (·.motion)).getD .no
          let v : Nat := (head.map (·.value)).getD 0
          let a : Account := match motion with
            | .collect => { r.account with b := r.account.b + v, j := r.account.j + v }
            | .refund => { r.account with r := r.account.r + v, unconfirmed := min 255 (r.account.unconfirmed + 1) }
            | .no => r.account
          let e : Nat := (t.coin.escrow.map (·.value)).sum
          let settling : Account := { a with phase := t.account.phase, e := e, c := min a.c (a.b + e), n := t.account.n }
          t.coin.escrow = (if motion = .no then r.escrow else r.escrow.tail).map (fun x => { x with motion := .no })
          ∧ t.coin.tally = { tally with jam := if motion = .collect then min 65535 (tally.jam + 1) else tally.jam }
          ∧ (r.account.phase = .idle → t.account = {} ∧ t.coin.gateQueue = []
              ∧ t.supply = supply cause { stage := 4, phase := .checking, save := some (p, r), figures := some (figuresOf a) })
          ∧ (r.account.phase ≠ .idle →
              t.supply = supply cause { stage := 4, phase := .settling, save := some (p, r) } ∧ t.account = settling
              ∧ t.coin.gateQueue = List.replicate t.account.n .collect ++ (if t.account.n = 0 then [.refundAll] else [])
              ∧ (t.account.n = 0 → t.account.phase = .settling .refund true ∧ settling.c ≤ a.b)
              ∧ (0 < t.account.n → t.account.phase = .settling .collect true
                  ∧ settling.c ≤ a.b + ((t.coin.escrow.take t.account.n).map (·.value)).sum
                  ∧ a.b + ((t.coin.escrow.take (t.account.n - 1)).map (·.value)).sum < settling.c)))
    (∃ t, exec (.powerOnReset levels) s = .next t ∧ started .powerOn t)
    ∧ (s.supply.inReset = true → ∃ t, exec (.supplyRisesPastFail levels) s = .next t ∧ started .supplyReset t)
    ∧ (restartDue s = true → ∃ t, exec (.restartFallsDue levels) s = .next t ∧ started .restart t)
    ∧ (s.supply.inReset = false → exec (.supplyRisesPastFail levels) s = .next s)
    ∧ (restartDue s = false → exec (.restartFallsDue levels) s = .next s)
    ∧ (let ring := tallyRecords scanned
       let save := (saveRecords array).getLast?.map (·.2.1)
       let full := ring.filter (fun x => x.2.2.2.isSome)
       (ring = [] → save = none → recoveredTally scanned = {})
       ∧ (ring.Pairwise (fun x y => x.1 < y.1) → ∀ r, save = some r →
           (∀ x, ring.getLast? = some x → x.1 < r.ringPosition) → recoveredTally scanned = r.tally)
       ∧ (∀ x, ring.getLast? = some x → (∀ r, save = some r → r.ringPosition ≤ x.1) →
           (recoveredTally scanned).coins = x.2.1 ∧ (recoveredTally scanned).value = x.2.2.1
           ∧ (full = [] → save = none → (recoveredTally scanned).jam = 0
               ∧ (recoveredTally scanned).counts = [0, 0, 0, 0, 0, 0])
           ∧ (∀ y, full.getLast? = some y → (∀ r, save = some r → r.ringPosition ≤ y.1) → ∀ w, y.2.2.2 = some w →
               (recoveredTally scanned).jam = w.jam ∧ (recoveredTally scanned).counts = w.counts)
           ∧ (∀ r, save = some r → (∀ y, full.getLast? = some y → y.1 < r.ringPosition) →
               (recoveredTally scanned).jam = r.tally.jam ∧ (recoveredTally scanned).counts = r.tally.counts)))

/-- Tier 2. RESTART (R85, R191): WHEN_IDLE is held until the part is idle, and leaves a restart already pending as it
is; NOW takes its place, ends the call in hand as an on-hook would in each call state (R76), and at once tells of its
end where the call is IDLE; a second NOW changes nothing. Before the line is owned, and after the call, the claim and
the analysis end and the OPEN account settles; a call that owns the line goes to CLEARING; one in SETTLING goes on, an
off-hook no longer held. A pending restart falls due (O58 takes it from there) exactly where the call is IDLE, for
WHEN_IDLE the line owned by nobody, for NOW the end of the call told, no gate operation or test runs, the gate queue and
the write queue with its reserved place are empty, no operation of the array is in flight, and the supply is NORMAL. -/
def Obligations.RestartIsRequested : Prop :=
  (∀ s : State, restartDue s = true ↔ Running s ∧ s.call.state = .idle
    ∧ ((s.supply.restart = some .whenIdle ∧ s.line.owner = .nobody)
        ∨ (s.supply.restart = some .now ∧ s.supply.callEnded = true))
    ∧ s.coin.gateOp = none ∧ s.coin.gateTest = none ∧ s.coin.gateQueue = []
    ∧ s.store.queue = [] ∧ s.store.reserved = none ∧ s.store.program = none ∧ s.store.erase = none
    ∧ s.supply.state = .normal)
  ∧ ∀ s : State, Running s → SlotFree .line s →
    let ordered := { s.supply with restart := some RestartMode.now, callEnded := false }
    exec (.restart .line none) s = .next (answeredWith .line .refusedRange [] s)
    ∧ (s.supply.restart = none → exec (.restart .line (some .whenIdle)) s = .next (answeredWith .line .accepted []
        { s with supply := { s.supply with restart := some .whenIdle, callEnded := false } }))
    ∧ (s.supply.restart ≠ none →
        exec (.restart .line (some .whenIdle)) s = .next (answeredWith .line .accepted [] s))
    ∧ (s.supply.restart = some .now → exec (.restart .line (some .now)) s = .next (answeredWith .line .accepted [] s))
    ∧ (s.supply.restart ≠ some .now → s.call.restartEnd = false →
        (s.call.state = .idle → ∃ t, exec (.restart .line (some .now)) s = .next t
          ∧ t.supply = { ordered with callEnded := true } ∧ (portOf t.ports .line).slot = .ready .accepted []
          ∧ t.call = { s.call with heldOffHook := false } ∧ t = { s with supply := t.supply, call := t.call, ports := t.ports })
        ∧ (s.call.state = .clearing → exec (.restart .line (some .now)) s = .next (answeredWith .line .accepted []
            { s with supply := ordered, call := { s.call with
              restartEnd := true, heldOffHook := false, hangUp := true, followOn := false } }))
        ∧ (s.call.state = .connected ∨ s.call.state = .warning → ∃ t, exec (.restart .line (some .now)) s = .next t
            ∧ EntersClearing .answered { s with supply := ordered, call := { s.call with heldOffHook := false } } t
            ∧ t.call.restartEnd = true ∧ t.call.hangUp = true ∧ t.call.followOn = false
            ∧ (portOf t.ports .line).slot = .ready .accepted [])
        ∧ (s.call.state = .connecting ∨ s.call.state = .alerting → ∃ t, exec (.restart .line (some .now)) s = .next t
            ∧ EntersClearing .unanswered { s with supply := ordered, call := { s.call with heldOffHook := false } } t
            ∧ t.call.restartEnd = true ∧ t.call.hangUp = true ∧ t.call.followOn = false
            ∧ (portOf t.ports .line).slot = .ready .accepted [])
        ∧ ((∃ carry, s.account.phase = .opened carry) →
            s.call.state = .collecting ∨ s.call.state = .waitCoins ∨ s.call.state = .waitLine ∨ s.call.state = .afterCall
              ∨ s.call.state = .refused →
            ∃ t, exec (.restart .line (some .now)) s = .next t ∧ EntersSettling { s with supply := ordered } t
              ∧ t.call.restartEnd = true ∧ t.call.heldOffHook = false ∧ t.call.hook = s.call.hook
              ∧ (s.call.state = .collecting ∨ s.call.state = .waitCoins ∨ s.call.state = .waitLine →
                  s.call.outcome = none → t.call.outcome = some .unanswered)
              ∧ (s.call.state = .collecting → t.analyser.timer = none ∨ analysisRuns s.analyser = false)
              ∧ (s.call.state = .waitLine → t.line.waitingCustomer = none ∧ t.line.preempting = none)
              ∧ (portOf t.ports .line).slot = .ready .accepted [])
        ∧ (s.call.state = .settling → exec (.restart .line (some .now)) s = .next (answeredWith .line .accepted []
            { s with supply := ordered, call := { s.call with restartEnd := true, heldOffHook := false } })))

/-- Tier 2. The later steps of recovery (R185, R192, R196 to R199). An empty tube at the check ends the resolution;
coins start a flush cycle of 0.6 s, which waits where the supply is in WARN (log 42). With a save record resolved and no
cycle run, a RECOVERED record is posted where D + K is more than 0 or the record holds a class, then the resolved mark.
At a window's end coins start the next cycle, up to twelve; an empty tube, or the twelfth cycle's end, ends the
resolution with SUPPLY raised, and RETURN_BLOCKED where coins are left. When the marks are written, the save area's owed
erase is tested (log 38) and queued, STARTED is posted with the cause, the image's load, the escrow resolution and the
service state, recovery ends, the need of a report is weighed once and the hook is watched: a handset found on the hook
starts its hold. A check, a window's end or housekeeping outside its phase changes nothing (log 3); the clauses on
record, mark and erase are for a store with no work that waits (log 14). -/
def Obligations.RecoveryStepsAreTaken : Prop :=
  ∀ (coins : Bool) (s : State), awake s = true →
    (s.supply.recovery = none → exec (.sensorCheck coins) s = .next s ∧ exec (.flushWindowExpiry coins) s = .next s
      ∧ exec .saveSectorHousekeeping s = .next s)
    ∧ (∀ r, s.supply.recovery = some r →
        let cycle : Recovery :=
          { r with phase := .flushing, cycles := r.cycles + 1, counted := false, flushUntil := some (s.now + 6) }
        let with_ := fun (tube : Bool) (x : Recovery) =>
          { s with coin := { s.coin with tubeCoins := tube }, supply := { s.supply with recovery := some x } }
        (r.phase ≠ .checking → exec (.sensorCheck coins) s = .next s)
        ∧ (r.phase = .checking →
            (s.supply.state = .normal → exec (.sensorCheck true) s = .next (with_ true cycle))
            ∧ (s.supply.state = .warn → exec (.sensorCheck true) s = .next (with_ true { r with flushUntil := none }))
            ∧ (r.cycles = 0 → r.save = none → exec (.sensorCheck false) s =
                .next (with_ false { r with stage := 5, phase := .marking, flushUntil := none }))
            ∧ (r.cycles = 0 → nextWork s.store = none → queueHasRoom s.store = true → ∀ p v, r.save = some (p, v) →
                let ended := with_ false { r with stage := 5, phase := .marking, flushUntil := none }
                let due := v.cls ≠ none ∨ (∃ f, r.figures = some f ∧ 0 < f.d + f.k)
                let record : Record := .recovered
                  { time := timeOfDay s, cause := s.supply.cause, savePlace := some p, saveTime := v.time
                    callState := some v.callState, cls := v.cls, figures := r.figures
                    forfeited := r.figures.map (fun f => f.b - f.c), flushed := r.flushed
                    tallyCoins := s.coin.tally.coins, tallyValue := s.coin.tally.value }
                (¬ due → exec (.sensorCheck false) s = .next { ended with
                  store := { s.store with queue := s.store.queue ++ [.mark p .resolved] } })
                ∧ (due → ∀ x, postRing .call record s.store = some x → (ringOf x.1 .call).full = false →
                    nextWork x.1 = none → queueHasRoom x.1 = true → exec (.sensorCheck false) s = .next { ended with
                      store := { x.1 with queue := s.store.queue ++ [.record x.2 record, .mark p .resolved] } })))
        ∧ (r.phase ≠ .flushing → exec (.flushWindowExpiry coins) s = .next s)
        ∧ (r.phase = .flushing → s.alarm.entries.length = 16 →
            (r.cycles < 12 → s.supply.state = .normal → exec (.flushWindowExpiry true) s = .next (with_ true cycle))
            ∧ (coins = false ∨ 12 ≤ r.cycles → r.cycles ≠ 0 → ∃ t, exec (.flushWindowExpiry coins) s = .next t
                ∧ t.supply = { s.supply with recovery := some { r with stage := 5, phase := .marking, flushUntil := none } }
                ∧ t.coin = { s.coin with tubeCoins := coins } ∧ t.account = s.account ∧ t.cfg = s.cfg
                ∧ t.store.array = s.store.array ∧ (alarmEntry t.alarm srcSupply).state ≠ .quiet
                ∧ (coins = true → (alarmEntry t.alarm srcReturnBlocked).state ≠ .quiet)))
        ∧ (r.phase ≠ .marking ∨ marksOutstanding s.store = true → exec .saveSectorHousekeeping s = .next s)
        ∧ (r.phase = .marking → marksOutstanding s.store = false → s.store.saveOwed = false →
            (∀ q, eraseEligible q s.store = false) → overflowOwed s.store = false →
            let resolution := match r.save with
              | some _ => if r.cycles = 0 then 1 else 3
              | none => if r.cycles = 0 then 0 else 2
            let finished := fun (st : Store) => Host.Outcome.next (ρ := Refusal) (φ := Fault) (weigh (postNotice .started
              (byte1 (causeByte s.supply.cause) ++ byte1 (if s.supply.loaded = true then 0 else 1) ++ byte1 resolution
                ++ byte1 (serviceByte s.alarm.service))
              { s with
                store := st, supply := { s.supply with recovery := none }
                call := { s.call with holdFrom := if s.call.hookInput then none else some s.now } }))
            (saveEraseDue s.store = false → exec .saveSectorHousekeeping s = finished s.store)
            ∧ (saveEraseDue s.store = true → queueHasRoom s.store = true → exec .saveSectorHousekeeping s =
                finished { s.store with queue := s.store.queue ++ [.erase 3 0] })
            ∧ (saveEraseDue s.store = true → queueHasRoom s.store = false → exec .saveSectorHousekeeping s =
                finished { s.store with saveOwed := true }))
        ∧ (saveEraseDue s.store = true ↔ 48 ≤ s.store.saveNext ∧ eraseQueued s.store 3 = false ∧ erasing s.store 3 = false
            ∧ (sectorCells 3 s.store.array.cells).length = s.store.saveNext
            ∧ ∀ x ∈ saveRecords s.store.array, .superseded ∈ x.2.2.marks ∨ .resolved ∈ x.2.2.marks)
        ∧ (r.phase = .marking → marksOutstanding s.store = false → ∃ t, exec .saveSectorHousekeeping s = .next t
            ∧ t.supply = { s.supply with recovery := none }
            ∧ t.call = { s.call with holdFrom := if s.call.hookInput then none else some s.now }
            ∧ t.account = s.account ∧ t.coin = s.coin ∧ t.cfg = s.cfg ∧ t.tariff = s.tariff
            ∧ t.store.array = s.store.array))


end
end

