-- ==== Sys2Proof/Laws/State.lean ====
section
/-! SUPPORT. What each named update of the state writes and what it leaves, field by field, each by rfl. -/

namespace Sys2Proof.Laws

open Sys2Proof Sys2Proof.Machine

/-! ### setMeter -/

@[simp] theorem setMeter_pending (m : Metering) (s : State) : (setMeter m s).pending = s.pending := rfl
@[simp] theorem setMeter_now (m : Metering) (s : State) : (setMeter m s).now = s.now := rfl
@[simp] theorem setMeter_freeCount (m : Metering) (s : State) : (setMeter m s).freeCount = s.freeCount := rfl
@[simp] theorem setMeter_cfg (m : Metering) (s : State) : (setMeter m s).cfg = s.cfg := rfl
@[simp] theorem setMeter_coin (m : Metering) (s : State) : (setMeter m s).coin = s.coin := rfl
@[simp] theorem setMeter_account (m : Metering) (s : State) : (setMeter m s).account = s.account := rfl
@[simp] theorem setMeter_analyser (m : Metering) (s : State) : (setMeter m s).analyser = s.analyser := rfl
@[simp] theorem setMeter_call (m : Metering) (s : State) : (setMeter m s).call = s.call := rfl
@[simp] theorem setMeter_tariff (m : Metering) (s : State) : (setMeter m s).tariff = { s.tariff with meter := m } := rfl
@[simp] theorem setMeter_line (m : Metering) (s : State) : (setMeter m s).line = s.line := rfl
@[simp] theorem setMeter_alarm (m : Metering) (s : State) : (setMeter m s).alarm = s.alarm := rfl
@[simp] theorem setMeter_report (m : Metering) (s : State) : (setMeter m s).report = s.report := rfl
@[simp] theorem setMeter_store (m : Metering) (s : State) : (setMeter m s).store = s.store := rfl
@[simp] theorem setMeter_supply (m : Metering) (s : State) : (setMeter m s).supply = s.supply := rfl
@[simp] theorem setMeter_ports (m : Metering) (s : State) : (setMeter m s).ports = s.ports := rfl

/-! ### setWarned -/

@[simp] theorem setWarned_pending (w : Bool) (s : State) : (setWarned w s).pending = s.pending := rfl
@[simp] theorem setWarned_now (w : Bool) (s : State) : (setWarned w s).now = s.now := rfl
@[simp] theorem setWarned_freeCount (w : Bool) (s : State) : (setWarned w s).freeCount = s.freeCount := rfl
@[simp] theorem setWarned_cfg (w : Bool) (s : State) : (setWarned w s).cfg = s.cfg := rfl
@[simp] theorem setWarned_coin (w : Bool) (s : State) : (setWarned w s).coin = s.coin := rfl
@[simp] theorem setWarned_account (w : Bool) (s : State) : (setWarned w s).account = s.account := rfl
@[simp] theorem setWarned_analyser (w : Bool) (s : State) : (setWarned w s).analyser = s.analyser := rfl
@[simp] theorem setWarned_call (w : Bool) (s : State) : (setWarned w s).call = s.call := rfl
@[simp] theorem setWarned_tariff (w : Bool) (s : State) : (setWarned w s).tariff = { s.tariff with meter := { s.tariff.meter with warned := w } } := rfl
@[simp] theorem setWarned_line (w : Bool) (s : State) : (setWarned w s).line = s.line := rfl
@[simp] theorem setWarned_alarm (w : Bool) (s : State) : (setWarned w s).alarm = s.alarm := rfl
@[simp] theorem setWarned_report (w : Bool) (s : State) : (setWarned w s).report = s.report := rfl
@[simp] theorem setWarned_store (w : Bool) (s : State) : (setWarned w s).store = s.store := rfl
@[simp] theorem setWarned_supply (w : Bool) (s : State) : (setWarned w s).supply = s.supply := rfl
@[simp] theorem setWarned_ports (w : Bool) (s : State) : (setWarned w s).ports = s.ports := rfl

/-! ### setRecovery -/

@[simp] theorem setRecovery_pending (r : Recovery) (s : State) : (setRecovery r s).pending = s.pending := rfl
@[simp] theorem setRecovery_now (r : Recovery) (s : State) : (setRecovery r s).now = s.now := rfl
@[simp] theorem setRecovery_freeCount (r : Recovery) (s : State) : (setRecovery r s).freeCount = s.freeCount := rfl
@[simp] theorem setRecovery_cfg (r : Recovery) (s : State) : (setRecovery r s).cfg = s.cfg := rfl
@[simp] theorem setRecovery_coin (r : Recovery) (s : State) : (setRecovery r s).coin = s.coin := rfl
@[simp] theorem setRecovery_account (r : Recovery) (s : State) : (setRecovery r s).account = s.account := rfl
@[simp] theorem setRecovery_analyser (r : Recovery) (s : State) : (setRecovery r s).analyser = s.analyser := rfl
@[simp] theorem setRecovery_call (r : Recovery) (s : State) : (setRecovery r s).call = s.call := rfl
@[simp] theorem setRecovery_tariff (r : Recovery) (s : State) : (setRecovery r s).tariff = s.tariff := rfl
@[simp] theorem setRecovery_line (r : Recovery) (s : State) : (setRecovery r s).line = s.line := rfl
@[simp] theorem setRecovery_alarm (r : Recovery) (s : State) : (setRecovery r s).alarm = s.alarm := rfl
@[simp] theorem setRecovery_report (r : Recovery) (s : State) : (setRecovery r s).report = s.report := rfl
@[simp] theorem setRecovery_store (r : Recovery) (s : State) : (setRecovery r s).store = s.store := rfl
@[simp] theorem setRecovery_supply (r : Recovery) (s : State) : (setRecovery r s).supply = { s.supply with recovery := some r } := rfl
@[simp] theorem setRecovery_ports (r : Recovery) (s : State) : (setRecovery r s).ports = s.ports := rfl

/-! ### setRestart -/

@[simp] theorem setRestart_pending (m : RestartMode) (s : State) : (setRestart m s).pending = s.pending := rfl
@[simp] theorem setRestart_now (m : RestartMode) (s : State) : (setRestart m s).now = s.now := rfl
@[simp] theorem setRestart_freeCount (m : RestartMode) (s : State) : (setRestart m s).freeCount = s.freeCount := rfl
@[simp] theorem setRestart_cfg (m : RestartMode) (s : State) : (setRestart m s).cfg = s.cfg := rfl
@[simp] theorem setRestart_coin (m : RestartMode) (s : State) : (setRestart m s).coin = s.coin := rfl
@[simp] theorem setRestart_account (m : RestartMode) (s : State) : (setRestart m s).account = s.account := rfl
@[simp] theorem setRestart_analyser (m : RestartMode) (s : State) : (setRestart m s).analyser = s.analyser := rfl
@[simp] theorem setRestart_call (m : RestartMode) (s : State) : (setRestart m s).call = s.call := rfl
@[simp] theorem setRestart_tariff (m : RestartMode) (s : State) : (setRestart m s).tariff = s.tariff := rfl
@[simp] theorem setRestart_line (m : RestartMode) (s : State) : (setRestart m s).line = s.line := rfl
@[simp] theorem setRestart_alarm (m : RestartMode) (s : State) : (setRestart m s).alarm = s.alarm := rfl
@[simp] theorem setRestart_report (m : RestartMode) (s : State) : (setRestart m s).report = s.report := rfl
@[simp] theorem setRestart_store (m : RestartMode) (s : State) : (setRestart m s).store = s.store := rfl
@[simp] theorem setRestart_supply (m : RestartMode) (s : State) : (setRestart m s).supply = { s.supply with restart := some m, callEnded := false } := rfl
@[simp] theorem setRestart_ports (m : RestartMode) (s : State) : (setRestart m s).ports = s.ports := rfl

/-! ### setTube -/

@[simp] theorem setTube_pending (b : Bool) (s : State) : (setTube b s).pending = s.pending := rfl
@[simp] theorem setTube_now (b : Bool) (s : State) : (setTube b s).now = s.now := rfl
@[simp] theorem setTube_freeCount (b : Bool) (s : State) : (setTube b s).freeCount = s.freeCount := rfl
@[simp] theorem setTube_cfg (b : Bool) (s : State) : (setTube b s).cfg = s.cfg := rfl
@[simp] theorem setTube_coin (b : Bool) (s : State) : (setTube b s).coin = { s.coin with tubeCoins := b } := rfl
@[simp] theorem setTube_account (b : Bool) (s : State) : (setTube b s).account = s.account := rfl
@[simp] theorem setTube_analyser (b : Bool) (s : State) : (setTube b s).analyser = s.analyser := rfl
@[simp] theorem setTube_call (b : Bool) (s : State) : (setTube b s).call = s.call := rfl
@[simp] theorem setTube_tariff (b : Bool) (s : State) : (setTube b s).tariff = s.tariff := rfl
@[simp] theorem setTube_line (b : Bool) (s : State) : (setTube b s).line = s.line := rfl
@[simp] theorem setTube_alarm (b : Bool) (s : State) : (setTube b s).alarm = s.alarm := rfl
@[simp] theorem setTube_report (b : Bool) (s : State) : (setTube b s).report = s.report := rfl
@[simp] theorem setTube_store (b : Bool) (s : State) : (setTube b s).store = s.store := rfl
@[simp] theorem setTube_supply (b : Bool) (s : State) : (setTube b s).supply = s.supply := rfl
@[simp] theorem setTube_ports (b : Bool) (s : State) : (setTube b s).ports = s.ports := rfl

/-! ### setEntry -/

@[simp] theorem setEntry_pending (i : Nat) (e : AlarmEntry) (s : State) : (setEntry i e s).pending = s.pending := rfl
@[simp] theorem setEntry_now (i : Nat) (e : AlarmEntry) (s : State) : (setEntry i e s).now = s.now := rfl
@[simp] theorem setEntry_freeCount (i : Nat) (e : AlarmEntry) (s : State) : (setEntry i e s).freeCount = s.freeCount := rfl
@[simp] theorem setEntry_cfg (i : Nat) (e : AlarmEntry) (s : State) : (setEntry i e s).cfg = s.cfg := rfl
@[simp] theorem setEntry_coin (i : Nat) (e : AlarmEntry) (s : State) : (setEntry i e s).coin = s.coin := rfl
@[simp] theorem setEntry_account (i : Nat) (e : AlarmEntry) (s : State) : (setEntry i e s).account = s.account := rfl
@[simp] theorem setEntry_analyser (i : Nat) (e : AlarmEntry) (s : State) : (setEntry i e s).analyser = s.analyser := rfl
@[simp] theorem setEntry_call (i : Nat) (e : AlarmEntry) (s : State) : (setEntry i e s).call = s.call := rfl
@[simp] theorem setEntry_tariff (i : Nat) (e : AlarmEntry) (s : State) : (setEntry i e s).tariff = s.tariff := rfl
@[simp] theorem setEntry_line (i : Nat) (e : AlarmEntry) (s : State) : (setEntry i e s).line = s.line := rfl
@[simp] theorem setEntry_alarm (i : Nat) (e : AlarmEntry) (s : State) : (setEntry i e s).alarm = { s.alarm with entries := s.alarm.entries.set i e } := rfl
@[simp] theorem setEntry_report (i : Nat) (e : AlarmEntry) (s : State) : (setEntry i e s).report = s.report := rfl
@[simp] theorem setEntry_store (i : Nat) (e : AlarmEntry) (s : State) : (setEntry i e s).store = s.store := rfl
@[simp] theorem setEntry_supply (i : Nat) (e : AlarmEntry) (s : State) : (setEntry i e s).supply = s.supply := rfl
@[simp] theorem setEntry_ports (i : Nat) (e : AlarmEntry) (s : State) : (setEntry i e s).ports = s.ports := rfl

/-! ### setSensor -/

@[simp] theorem setSensor_pending (i : Nat) (v : Sensor) (s : State) : (setSensor i v s).pending = s.pending := rfl
@[simp] theorem setSensor_now (i : Nat) (v : Sensor) (s : State) : (setSensor i v s).now = s.now := rfl
@[simp] theorem setSensor_freeCount (i : Nat) (v : Sensor) (s : State) : (setSensor i v s).freeCount = s.freeCount := rfl
@[simp] theorem setSensor_cfg (i : Nat) (v : Sensor) (s : State) : (setSensor i v s).cfg = s.cfg := rfl
@[simp] theorem setSensor_coin (i : Nat) (v : Sensor) (s : State) : (setSensor i v s).coin = s.coin := rfl
@[simp] theorem setSensor_account (i : Nat) (v : Sensor) (s : State) : (setSensor i v s).account = s.account := rfl
@[simp] theorem setSensor_analyser (i : Nat) (v : Sensor) (s : State) : (setSensor i v s).analyser = s.analyser := rfl
@[simp] theorem setSensor_call (i : Nat) (v : Sensor) (s : State) : (setSensor i v s).call = s.call := rfl
@[simp] theorem setSensor_tariff (i : Nat) (v : Sensor) (s : State) : (setSensor i v s).tariff = s.tariff := rfl
@[simp] theorem setSensor_line (i : Nat) (v : Sensor) (s : State) : (setSensor i v s).line = s.line := rfl
@[simp] theorem setSensor_alarm (i : Nat) (v : Sensor) (s : State) : (setSensor i v s).alarm = { s.alarm with sensors := s.alarm.sensors.set i v } := rfl
@[simp] theorem setSensor_report (i : Nat) (v : Sensor) (s : State) : (setSensor i v s).report = s.report := rfl
@[simp] theorem setSensor_store (i : Nat) (v : Sensor) (s : State) : (setSensor i v s).store = s.store := rfl
@[simp] theorem setSensor_supply (i : Nat) (v : Sensor) (s : State) : (setSensor i v s).supply = s.supply := rfl
@[simp] theorem setSensor_ports (i : Nat) (v : Sensor) (s : State) : (setSensor i v s).ports = s.ports := rfl

/-! ### clearSensor -/

@[simp] theorem clearSensor_pending (i : Nat) (s : State) : (clearSensor i s).pending = s.pending := rfl
@[simp] theorem clearSensor_now (i : Nat) (s : State) : (clearSensor i s).now = s.now := rfl
@[simp] theorem clearSensor_freeCount (i : Nat) (s : State) : (clearSensor i s).freeCount = s.freeCount := rfl
@[simp] theorem clearSensor_cfg (i : Nat) (s : State) : (clearSensor i s).cfg = s.cfg := rfl
@[simp] theorem clearSensor_coin (i : Nat) (s : State) : (clearSensor i s).coin = s.coin := rfl
@[simp] theorem clearSensor_account (i : Nat) (s : State) : (clearSensor i s).account = s.account := rfl
@[simp] theorem clearSensor_analyser (i : Nat) (s : State) : (clearSensor i s).analyser = s.analyser := rfl
@[simp] theorem clearSensor_call (i : Nat) (s : State) : (clearSensor i s).call = s.call := rfl
@[simp] theorem clearSensor_tariff (i : Nat) (s : State) : (clearSensor i s).tariff = s.tariff := rfl
@[simp] theorem clearSensor_line (i : Nat) (s : State) : (clearSensor i s).line = s.line := rfl
@[simp] theorem clearSensor_report (i : Nat) (s : State) : (clearSensor i s).report = s.report := rfl
@[simp] theorem clearSensor_store (i : Nat) (s : State) : (clearSensor i s).store = s.store := rfl
@[simp] theorem clearSensor_supply (i : Nat) (s : State) : (clearSensor i s).supply = s.supply := rfl
@[simp] theorem clearSensor_ports (i : Nat) (s : State) : (clearSensor i s).ports = s.ports := rfl

/-! ### takeLevels -/

@[simp] theorem takeLevels_pending (l : List Bool) (s : State) : (takeLevels l s).pending = s.pending := rfl
@[simp] theorem takeLevels_now (l : List Bool) (s : State) : (takeLevels l s).now = s.now := rfl
@[simp] theorem takeLevels_freeCount (l : List Bool) (s : State) : (takeLevels l s).freeCount = s.freeCount := rfl
@[simp] theorem takeLevels_cfg (l : List Bool) (s : State) : (takeLevels l s).cfg = s.cfg := rfl
@[simp] theorem takeLevels_coin (l : List Bool) (s : State) : (takeLevels l s).coin = s.coin := rfl
@[simp] theorem takeLevels_account (l : List Bool) (s : State) : (takeLevels l s).account = s.account := rfl
@[simp] theorem takeLevels_analyser (l : List Bool) (s : State) : (takeLevels l s).analyser = s.analyser := rfl
@[simp] theorem takeLevels_call (l : List Bool) (s : State) : (takeLevels l s).call = s.call := rfl
@[simp] theorem takeLevels_tariff (l : List Bool) (s : State) : (takeLevels l s).tariff = s.tariff := rfl
@[simp] theorem takeLevels_line (l : List Bool) (s : State) : (takeLevels l s).line = s.line := rfl
@[simp] theorem takeLevels_report (l : List Bool) (s : State) : (takeLevels l s).report = s.report := rfl
@[simp] theorem takeLevels_store (l : List Bool) (s : State) : (takeLevels l s).store = s.store := rfl
@[simp] theorem takeLevels_supply (l : List Bool) (s : State) : (takeLevels l s).supply = s.supply := rfl
@[simp] theorem takeLevels_ports (l : List Bool) (s : State) : (takeLevels l s).ports = s.ports := rfl

/-! ### setSourceSetup -/

@[simp] theorem setSourceSetup_pending (i : Nat) (x : SourceSetup) (s : State) : (setSourceSetup i x s).pending = s.pending := rfl
@[simp] theorem setSourceSetup_now (i : Nat) (x : SourceSetup) (s : State) : (setSourceSetup i x s).now = s.now := rfl
@[simp] theorem setSourceSetup_freeCount (i : Nat) (x : SourceSetup) (s : State) : (setSourceSetup i x s).freeCount = s.freeCount := rfl
@[simp] theorem setSourceSetup_cfg (i : Nat) (x : SourceSetup) (s : State) : (setSourceSetup i x s).cfg = { s.cfg with sources := s.cfg.sources.set i x } := rfl
@[simp] theorem setSourceSetup_coin (i : Nat) (x : SourceSetup) (s : State) : (setSourceSetup i x s).coin = s.coin := rfl
@[simp] theorem setSourceSetup_account (i : Nat) (x : SourceSetup) (s : State) : (setSourceSetup i x s).account = s.account := rfl
@[simp] theorem setSourceSetup_analyser (i : Nat) (x : SourceSetup) (s : State) : (setSourceSetup i x s).analyser = s.analyser := rfl
@[simp] theorem setSourceSetup_call (i : Nat) (x : SourceSetup) (s : State) : (setSourceSetup i x s).call = s.call := rfl
@[simp] theorem setSourceSetup_tariff (i : Nat) (x : SourceSetup) (s : State) : (setSourceSetup i x s).tariff = s.tariff := rfl
@[simp] theorem setSourceSetup_line (i : Nat) (x : SourceSetup) (s : State) : (setSourceSetup i x s).line = s.line := rfl
@[simp] theorem setSourceSetup_alarm (i : Nat) (x : SourceSetup) (s : State) : (setSourceSetup i x s).alarm = s.alarm := rfl
@[simp] theorem setSourceSetup_report (i : Nat) (x : SourceSetup) (s : State) : (setSourceSetup i x s).report = s.report := rfl
@[simp] theorem setSourceSetup_store (i : Nat) (x : SourceSetup) (s : State) : (setSourceSetup i x s).store = s.store := rfl
@[simp] theorem setSourceSetup_supply (i : Nat) (x : SourceSetup) (s : State) : (setSourceSetup i x s).supply = s.supply := rfl
@[simp] theorem setSourceSetup_ports (i : Nat) (x : SourceSetup) (s : State) : (setSourceSetup i x s).ports = s.ports := rfl

/-! ### setPending -/

@[simp] theorem setPending_pending (cls band : Nat) (e : Option TariffEntry) (s : State) : (setPending cls band e s).pending = s.pending := rfl
@[simp] theorem setPending_now (cls band : Nat) (e : Option TariffEntry) (s : State) : (setPending cls band e s).now = s.now := rfl
@[simp] theorem setPending_freeCount (cls band : Nat) (e : Option TariffEntry) (s : State) : (setPending cls band e s).freeCount = s.freeCount := rfl
@[simp] theorem setPending_cfg (cls band : Nat) (e : Option TariffEntry) (s : State) : (setPending cls band e s).cfg = s.cfg := rfl
@[simp] theorem setPending_coin (cls band : Nat) (e : Option TariffEntry) (s : State) : (setPending cls band e s).coin = s.coin := rfl
@[simp] theorem setPending_account (cls band : Nat) (e : Option TariffEntry) (s : State) : (setPending cls band e s).account = s.account := rfl
@[simp] theorem setPending_analyser (cls band : Nat) (e : Option TariffEntry) (s : State) : (setPending cls band e s).analyser = s.analyser := rfl
@[simp] theorem setPending_call (cls band : Nat) (e : Option TariffEntry) (s : State) : (setPending cls band e s).call = s.call := rfl
@[simp] theorem setPending_line (cls band : Nat) (e : Option TariffEntry) (s : State) : (setPending cls band e s).line = s.line := rfl
@[simp] theorem setPending_alarm (cls band : Nat) (e : Option TariffEntry) (s : State) : (setPending cls band e s).alarm = s.alarm := rfl
@[simp] theorem setPending_report (cls band : Nat) (e : Option TariffEntry) (s : State) : (setPending cls band e s).report = s.report := rfl
@[simp] theorem setPending_store (cls band : Nat) (e : Option TariffEntry) (s : State) : (setPending cls band e s).store = s.store := rfl
@[simp] theorem setPending_supply (cls band : Nat) (e : Option TariffEntry) (s : State) : (setPending cls band e s).supply = s.supply := rfl
@[simp] theorem setPending_ports (cls band : Nat) (e : Option TariffEntry) (s : State) : (setPending cls band e s).ports = s.ports := rfl

/-! ### emptySlot -/

@[simp] theorem emptySlot_pending (s : State) : (emptySlot s).pending = s.pending := rfl
@[simp] theorem emptySlot_now (s : State) : (emptySlot s).now = s.now := rfl
@[simp] theorem emptySlot_freeCount (s : State) : (emptySlot s).freeCount = s.freeCount := rfl
@[simp] theorem emptySlot_cfg (s : State) : (emptySlot s).cfg = s.cfg := rfl
@[simp] theorem emptySlot_coin (s : State) : (emptySlot s).coin = s.coin := rfl
@[simp] theorem emptySlot_account (s : State) : (emptySlot s).account = s.account := rfl
@[simp] theorem emptySlot_analyser (s : State) : (emptySlot s).analyser = s.analyser := rfl
@[simp] theorem emptySlot_call (s : State) : (emptySlot s).call = s.call := rfl
@[simp] theorem emptySlot_tariff (s : State) : (emptySlot s).tariff = s.tariff := rfl
@[simp] theorem emptySlot_line (s : State) : (emptySlot s).line = { s.line with slot := none } := rfl
@[simp] theorem emptySlot_alarm (s : State) : (emptySlot s).alarm = s.alarm := rfl
@[simp] theorem emptySlot_report (s : State) : (emptySlot s).report = s.report := rfl
@[simp] theorem emptySlot_store (s : State) : (emptySlot s).store = s.store := rfl
@[simp] theorem emptySlot_supply (s : State) : (emptySlot s).supply = s.supply := rfl
@[simp] theorem emptySlot_ports (s : State) : (emptySlot s).ports = s.ports := rfl

/-! ### enterSlot -/

@[simp] theorem enterSlot_pending (b : OrderBody) (s : State) : (enterSlot b s).pending = s.pending := rfl
@[simp] theorem enterSlot_now (b : OrderBody) (s : State) : (enterSlot b s).now = s.now := rfl
@[simp] theorem enterSlot_freeCount (b : OrderBody) (s : State) : (enterSlot b s).freeCount = s.freeCount := rfl
@[simp] theorem enterSlot_cfg (b : OrderBody) (s : State) : (enterSlot b s).cfg = s.cfg := rfl
@[simp] theorem enterSlot_coin (b : OrderBody) (s : State) : (enterSlot b s).coin = s.coin := rfl
@[simp] theorem enterSlot_account (b : OrderBody) (s : State) : (enterSlot b s).account = s.account := rfl
@[simp] theorem enterSlot_analyser (b : OrderBody) (s : State) : (enterSlot b s).analyser = s.analyser := rfl
@[simp] theorem enterSlot_call (b : OrderBody) (s : State) : (enterSlot b s).call = s.call := rfl
@[simp] theorem enterSlot_tariff (b : OrderBody) (s : State) : (enterSlot b s).tariff = s.tariff := rfl
@[simp] theorem enterSlot_alarm (b : OrderBody) (s : State) : (enterSlot b s).alarm = s.alarm := rfl
@[simp] theorem enterSlot_report (b : OrderBody) (s : State) : (enterSlot b s).report = s.report := rfl
@[simp] theorem enterSlot_store (b : OrderBody) (s : State) : (enterSlot b s).store = s.store := rfl
@[simp] theorem enterSlot_supply (b : OrderBody) (s : State) : (enterSlot b s).supply = s.supply := rfl
@[simp] theorem enterSlot_ports (b : OrderBody) (s : State) : (enterSlot b s).ports = s.ports := rfl

/-! ### waitCustomer -/

@[simp] theorem waitCustomer_pending (b : Bool) (s : State) : (waitCustomer b s).pending = s.pending := rfl
@[simp] theorem waitCustomer_now (b : Bool) (s : State) : (waitCustomer b s).now = s.now := rfl
@[simp] theorem waitCustomer_freeCount (b : Bool) (s : State) : (waitCustomer b s).freeCount = s.freeCount := rfl
@[simp] theorem waitCustomer_cfg (b : Bool) (s : State) : (waitCustomer b s).cfg = s.cfg := rfl
@[simp] theorem waitCustomer_coin (b : Bool) (s : State) : (waitCustomer b s).coin = s.coin := rfl
@[simp] theorem waitCustomer_account (b : Bool) (s : State) : (waitCustomer b s).account = s.account := rfl
@[simp] theorem waitCustomer_analyser (b : Bool) (s : State) : (waitCustomer b s).analyser = s.analyser := rfl
@[simp] theorem waitCustomer_call (b : Bool) (s : State) : (waitCustomer b s).call = s.call := rfl
@[simp] theorem waitCustomer_tariff (b : Bool) (s : State) : (waitCustomer b s).tariff = s.tariff := rfl
@[simp] theorem waitCustomer_line (b : Bool) (s : State) : (waitCustomer b s).line = { s.line with waitingCustomer := some b } := rfl
@[simp] theorem waitCustomer_alarm (b : Bool) (s : State) : (waitCustomer b s).alarm = s.alarm := rfl
@[simp] theorem waitCustomer_report (b : Bool) (s : State) : (waitCustomer b s).report = s.report := rfl
@[simp] theorem waitCustomer_store (b : Bool) (s : State) : (waitCustomer b s).store = s.store := rfl
@[simp] theorem waitCustomer_supply (b : Bool) (s : State) : (waitCustomer b s).supply = s.supply := rfl
@[simp] theorem waitCustomer_ports (b : Bool) (s : State) : (waitCustomer b s).ports = s.ports := rfl

/-! ### withdrawCustomerClaim -/

@[simp] theorem withdrawCustomerClaim_pending (s : State) : (withdrawCustomerClaim s).pending = s.pending := rfl
@[simp] theorem withdrawCustomerClaim_now (s : State) : (withdrawCustomerClaim s).now = s.now := rfl
@[simp] theorem withdrawCustomerClaim_freeCount (s : State) : (withdrawCustomerClaim s).freeCount = s.freeCount := rfl
@[simp] theorem withdrawCustomerClaim_cfg (s : State) : (withdrawCustomerClaim s).cfg = s.cfg := rfl
@[simp] theorem withdrawCustomerClaim_coin (s : State) : (withdrawCustomerClaim s).coin = s.coin := rfl
@[simp] theorem withdrawCustomerClaim_account (s : State) : (withdrawCustomerClaim s).account = s.account := rfl
@[simp] theorem withdrawCustomerClaim_analyser (s : State) : (withdrawCustomerClaim s).analyser = s.analyser := rfl
@[simp] theorem withdrawCustomerClaim_call (s : State) : (withdrawCustomerClaim s).call = s.call := rfl
@[simp] theorem withdrawCustomerClaim_tariff (s : State) : (withdrawCustomerClaim s).tariff = s.tariff := rfl
@[simp] theorem withdrawCustomerClaim_line (s : State) : (withdrawCustomerClaim s).line = { s.line with waitingCustomer := none, preempting := none } := rfl
@[simp] theorem withdrawCustomerClaim_alarm (s : State) : (withdrawCustomerClaim s).alarm = s.alarm := rfl
@[simp] theorem withdrawCustomerClaim_report (s : State) : (withdrawCustomerClaim s).report = s.report := rfl
@[simp] theorem withdrawCustomerClaim_store (s : State) : (withdrawCustomerClaim s).store = s.store := rfl
@[simp] theorem withdrawCustomerClaim_supply (s : State) : (withdrawCustomerClaim s).supply = s.supply := rfl
@[simp] theorem withdrawCustomerClaim_ports (s : State) : (withdrawCustomerClaim s).ports = s.ports := rfl

/-! ### withdrawReportClaim -/

@[simp] theorem withdrawReportClaim_pending (s : State) : (withdrawReportClaim s).pending = s.pending := rfl
@[simp] theorem withdrawReportClaim_now (s : State) : (withdrawReportClaim s).now = s.now := rfl
@[simp] theorem withdrawReportClaim_freeCount (s : State) : (withdrawReportClaim s).freeCount = s.freeCount := rfl
@[simp] theorem withdrawReportClaim_cfg (s : State) : (withdrawReportClaim s).cfg = s.cfg := rfl
@[simp] theorem withdrawReportClaim_coin (s : State) : (withdrawReportClaim s).coin = s.coin := rfl
@[simp] theorem withdrawReportClaim_account (s : State) : (withdrawReportClaim s).account = s.account := rfl
@[simp] theorem withdrawReportClaim_analyser (s : State) : (withdrawReportClaim s).analyser = s.analyser := rfl
@[simp] theorem withdrawReportClaim_call (s : State) : (withdrawReportClaim s).call = s.call := rfl
@[simp] theorem withdrawReportClaim_tariff (s : State) : (withdrawReportClaim s).tariff = s.tariff := rfl
@[simp] theorem withdrawReportClaim_line (s : State) : (withdrawReportClaim s).line = { s.line with waitingReport := none } := rfl
@[simp] theorem withdrawReportClaim_alarm (s : State) : (withdrawReportClaim s).alarm = s.alarm := rfl
@[simp] theorem withdrawReportClaim_report (s : State) : (withdrawReportClaim s).report = s.report := rfl
@[simp] theorem withdrawReportClaim_store (s : State) : (withdrawReportClaim s).store = s.store := rfl
@[simp] theorem withdrawReportClaim_supply (s : State) : (withdrawReportClaim s).supply = s.supply := rfl
@[simp] theorem withdrawReportClaim_ports (s : State) : (withdrawReportClaim s).ports = s.ports := rfl

/-! ### remarkReportClaim -/

@[simp] theorem remarkReportClaim_pending (s : State) : (remarkReportClaim s).pending = s.pending := rfl
@[simp] theorem remarkReportClaim_now (s : State) : (remarkReportClaim s).now = s.now := rfl
@[simp] theorem remarkReportClaim_freeCount (s : State) : (remarkReportClaim s).freeCount = s.freeCount := rfl
@[simp] theorem remarkReportClaim_cfg (s : State) : (remarkReportClaim s).cfg = s.cfg := rfl
@[simp] theorem remarkReportClaim_coin (s : State) : (remarkReportClaim s).coin = s.coin := rfl
@[simp] theorem remarkReportClaim_account (s : State) : (remarkReportClaim s).account = s.account := rfl
@[simp] theorem remarkReportClaim_analyser (s : State) : (remarkReportClaim s).analyser = s.analyser := rfl
@[simp] theorem remarkReportClaim_call (s : State) : (remarkReportClaim s).call = s.call := rfl
@[simp] theorem remarkReportClaim_tariff (s : State) : (remarkReportClaim s).tariff = s.tariff := rfl
@[simp] theorem remarkReportClaim_alarm (s : State) : (remarkReportClaim s).alarm = s.alarm := rfl
@[simp] theorem remarkReportClaim_report (s : State) : (remarkReportClaim s).report = s.report := rfl
@[simp] theorem remarkReportClaim_store (s : State) : (remarkReportClaim s).store = s.store := rfl
@[simp] theorem remarkReportClaim_supply (s : State) : (remarkReportClaim s).supply = s.supply := rfl
@[simp] theorem remarkReportClaim_ports (s : State) : (remarkReportClaim s).ports = s.ports := rfl

/-! ### endRun -/

@[simp] theorem endRun_pending (s : State) : (endRun s).pending = s.pending := rfl
@[simp] theorem endRun_now (s : State) : (endRun s).now = s.now := rfl
@[simp] theorem endRun_freeCount (s : State) : (endRun s).freeCount = s.freeCount := rfl
@[simp] theorem endRun_cfg (s : State) : (endRun s).cfg = s.cfg := rfl
@[simp] theorem endRun_coin (s : State) : (endRun s).coin = s.coin := rfl
@[simp] theorem endRun_account (s : State) : (endRun s).account = s.account := rfl
@[simp] theorem endRun_analyser (s : State) : (endRun s).analyser = s.analyser := rfl
@[simp] theorem endRun_call (s : State) : (endRun s).call = s.call := rfl
@[simp] theorem endRun_tariff (s : State) : (endRun s).tariff = s.tariff := rfl
@[simp] theorem endRun_line (s : State) : (endRun s).line = s.line := rfl
@[simp] theorem endRun_alarm (s : State) : (endRun s).alarm = s.alarm := rfl
@[simp] theorem endRun_report (s : State) : (endRun s).report = { s.report with failures := 0, run := 0, centre := .primary } := rfl
@[simp] theorem endRun_store (s : State) : (endRun s).store = s.store := rfl
@[simp] theorem endRun_supply (s : State) : (endRun s).supply = s.supply := rfl
@[simp] theorem endRun_ports (s : State) : (endRun s).ports = s.ports := rfl

/-! ### startCallTimer -/

@[simp] theorem startCallTimer_pending (t : CallTimer) (d : Nat) (s : State) : (startCallTimer t d s).pending = s.pending := rfl
@[simp] theorem startCallTimer_now (t : CallTimer) (d : Nat) (s : State) : (startCallTimer t d s).now = s.now := rfl
@[simp] theorem startCallTimer_freeCount (t : CallTimer) (d : Nat) (s : State) : (startCallTimer t d s).freeCount = s.freeCount := rfl
@[simp] theorem startCallTimer_cfg (t : CallTimer) (d : Nat) (s : State) : (startCallTimer t d s).cfg = s.cfg := rfl
@[simp] theorem startCallTimer_coin (t : CallTimer) (d : Nat) (s : State) : (startCallTimer t d s).coin = s.coin := rfl
@[simp] theorem startCallTimer_account (t : CallTimer) (d : Nat) (s : State) : (startCallTimer t d s).account = s.account := rfl
@[simp] theorem startCallTimer_analyser (t : CallTimer) (d : Nat) (s : State) : (startCallTimer t d s).analyser = s.analyser := rfl
@[simp] theorem startCallTimer_call (t : CallTimer) (d : Nat) (s : State) : (startCallTimer t d s).call = { s.call with timer := some (t, s.now + d) } := rfl
@[simp] theorem startCallTimer_tariff (t : CallTimer) (d : Nat) (s : State) : (startCallTimer t d s).tariff = s.tariff := rfl
@[simp] theorem startCallTimer_line (t : CallTimer) (d : Nat) (s : State) : (startCallTimer t d s).line = s.line := rfl
@[simp] theorem startCallTimer_alarm (t : CallTimer) (d : Nat) (s : State) : (startCallTimer t d s).alarm = s.alarm := rfl
@[simp] theorem startCallTimer_report (t : CallTimer) (d : Nat) (s : State) : (startCallTimer t d s).report = s.report := rfl
@[simp] theorem startCallTimer_store (t : CallTimer) (d : Nat) (s : State) : (startCallTimer t d s).store = s.store := rfl
@[simp] theorem startCallTimer_supply (t : CallTimer) (d : Nat) (s : State) : (startCallTimer t d s).supply = s.supply := rfl
@[simp] theorem startCallTimer_ports (t : CallTimer) (d : Nat) (s : State) : (startCallTimer t d s).ports = s.ports := rfl

/-! ### stopCallTimer -/

@[simp] theorem stopCallTimer_pending (s : State) : (stopCallTimer s).pending = s.pending := rfl
@[simp] theorem stopCallTimer_now (s : State) : (stopCallTimer s).now = s.now := rfl
@[simp] theorem stopCallTimer_freeCount (s : State) : (stopCallTimer s).freeCount = s.freeCount := rfl
@[simp] theorem stopCallTimer_cfg (s : State) : (stopCallTimer s).cfg = s.cfg := rfl
@[simp] theorem stopCallTimer_coin (s : State) : (stopCallTimer s).coin = s.coin := rfl
@[simp] theorem stopCallTimer_account (s : State) : (stopCallTimer s).account = s.account := rfl
@[simp] theorem stopCallTimer_analyser (s : State) : (stopCallTimer s).analyser = s.analyser := rfl
@[simp] theorem stopCallTimer_call (s : State) : (stopCallTimer s).call = { s.call with timer := none } := rfl
@[simp] theorem stopCallTimer_tariff (s : State) : (stopCallTimer s).tariff = s.tariff := rfl
@[simp] theorem stopCallTimer_line (s : State) : (stopCallTimer s).line = s.line := rfl
@[simp] theorem stopCallTimer_alarm (s : State) : (stopCallTimer s).alarm = s.alarm := rfl
@[simp] theorem stopCallTimer_report (s : State) : (stopCallTimer s).report = s.report := rfl
@[simp] theorem stopCallTimer_store (s : State) : (stopCallTimer s).store = s.store := rfl
@[simp] theorem stopCallTimer_supply (s : State) : (stopCallTimer s).supply = s.supply := rfl
@[simp] theorem stopCallTimer_ports (s : State) : (stopCallTimer s).ports = s.ports := rfl

/-! ### stopConnected -/

@[simp] theorem stopConnected_pending (s : State) : (stopConnected s).pending = s.pending := rfl
@[simp] theorem stopConnected_now (s : State) : (stopConnected s).now = s.now := rfl
@[simp] theorem stopConnected_freeCount (s : State) : (stopConnected s).freeCount = s.freeCount := rfl
@[simp] theorem stopConnected_cfg (s : State) : (stopConnected s).cfg = s.cfg := rfl
@[simp] theorem stopConnected_coin (s : State) : (stopConnected s).coin = s.coin := rfl
@[simp] theorem stopConnected_account (s : State) : (stopConnected s).account = s.account := rfl
@[simp] theorem stopConnected_analyser (s : State) : (stopConnected s).analyser = s.analyser := rfl
@[simp] theorem stopConnected_call (s : State) : (stopConnected s).call = { s.call with duration := connectedDuration s, connectedSince := none } := rfl
@[simp] theorem stopConnected_tariff (s : State) : (stopConnected s).tariff = s.tariff := rfl
@[simp] theorem stopConnected_line (s : State) : (stopConnected s).line = s.line := rfl
@[simp] theorem stopConnected_alarm (s : State) : (stopConnected s).alarm = s.alarm := rfl
@[simp] theorem stopConnected_report (s : State) : (stopConnected s).report = s.report := rfl
@[simp] theorem stopConnected_store (s : State) : (stopConnected s).store = s.store := rfl
@[simp] theorem stopConnected_supply (s : State) : (stopConnected s).supply = s.supply := rfl
@[simp] theorem stopConnected_ports (s : State) : (stopConnected s).ports = s.ports := rfl

/-! ### markHangUp -/

@[simp] theorem markHangUp_pending (s : State) : (markHangUp s).pending = s.pending := rfl
@[simp] theorem markHangUp_now (s : State) : (markHangUp s).now = s.now := rfl
@[simp] theorem markHangUp_freeCount (s : State) : (markHangUp s).freeCount = s.freeCount := rfl
@[simp] theorem markHangUp_cfg (s : State) : (markHangUp s).cfg = s.cfg := rfl
@[simp] theorem markHangUp_coin (s : State) : (markHangUp s).coin = s.coin := rfl
@[simp] theorem markHangUp_account (s : State) : (markHangUp s).account = s.account := rfl
@[simp] theorem markHangUp_analyser (s : State) : (markHangUp s).analyser = s.analyser := rfl
@[simp] theorem markHangUp_call (s : State) : (markHangUp s).call = { s.call with hangUp := true, followOn := false } := rfl
@[simp] theorem markHangUp_tariff (s : State) : (markHangUp s).tariff = s.tariff := rfl
@[simp] theorem markHangUp_line (s : State) : (markHangUp s).line = s.line := rfl
@[simp] theorem markHangUp_alarm (s : State) : (markHangUp s).alarm = s.alarm := rfl
@[simp] theorem markHangUp_report (s : State) : (markHangUp s).report = s.report := rfl
@[simp] theorem markHangUp_store (s : State) : (markHangUp s).store = s.store := rfl
@[simp] theorem markHangUp_supply (s : State) : (markHangUp s).supply = s.supply := rfl
@[simp] theorem markHangUp_ports (s : State) : (markHangUp s).ports = s.ports := rfl

/-! ### markFollowOn -/

@[simp] theorem markFollowOn_pending (s : State) : (markFollowOn s).pending = s.pending := rfl
@[simp] theorem markFollowOn_now (s : State) : (markFollowOn s).now = s.now := rfl
@[simp] theorem markFollowOn_freeCount (s : State) : (markFollowOn s).freeCount = s.freeCount := rfl
@[simp] theorem markFollowOn_cfg (s : State) : (markFollowOn s).cfg = s.cfg := rfl
@[simp] theorem markFollowOn_coin (s : State) : (markFollowOn s).coin = s.coin := rfl
@[simp] theorem markFollowOn_account (s : State) : (markFollowOn s).account = s.account := rfl
@[simp] theorem markFollowOn_analyser (s : State) : (markFollowOn s).analyser = s.analyser := rfl
@[simp] theorem markFollowOn_call (s : State) : (markFollowOn s).call = { s.call with followOn := true } := rfl
@[simp] theorem markFollowOn_tariff (s : State) : (markFollowOn s).tariff = s.tariff := rfl
@[simp] theorem markFollowOn_line (s : State) : (markFollowOn s).line = s.line := rfl
@[simp] theorem markFollowOn_alarm (s : State) : (markFollowOn s).alarm = s.alarm := rfl
@[simp] theorem markFollowOn_report (s : State) : (markFollowOn s).report = s.report := rfl
@[simp] theorem markFollowOn_store (s : State) : (markFollowOn s).store = s.store := rfl
@[simp] theorem markFollowOn_supply (s : State) : (markFollowOn s).supply = s.supply := rfl
@[simp] theorem markFollowOn_ports (s : State) : (markFollowOn s).ports = s.ports := rfl

/-! ### startAnalysis -/

@[simp] theorem startAnalysis_pending (s : State) : (startAnalysis s).pending = s.pending := rfl
@[simp] theorem startAnalysis_now (s : State) : (startAnalysis s).now = s.now := rfl
@[simp] theorem startAnalysis_freeCount (s : State) : (startAnalysis s).freeCount = s.freeCount := rfl
@[simp] theorem startAnalysis_cfg (s : State) : (startAnalysis s).cfg = s.cfg := rfl
@[simp] theorem startAnalysis_coin (s : State) : (startAnalysis s).coin = s.coin := rfl
@[simp] theorem startAnalysis_account (s : State) : (startAnalysis s).account = s.account := rfl
@[simp] theorem startAnalysis_analyser (s : State) : (startAnalysis s).analyser = { state := .awaitingFirst, timer := some (.firstDigit, s.now + Config.firstDigit) } := rfl
@[simp] theorem startAnalysis_call (s : State) : (startAnalysis s).call = s.call := rfl
@[simp] theorem startAnalysis_tariff (s : State) : (startAnalysis s).tariff = s.tariff := rfl
@[simp] theorem startAnalysis_line (s : State) : (startAnalysis s).line = s.line := rfl
@[simp] theorem startAnalysis_alarm (s : State) : (startAnalysis s).alarm = s.alarm := rfl
@[simp] theorem startAnalysis_report (s : State) : (startAnalysis s).report = s.report := rfl
@[simp] theorem startAnalysis_store (s : State) : (startAnalysis s).store = s.store := rfl
@[simp] theorem startAnalysis_supply (s : State) : (startAnalysis s).supply = s.supply := rfl
@[simp] theorem startAnalysis_ports (s : State) : (startAnalysis s).ports = s.ports := rfl

/-! ### awaitNext -/

@[simp] theorem awaitNext_pending (s : State) : (awaitNext s).pending = s.pending := rfl
@[simp] theorem awaitNext_now (s : State) : (awaitNext s).now = s.now := rfl
@[simp] theorem awaitNext_freeCount (s : State) : (awaitNext s).freeCount = s.freeCount := rfl
@[simp] theorem awaitNext_cfg (s : State) : (awaitNext s).cfg = s.cfg := rfl
@[simp] theorem awaitNext_coin (s : State) : (awaitNext s).coin = s.coin := rfl
@[simp] theorem awaitNext_account (s : State) : (awaitNext s).account = s.account := rfl
@[simp] theorem awaitNext_call (s : State) : (awaitNext s).call = s.call := rfl
@[simp] theorem awaitNext_tariff (s : State) : (awaitNext s).tariff = s.tariff := rfl
@[simp] theorem awaitNext_line (s : State) : (awaitNext s).line = s.line := rfl
@[simp] theorem awaitNext_alarm (s : State) : (awaitNext s).alarm = s.alarm := rfl
@[simp] theorem awaitNext_report (s : State) : (awaitNext s).report = s.report := rfl
@[simp] theorem awaitNext_store (s : State) : (awaitNext s).store = s.store := rfl
@[simp] theorem awaitNext_supply (s : State) : (awaitNext s).supply = s.supply := rfl
@[simp] theorem awaitNext_ports (s : State) : (awaitNext s).ports = s.ports := rfl

/-! ### releaseGate -/

@[simp] theorem releaseGate_pending (s : State) : (releaseGate s).pending = s.pending := rfl
@[simp] theorem releaseGate_now (s : State) : (releaseGate s).now = s.now := rfl
@[simp] theorem releaseGate_freeCount (s : State) : (releaseGate s).freeCount = s.freeCount := rfl
@[simp] theorem releaseGate_cfg (s : State) : (releaseGate s).cfg = s.cfg := rfl
@[simp] theorem releaseGate_coin (s : State) : (releaseGate s).coin = { s.coin with gateOp := none, escrow := s.coin.escrow.tail } := rfl
@[simp] theorem releaseGate_account (s : State) : (releaseGate s).account = s.account := rfl
@[simp] theorem releaseGate_analyser (s : State) : (releaseGate s).analyser = s.analyser := rfl
@[simp] theorem releaseGate_call (s : State) : (releaseGate s).call = s.call := rfl
@[simp] theorem releaseGate_tariff (s : State) : (releaseGate s).tariff = s.tariff := rfl
@[simp] theorem releaseGate_line (s : State) : (releaseGate s).line = s.line := rfl
@[simp] theorem releaseGate_alarm (s : State) : (releaseGate s).alarm = s.alarm := rfl
@[simp] theorem releaseGate_report (s : State) : (releaseGate s).report = s.report := rfl
@[simp] theorem releaseGate_store (s : State) : (releaseGate s).store = s.store := rfl
@[simp] theorem releaseGate_supply (s : State) : (releaseGate s).supply = s.supply := rfl
@[simp] theorem releaseGate_ports (s : State) : (releaseGate s).ports = s.ports := rfl

/-! ### driveGate -/

@[simp] theorem driveGate_pending (m : Motion) (s : State) : (driveGate m s).pending = s.pending := rfl
@[simp] theorem driveGate_now (m : Motion) (s : State) : (driveGate m s).now = s.now := rfl
@[simp] theorem driveGate_freeCount (m : Motion) (s : State) : (driveGate m s).freeCount = s.freeCount := rfl
@[simp] theorem driveGate_cfg (m : Motion) (s : State) : (driveGate m s).cfg = s.cfg := rfl
@[simp] theorem driveGate_account (m : Motion) (s : State) : (driveGate m s).account = s.account := rfl
@[simp] theorem driveGate_analyser (m : Motion) (s : State) : (driveGate m s).analyser = s.analyser := rfl
@[simp] theorem driveGate_call (m : Motion) (s : State) : (driveGate m s).call = s.call := rfl
@[simp] theorem driveGate_tariff (m : Motion) (s : State) : (driveGate m s).tariff = s.tariff := rfl
@[simp] theorem driveGate_line (m : Motion) (s : State) : (driveGate m s).line = s.line := rfl
@[simp] theorem driveGate_alarm (m : Motion) (s : State) : (driveGate m s).alarm = s.alarm := rfl
@[simp] theorem driveGate_report (m : Motion) (s : State) : (driveGate m s).report = s.report := rfl
@[simp] theorem driveGate_store (m : Motion) (s : State) : (driveGate m s).store = s.store := rfl
@[simp] theorem driveGate_supply (m : Motion) (s : State) : (driveGate m s).supply = s.supply := rfl
@[simp] theorem driveGate_ports (m : Motion) (s : State) : (driveGate m s).ports = s.ports := rfl

/-! ### startFlight -/

@[simp] theorem startFlight_pending (k : Nat) (s : State) : (startFlight k s).pending = s.pending := rfl
@[simp] theorem startFlight_now (k : Nat) (s : State) : (startFlight k s).now = s.now := rfl
@[simp] theorem startFlight_freeCount (k : Nat) (s : State) : (startFlight k s).freeCount = s.freeCount := rfl
@[simp] theorem startFlight_cfg (k : Nat) (s : State) : (startFlight k s).cfg = s.cfg := rfl
@[simp] theorem startFlight_account (k : Nat) (s : State) : (startFlight k s).account = s.account := rfl
@[simp] theorem startFlight_analyser (k : Nat) (s : State) : (startFlight k s).analyser = s.analyser := rfl
@[simp] theorem startFlight_call (k : Nat) (s : State) : (startFlight k s).call = s.call := rfl
@[simp] theorem startFlight_tariff (k : Nat) (s : State) : (startFlight k s).tariff = s.tariff := rfl
@[simp] theorem startFlight_line (k : Nat) (s : State) : (startFlight k s).line = s.line := rfl
@[simp] theorem startFlight_alarm (k : Nat) (s : State) : (startFlight k s).alarm = s.alarm := rfl
@[simp] theorem startFlight_report (k : Nat) (s : State) : (startFlight k s).report = s.report := rfl
@[simp] theorem startFlight_store (k : Nat) (s : State) : (startFlight k s).store = s.store := rfl
@[simp] theorem startFlight_supply (k : Nat) (s : State) : (startFlight k s).supply = s.supply := rfl
@[simp] theorem startFlight_ports (k : Nat) (s : State) : (startFlight k s).ports = s.ports := rfl

/-! ### updatePort -/

@[simp] theorem updatePort_pending (p : Port) (f : PortState → PortState) (s : State) : (updatePort p f s).pending = s.pending := rfl
@[simp] theorem updatePort_now (p : Port) (f : PortState → PortState) (s : State) : (updatePort p f s).now = s.now := rfl
@[simp] theorem updatePort_freeCount (p : Port) (f : PortState → PortState) (s : State) : (updatePort p f s).freeCount = s.freeCount := rfl
@[simp] theorem updatePort_cfg (p : Port) (f : PortState → PortState) (s : State) : (updatePort p f s).cfg = s.cfg := rfl
@[simp] theorem updatePort_coin (p : Port) (f : PortState → PortState) (s : State) : (updatePort p f s).coin = s.coin := rfl
@[simp] theorem updatePort_account (p : Port) (f : PortState → PortState) (s : State) : (updatePort p f s).account = s.account := rfl
@[simp] theorem updatePort_analyser (p : Port) (f : PortState → PortState) (s : State) : (updatePort p f s).analyser = s.analyser := rfl
@[simp] theorem updatePort_call (p : Port) (f : PortState → PortState) (s : State) : (updatePort p f s).call = s.call := rfl
@[simp] theorem updatePort_tariff (p : Port) (f : PortState → PortState) (s : State) : (updatePort p f s).tariff = s.tariff := rfl
@[simp] theorem updatePort_line (p : Port) (f : PortState → PortState) (s : State) : (updatePort p f s).line = s.line := rfl
@[simp] theorem updatePort_alarm (p : Port) (f : PortState → PortState) (s : State) : (updatePort p f s).alarm = s.alarm := rfl
@[simp] theorem updatePort_report (p : Port) (f : PortState → PortState) (s : State) : (updatePort p f s).report = s.report := rfl
@[simp] theorem updatePort_store (p : Port) (f : PortState → PortState) (s : State) : (updatePort p f s).store = s.store := rfl
@[simp] theorem updatePort_supply (p : Port) (f : PortState → PortState) (s : State) : (updatePort p f s).supply = s.supply := rfl
@[simp] theorem updatePort_ports (p : Port) (f : PortState → PortState) (s : State) : (updatePort p f s).ports = setPort p (f (portOf s.ports p)) s.ports := rfl

/-! ### answerPort -/

@[simp] theorem answerPort_pending (p : Port) (r : Reply) (s : State) : (answerPort p r s).pending = s.pending := rfl
@[simp] theorem answerPort_now (p : Port) (r : Reply) (s : State) : (answerPort p r s).now = s.now := rfl
@[simp] theorem answerPort_freeCount (p : Port) (r : Reply) (s : State) : (answerPort p r s).freeCount = s.freeCount := rfl
@[simp] theorem answerPort_cfg (p : Port) (r : Reply) (s : State) : (answerPort p r s).cfg = s.cfg := rfl
@[simp] theorem answerPort_coin (p : Port) (r : Reply) (s : State) : (answerPort p r s).coin = s.coin := rfl
@[simp] theorem answerPort_account (p : Port) (r : Reply) (s : State) : (answerPort p r s).account = s.account := rfl
@[simp] theorem answerPort_analyser (p : Port) (r : Reply) (s : State) : (answerPort p r s).analyser = s.analyser := rfl
@[simp] theorem answerPort_call (p : Port) (r : Reply) (s : State) : (answerPort p r s).call = s.call := rfl
@[simp] theorem answerPort_tariff (p : Port) (r : Reply) (s : State) : (answerPort p r s).tariff = s.tariff := rfl
@[simp] theorem answerPort_line (p : Port) (r : Reply) (s : State) : (answerPort p r s).line = s.line := rfl
@[simp] theorem answerPort_alarm (p : Port) (r : Reply) (s : State) : (answerPort p r s).alarm = s.alarm := rfl
@[simp] theorem answerPort_report (p : Port) (r : Reply) (s : State) : (answerPort p r s).report = s.report := rfl
@[simp] theorem answerPort_store (p : Port) (r : Reply) (s : State) : (answerPort p r s).store = s.store := rfl
@[simp] theorem answerPort_supply (p : Port) (r : Reply) (s : State) : (answerPort p r s).supply = s.supply := rfl

/-! ### tick -/

@[simp] theorem tick_pending (s : State) : (tick s).pending = s.pending := rfl
@[simp] theorem tick_now (s : State) : (tick s).now = s.now + 1 := rfl
@[simp] theorem tick_freeCount (s : State) : (tick s).freeCount = s.freeCount := rfl
@[simp] theorem tick_cfg (s : State) : (tick s).cfg = s.cfg := rfl
@[simp] theorem tick_coin (s : State) : (tick s).coin = s.coin := rfl
@[simp] theorem tick_account (s : State) : (tick s).account = s.account := rfl
@[simp] theorem tick_analyser (s : State) : (tick s).analyser = s.analyser := rfl
@[simp] theorem tick_call (s : State) : (tick s).call = s.call := rfl
@[simp] theorem tick_line (s : State) : (tick s).line = s.line := rfl
@[simp] theorem tick_alarm (s : State) : (tick s).alarm = s.alarm := rfl
@[simp] theorem tick_report (s : State) : (tick s).report = s.report := rfl
@[simp] theorem tick_store (s : State) : (tick s).store = s.store := rfl
@[simp] theorem tick_supply (s : State) : (tick s).supply = s.supply := rfl
@[simp] theorem tick_ports (s : State) : (tick s).ports = s.ports := rfl

/-! ### Ports -/

theorem portOf_setPort_self (p : Port) (v : PortState) (ps : Ports) : portOf (setPort p v ps) p = v := by
  cases p <;> rfl

theorem portOf_setPort_other {p q : Port} (h : q ≠ p) (v : PortState) (ps : Ports) :
    portOf (setPort p v ps) q = portOf ps q := by
  cases p <;> cases q <;> first | rfl | exact absurd rfl h

theorem setPort_setPort (p : Port) (v w : PortState) (ps : Ports) : setPort p v (setPort p w ps) = setPort p v ps := by
  cases p <;> rfl

theorem setPort_portOf (p : Port) (ps : Ports) : setPort p (portOf ps p) ps = ps := by
  cases p <;> rfl

/-! ### Rings -/

theorem ringOf_setRing_self (r : Ring) (v : RingState) (st : Store) : ringOf (setRing r v st) r = v := by
  cases r <;> rfl

@[simp] theorem setRing_array (r : Ring) (v : RingState) (st : Store) : (setRing r v st).array = st.array := by
  cases r <;> rfl

@[simp] theorem setRing_queue (r : Ring) (v : RingState) (st : Store) : (setRing r v st).queue = st.queue := by
  cases r <;> rfl

end Sys2Proof.Laws
end

