-- ==== Sys2Proof/Laws/Ops.lean ====
section
/-! SUPPORT. What each shared operation can do: the parts of the state it leaves as they are, and what notices do to
the queues. -/

namespace Sys2Proof.Laws

open Sys2Proof Sys2Proof.Machine

/-! ### offerAll -/

@[simp] theorem offerAll_pending (k : NoticeKind) (fs : List (List Byte)) (s : State) : (offerAll k fs s).pending = s.pending := by unfold offerAll; simp only; split <;> rfl
@[simp] theorem offerAll_now (k : NoticeKind) (fs : List (List Byte)) (s : State) : (offerAll k fs s).now = s.now := by unfold offerAll; simp only; split <;> rfl
@[simp] theorem offerAll_freeCount (k : NoticeKind) (fs : List (List Byte)) (s : State) : (offerAll k fs s).freeCount = s.freeCount := by unfold offerAll; simp only; split <;> rfl
@[simp] theorem offerAll_cfg (k : NoticeKind) (fs : List (List Byte)) (s : State) : (offerAll k fs s).cfg = s.cfg := by unfold offerAll; simp only; split <;> rfl
@[simp] theorem offerAll_coin (k : NoticeKind) (fs : List (List Byte)) (s : State) : (offerAll k fs s).coin = s.coin := by unfold offerAll; simp only; split <;> rfl
@[simp] theorem offerAll_account (k : NoticeKind) (fs : List (List Byte)) (s : State) : (offerAll k fs s).account = s.account := by unfold offerAll; simp only; split <;> rfl
@[simp] theorem offerAll_analyser (k : NoticeKind) (fs : List (List Byte)) (s : State) : (offerAll k fs s).analyser = s.analyser := by unfold offerAll; simp only; split <;> rfl
@[simp] theorem offerAll_call (k : NoticeKind) (fs : List (List Byte)) (s : State) : (offerAll k fs s).call = s.call := by unfold offerAll; simp only; split <;> rfl
@[simp] theorem offerAll_tariff (k : NoticeKind) (fs : List (List Byte)) (s : State) : (offerAll k fs s).tariff = s.tariff := by unfold offerAll; simp only; split <;> rfl
@[simp] theorem offerAll_line (k : NoticeKind) (fs : List (List Byte)) (s : State) : (offerAll k fs s).line = s.line := by unfold offerAll; simp only; split <;> rfl
@[simp] theorem offerAll_alarm (k : NoticeKind) (fs : List (List Byte)) (s : State) : (offerAll k fs s).alarm = s.alarm := by unfold offerAll; simp only; split <;> rfl
@[simp] theorem offerAll_report (k : NoticeKind) (fs : List (List Byte)) (s : State) : (offerAll k fs s).report = s.report := by unfold offerAll; simp only; split <;> rfl
@[simp] theorem offerAll_store (k : NoticeKind) (fs : List (List Byte)) (s : State) : (offerAll k fs s).store = s.store := by unfold offerAll; simp only; split <;> rfl
@[simp] theorem offerAll_supply (k : NoticeKind) (fs : List (List Byte)) (s : State) : (offerAll k fs s).supply = s.supply := by unfold offerAll; simp only; split <;> rfl

/-! ### postNotice -/

@[simp] theorem postNotice_pending (k : NoticeKind) (fs : List Byte) (s : State) : (postNotice k fs s).pending = s.pending := by simp [postNotice]
@[simp] theorem postNotice_now (k : NoticeKind) (fs : List Byte) (s : State) : (postNotice k fs s).now = s.now := by simp [postNotice]
@[simp] theorem postNotice_freeCount (k : NoticeKind) (fs : List Byte) (s : State) : (postNotice k fs s).freeCount = s.freeCount := by simp [postNotice]
@[simp] theorem postNotice_cfg (k : NoticeKind) (fs : List Byte) (s : State) : (postNotice k fs s).cfg = s.cfg := by simp [postNotice]
@[simp] theorem postNotice_coin (k : NoticeKind) (fs : List Byte) (s : State) : (postNotice k fs s).coin = s.coin := by simp [postNotice]
@[simp] theorem postNotice_account (k : NoticeKind) (fs : List Byte) (s : State) : (postNotice k fs s).account = s.account := by simp [postNotice]
@[simp] theorem postNotice_analyser (k : NoticeKind) (fs : List Byte) (s : State) : (postNotice k fs s).analyser = s.analyser := by simp [postNotice]
@[simp] theorem postNotice_call (k : NoticeKind) (fs : List Byte) (s : State) : (postNotice k fs s).call = s.call := by simp [postNotice]
@[simp] theorem postNotice_tariff (k : NoticeKind) (fs : List Byte) (s : State) : (postNotice k fs s).tariff = s.tariff := by simp [postNotice]
@[simp] theorem postNotice_line (k : NoticeKind) (fs : List Byte) (s : State) : (postNotice k fs s).line = s.line := by simp [postNotice]
@[simp] theorem postNotice_alarm (k : NoticeKind) (fs : List Byte) (s : State) : (postNotice k fs s).alarm = s.alarm := by simp [postNotice]
@[simp] theorem postNotice_report (k : NoticeKind) (fs : List Byte) (s : State) : (postNotice k fs s).report = s.report := by simp [postNotice]
@[simp] theorem postNotice_store (k : NoticeKind) (fs : List Byte) (s : State) : (postNotice k fs s).store = s.store := by simp [postNotice]
@[simp] theorem postNotice_supply (k : NoticeKind) (fs : List Byte) (s : State) : (postNotice k fs s).supply = s.supply := by simp [postNotice]

/-! ### setOwner -/

@[simp] theorem setOwner_pending (o : Owner) (s : State) : (setOwner o s).pending = s.pending := by unfold setOwner; split <;> simp
@[simp] theorem setOwner_now (o : Owner) (s : State) : (setOwner o s).now = s.now := by unfold setOwner; split <;> simp
@[simp] theorem setOwner_freeCount (o : Owner) (s : State) : (setOwner o s).freeCount = s.freeCount := by unfold setOwner; split <;> simp
@[simp] theorem setOwner_cfg (o : Owner) (s : State) : (setOwner o s).cfg = s.cfg := by unfold setOwner; split <;> simp
@[simp] theorem setOwner_coin (o : Owner) (s : State) : (setOwner o s).coin = s.coin := by unfold setOwner; split <;> simp
@[simp] theorem setOwner_account (o : Owner) (s : State) : (setOwner o s).account = s.account := by unfold setOwner; split <;> simp
@[simp] theorem setOwner_analyser (o : Owner) (s : State) : (setOwner o s).analyser = s.analyser := by unfold setOwner; split <;> simp
@[simp] theorem setOwner_call (o : Owner) (s : State) : (setOwner o s).call = s.call := by unfold setOwner; split <;> simp
@[simp] theorem setOwner_tariff (o : Owner) (s : State) : (setOwner o s).tariff = s.tariff := by unfold setOwner; split <;> simp
@[simp] theorem setOwner_alarm (o : Owner) (s : State) : (setOwner o s).alarm = s.alarm := by unfold setOwner; split <;> simp
@[simp] theorem setOwner_report (o : Owner) (s : State) : (setOwner o s).report = s.report := by unfold setOwner; split <;> simp
@[simp] theorem setOwner_store (o : Owner) (s : State) : (setOwner o s).store = s.store := by unfold setOwner; split <;> simp
@[simp] theorem setOwner_supply (o : Owner) (s : State) : (setOwner o s).supply = s.supply := by unfold setOwner; split <;> simp

/-! ### postOrder -/

@[simp] theorem postOrder_pending (o : Owner) (b : OrderBody) (s : State) : (postOrder o b s).pending = s.pending := by unfold postOrder; split <;> (try split) <;> rfl
@[simp] theorem postOrder_now (o : Owner) (b : OrderBody) (s : State) : (postOrder o b s).now = s.now := by unfold postOrder; split <;> (try split) <;> rfl
@[simp] theorem postOrder_freeCount (o : Owner) (b : OrderBody) (s : State) : (postOrder o b s).freeCount = s.freeCount := by unfold postOrder; split <;> (try split) <;> rfl
@[simp] theorem postOrder_cfg (o : Owner) (b : OrderBody) (s : State) : (postOrder o b s).cfg = s.cfg := by unfold postOrder; split <;> (try split) <;> rfl
@[simp] theorem postOrder_coin (o : Owner) (b : OrderBody) (s : State) : (postOrder o b s).coin = s.coin := by unfold postOrder; split <;> (try split) <;> rfl
@[simp] theorem postOrder_account (o : Owner) (b : OrderBody) (s : State) : (postOrder o b s).account = s.account := by unfold postOrder; split <;> (try split) <;> rfl
@[simp] theorem postOrder_analyser (o : Owner) (b : OrderBody) (s : State) : (postOrder o b s).analyser = s.analyser := by unfold postOrder; split <;> (try split) <;> rfl
@[simp] theorem postOrder_call (o : Owner) (b : OrderBody) (s : State) : (postOrder o b s).call = s.call := by unfold postOrder; split <;> (try split) <;> rfl
@[simp] theorem postOrder_tariff (o : Owner) (b : OrderBody) (s : State) : (postOrder o b s).tariff = s.tariff := by unfold postOrder; split <;> (try split) <;> rfl
@[simp] theorem postOrder_alarm (o : Owner) (b : OrderBody) (s : State) : (postOrder o b s).alarm = s.alarm := by unfold postOrder; split <;> (try split) <;> rfl
@[simp] theorem postOrder_report (o : Owner) (b : OrderBody) (s : State) : (postOrder o b s).report = s.report := by unfold postOrder; split <;> (try split) <;> rfl
@[simp] theorem postOrder_store (o : Owner) (b : OrderBody) (s : State) : (postOrder o b s).store = s.store := by unfold postOrder; split <;> (try split) <;> rfl
@[simp] theorem postOrder_supply (o : Owner) (b : OrderBody) (s : State) : (postOrder o b s).supply = s.supply := by unfold postOrder; split <;> (try split) <;> rfl
@[simp] theorem postOrder_ports (o : Owner) (b : OrderBody) (s : State) : (postOrder o b s).ports = s.ports := by unfold postOrder; split <;> (try split) <;> rfl

/-! ### freeLine -/

@[simp] theorem freeLine_pending (s : State) : (freeLine s).pending = s.pending := by simp [freeLine]
@[simp] theorem freeLine_now (s : State) : (freeLine s).now = s.now := by simp [freeLine]
@[simp] theorem freeLine_freeCount (s : State) : (freeLine s).freeCount = s.freeCount := by simp [freeLine]
@[simp] theorem freeLine_cfg (s : State) : (freeLine s).cfg = s.cfg := by simp [freeLine]
@[simp] theorem freeLine_coin (s : State) : (freeLine s).coin = s.coin := by simp [freeLine]
@[simp] theorem freeLine_account (s : State) : (freeLine s).account = s.account := by simp [freeLine]
@[simp] theorem freeLine_analyser (s : State) : (freeLine s).analyser = s.analyser := by simp [freeLine]
@[simp] theorem freeLine_call (s : State) : (freeLine s).call = s.call := by simp [freeLine]
@[simp] theorem freeLine_tariff (s : State) : (freeLine s).tariff = s.tariff := by simp [freeLine]
@[simp] theorem freeLine_alarm (s : State) : (freeLine s).alarm = s.alarm := by simp [freeLine]
@[simp] theorem freeLine_report (s : State) : (freeLine s).report = s.report := by simp [freeLine]
@[simp] theorem freeLine_store (s : State) : (freeLine s).store = s.store := by simp [freeLine]
@[simp] theorem freeLine_supply (s : State) : (freeLine s).supply = s.supply := by simp [freeLine]

/-! ### setCallState -/

@[simp] theorem setCallState_pending (x : CallState) (s : State) : (setCallState x s).pending = s.pending := by unfold setCallState; simp only; split <;> simp
@[simp] theorem setCallState_now (x : CallState) (s : State) : (setCallState x s).now = s.now := by unfold setCallState; simp only; split <;> simp
@[simp] theorem setCallState_freeCount (x : CallState) (s : State) : (setCallState x s).freeCount = s.freeCount := by unfold setCallState; simp only; split <;> simp
@[simp] theorem setCallState_cfg (x : CallState) (s : State) : (setCallState x s).cfg = s.cfg := by unfold setCallState; simp only; split <;> simp
@[simp] theorem setCallState_coin (x : CallState) (s : State) : (setCallState x s).coin = s.coin := by unfold setCallState; simp only; split <;> simp
@[simp] theorem setCallState_account (x : CallState) (s : State) : (setCallState x s).account = s.account := by unfold setCallState; simp only; split <;> simp
@[simp] theorem setCallState_analyser (x : CallState) (s : State) : (setCallState x s).analyser = s.analyser := by unfold setCallState; simp only; split <;> simp
@[simp] theorem setCallState_tariff (x : CallState) (s : State) : (setCallState x s).tariff = s.tariff := by unfold setCallState; simp only; split <;> simp
@[simp] theorem setCallState_line (x : CallState) (s : State) : (setCallState x s).line = s.line := by unfold setCallState; simp only; split <;> simp
@[simp] theorem setCallState_alarm (x : CallState) (s : State) : (setCallState x s).alarm = s.alarm := by unfold setCallState; simp only; split <;> simp
@[simp] theorem setCallState_report (x : CallState) (s : State) : (setCallState x s).report = s.report := by unfold setCallState; simp only; split <;> simp
@[simp] theorem setCallState_store (x : CallState) (s : State) : (setCallState x s).store = s.store := by unfold setCallState; simp only; split <;> simp
@[simp] theorem setCallState_supply (x : CallState) (s : State) : (setCallState x s).supply = s.supply := by unfold setCallState; simp only; split <;> simp

/-! ### fixOutcome -/

@[simp] theorem fixOutcome_pending (o : CallOutcome) (r : Option Reason) (s : State) : (fixOutcome o r s).pending = s.pending := by unfold fixOutcome; split <;> rfl
@[simp] theorem fixOutcome_now (o : CallOutcome) (r : Option Reason) (s : State) : (fixOutcome o r s).now = s.now := by unfold fixOutcome; split <;> rfl
@[simp] theorem fixOutcome_freeCount (o : CallOutcome) (r : Option Reason) (s : State) : (fixOutcome o r s).freeCount = s.freeCount := by unfold fixOutcome; split <;> rfl
@[simp] theorem fixOutcome_cfg (o : CallOutcome) (r : Option Reason) (s : State) : (fixOutcome o r s).cfg = s.cfg := by unfold fixOutcome; split <;> rfl
@[simp] theorem fixOutcome_coin (o : CallOutcome) (r : Option Reason) (s : State) : (fixOutcome o r s).coin = s.coin := by unfold fixOutcome; split <;> rfl
@[simp] theorem fixOutcome_account (o : CallOutcome) (r : Option Reason) (s : State) : (fixOutcome o r s).account = s.account := by unfold fixOutcome; split <;> rfl
@[simp] theorem fixOutcome_analyser (o : CallOutcome) (r : Option Reason) (s : State) : (fixOutcome o r s).analyser = s.analyser := by unfold fixOutcome; split <;> rfl
@[simp] theorem fixOutcome_tariff (o : CallOutcome) (r : Option Reason) (s : State) : (fixOutcome o r s).tariff = s.tariff := by unfold fixOutcome; split <;> rfl
@[simp] theorem fixOutcome_line (o : CallOutcome) (r : Option Reason) (s : State) : (fixOutcome o r s).line = s.line := by unfold fixOutcome; split <;> rfl
@[simp] theorem fixOutcome_alarm (o : CallOutcome) (r : Option Reason) (s : State) : (fixOutcome o r s).alarm = s.alarm := by unfold fixOutcome; split <;> rfl
@[simp] theorem fixOutcome_report (o : CallOutcome) (r : Option Reason) (s : State) : (fixOutcome o r s).report = s.report := by unfold fixOutcome; split <;> rfl
@[simp] theorem fixOutcome_store (o : CallOutcome) (r : Option Reason) (s : State) : (fixOutcome o r s).store = s.store := by unfold fixOutcome; split <;> rfl
@[simp] theorem fixOutcome_supply (o : CallOutcome) (r : Option Reason) (s : State) : (fixOutcome o r s).supply = s.supply := by unfold fixOutcome; split <;> rfl
@[simp] theorem fixOutcome_ports (o : CallOutcome) (r : Option Reason) (s : State) : (fixOutcome o r s).ports = s.ports := by unfold fixOutcome; split <;> rfl

/-! ### stopMetering -/

@[simp] theorem stopMetering_pending (s : State) : (stopMetering s).pending = s.pending := by unfold stopMetering; split <;> rfl
@[simp] theorem stopMetering_now (s : State) : (stopMetering s).now = s.now := by unfold stopMetering; split <;> rfl
@[simp] theorem stopMetering_freeCount (s : State) : (stopMetering s).freeCount = s.freeCount := by unfold stopMetering; split <;> rfl
@[simp] theorem stopMetering_cfg (s : State) : (stopMetering s).cfg = s.cfg := by unfold stopMetering; split <;> rfl
@[simp] theorem stopMetering_coin (s : State) : (stopMetering s).coin = s.coin := by unfold stopMetering; split <;> rfl
@[simp] theorem stopMetering_account (s : State) : (stopMetering s).account = s.account := by unfold stopMetering; split <;> rfl
@[simp] theorem stopMetering_analyser (s : State) : (stopMetering s).analyser = s.analyser := by unfold stopMetering; split <;> rfl
@[simp] theorem stopMetering_line (s : State) : (stopMetering s).line = s.line := by unfold stopMetering; split <;> rfl
@[simp] theorem stopMetering_alarm (s : State) : (stopMetering s).alarm = s.alarm := by unfold stopMetering; split <;> rfl
@[simp] theorem stopMetering_report (s : State) : (stopMetering s).report = s.report := by unfold stopMetering; split <;> rfl
@[simp] theorem stopMetering_store (s : State) : (stopMetering s).store = s.store := by unfold stopMetering; split <;> rfl
@[simp] theorem stopMetering_supply (s : State) : (stopMetering s).supply = s.supply := by unfold stopMetering; split <;> rfl
@[simp] theorem stopMetering_ports (s : State) : (stopMetering s).ports = s.ports := by unfold stopMetering; split <;> rfl

/-! ### stopAnalysis -/

@[simp] theorem stopAnalysis_pending (s : State) : (stopAnalysis s).pending = s.pending := by unfold stopAnalysis; split <;> rfl
@[simp] theorem stopAnalysis_now (s : State) : (stopAnalysis s).now = s.now := by unfold stopAnalysis; split <;> rfl
@[simp] theorem stopAnalysis_freeCount (s : State) : (stopAnalysis s).freeCount = s.freeCount := by unfold stopAnalysis; split <;> rfl
@[simp] theorem stopAnalysis_cfg (s : State) : (stopAnalysis s).cfg = s.cfg := by unfold stopAnalysis; split <;> rfl
@[simp] theorem stopAnalysis_coin (s : State) : (stopAnalysis s).coin = s.coin := by unfold stopAnalysis; split <;> rfl
@[simp] theorem stopAnalysis_account (s : State) : (stopAnalysis s).account = s.account := by unfold stopAnalysis; split <;> rfl
@[simp] theorem stopAnalysis_call (s : State) : (stopAnalysis s).call = s.call := by unfold stopAnalysis; split <;> rfl
@[simp] theorem stopAnalysis_tariff (s : State) : (stopAnalysis s).tariff = s.tariff := by unfold stopAnalysis; split <;> rfl
@[simp] theorem stopAnalysis_line (s : State) : (stopAnalysis s).line = s.line := by unfold stopAnalysis; split <;> rfl
@[simp] theorem stopAnalysis_alarm (s : State) : (stopAnalysis s).alarm = s.alarm := by unfold stopAnalysis; split <;> rfl
@[simp] theorem stopAnalysis_report (s : State) : (stopAnalysis s).report = s.report := by unfold stopAnalysis; split <;> rfl
@[simp] theorem stopAnalysis_store (s : State) : (stopAnalysis s).store = s.store := by unfold stopAnalysis; split <;> rfl
@[simp] theorem stopAnalysis_supply (s : State) : (stopAnalysis s).supply = s.supply := by unfold stopAnalysis; split <;> rfl
@[simp] theorem stopAnalysis_ports (s : State) : (stopAnalysis s).ports = s.ports := by unfold stopAnalysis; split <;> rfl

/-! ### deriveService -/

@[simp] theorem deriveService_pending (s : State) : (deriveService s).pending = s.pending := by unfold deriveService; split <;> simp
@[simp] theorem deriveService_now (s : State) : (deriveService s).now = s.now := by unfold deriveService; split <;> simp
@[simp] theorem deriveService_cfg (s : State) : (deriveService s).cfg = s.cfg := by unfold deriveService; split <;> simp
@[simp] theorem deriveService_coin (s : State) : (deriveService s).coin = s.coin := by unfold deriveService; split <;> simp
@[simp] theorem deriveService_account (s : State) : (deriveService s).account = s.account := by unfold deriveService; split <;> simp
@[simp] theorem deriveService_analyser (s : State) : (deriveService s).analyser = s.analyser := by unfold deriveService; split <;> simp
@[simp] theorem deriveService_call (s : State) : (deriveService s).call = s.call := by unfold deriveService; split <;> simp
@[simp] theorem deriveService_tariff (s : State) : (deriveService s).tariff = s.tariff := by unfold deriveService; split <;> simp
@[simp] theorem deriveService_line (s : State) : (deriveService s).line = s.line := by unfold deriveService; split <;> simp
@[simp] theorem deriveService_report (s : State) : (deriveService s).report = s.report := by unfold deriveService; split <;> simp
@[simp] theorem deriveService_store (s : State) : (deriveService s).store = s.store := by unfold deriveService; split <;> simp
@[simp] theorem deriveService_supply (s : State) : (deriveService s).supply = s.supply := by unfold deriveService; split <;> simp

/-! ### postUnset -/

@[simp] theorem postUnset_pending (s : State) : (postUnset s).pending = s.pending := by
  unfold postUnset; simp only; (repeat' split) <;> simp
@[simp] theorem postUnset_now (s : State) : (postUnset s).now = s.now := by
  unfold postUnset; simp only; (repeat' split) <;> simp
@[simp] theorem postUnset_freeCount (s : State) : (postUnset s).freeCount = s.freeCount := by
  unfold postUnset; simp only; (repeat' split) <;> simp
@[simp] theorem postUnset_cfg (s : State) : (postUnset s).cfg = s.cfg := by
  unfold postUnset; simp only; (repeat' split) <;> simp
@[simp] theorem postUnset_coin (s : State) : (postUnset s).coin = s.coin := by
  unfold postUnset; simp only; (repeat' split) <;> simp
@[simp] theorem postUnset_account (s : State) : (postUnset s).account = s.account := by
  unfold postUnset; simp only; (repeat' split) <;> simp
@[simp] theorem postUnset_analyser (s : State) : (postUnset s).analyser = s.analyser := by
  unfold postUnset; simp only; (repeat' split) <;> simp
@[simp] theorem postUnset_call (s : State) : (postUnset s).call = s.call := by
  unfold postUnset; simp only; (repeat' split) <;> simp
@[simp] theorem postUnset_tariff (s : State) : (postUnset s).tariff = s.tariff := by
  unfold postUnset; simp only; (repeat' split) <;> simp
@[simp] theorem postUnset_line (s : State) : (postUnset s).line = s.line := by
  unfold postUnset; simp only; (repeat' split) <;> simp
@[simp] theorem postUnset_alarm (s : State) : (postUnset s).alarm = s.alarm := by
  unfold postUnset; simp only; (repeat' split) <;> simp
@[simp] theorem postUnset_store (s : State) : (postUnset s).store = s.store := by
  unfold postUnset; simp only; (repeat' split) <;> simp
@[simp] theorem postUnset_supply (s : State) : (postUnset s).supply = s.supply := by
  unfold postUnset; simp only; (repeat' split) <;> simp

/-! ### endCentreSession -/

@[simp] theorem endCentreSession_pending (c : CentreCause) (s : State) : (endCentreSession c s).pending = s.pending := by simp [endCentreSession]
@[simp] theorem endCentreSession_now (c : CentreCause) (s : State) : (endCentreSession c s).now = s.now := by simp [endCentreSession]
@[simp] theorem endCentreSession_freeCount (c : CentreCause) (s : State) : (endCentreSession c s).freeCount = s.freeCount := by simp [endCentreSession]
@[simp] theorem endCentreSession_cfg (c : CentreCause) (s : State) : (endCentreSession c s).cfg = s.cfg := by simp [endCentreSession]
@[simp] theorem endCentreSession_coin (c : CentreCause) (s : State) : (endCentreSession c s).coin = s.coin := by simp [endCentreSession]
@[simp] theorem endCentreSession_account (c : CentreCause) (s : State) : (endCentreSession c s).account = s.account := by simp [endCentreSession]
@[simp] theorem endCentreSession_analyser (c : CentreCause) (s : State) : (endCentreSession c s).analyser = s.analyser := by simp [endCentreSession]
@[simp] theorem endCentreSession_call (c : CentreCause) (s : State) : (endCentreSession c s).call = s.call := by simp [endCentreSession]
@[simp] theorem endCentreSession_tariff (c : CentreCause) (s : State) : (endCentreSession c s).tariff = s.tariff := by simp [endCentreSession]
@[simp] theorem endCentreSession_alarm (c : CentreCause) (s : State) : (endCentreSession c s).alarm = s.alarm := by simp [endCentreSession]
@[simp] theorem endCentreSession_report (c : CentreCause) (s : State) : (endCentreSession c s).report = s.report := by simp [endCentreSession]
@[simp] theorem endCentreSession_store (c : CentreCause) (s : State) : (endCentreSession c s).store = s.store := by simp [endCentreSession]
@[simp] theorem endCentreSession_supply (c : CentreCause) (s : State) : (endCentreSession c s).supply = s.supply := by simp [endCentreSession]

/-! ### Notices -/

theorem offer_queue_le (ns : List Notice) (bit : ClassBits) (v : PortState) (h : v.queue.length ≤ Config.noticePlaces) :
    (offer ns bit v).queue.length ≤ Config.noticePlaces := by
  unfold offer
  split
  · exact h
  · split
    · rename_i h2
      simpa using h2
    · exact h

theorem offerAll_bounded (k : NoticeKind) (fs : List (List Byte)) {s : State} (h : QueuesBounded s) :
    QueuesBounded (offerAll k fs s) := by
  intro p
  have hp := h p
  unfold offerAll
  simp only
  split <;> cases p <;> first | exact hp | exact offer_queue_le _ _ _ hp

/-! ### What raising, clearing and weighing leave as it is -/

theorem same_refl (s : State) : SameOutsideAlarm s s := ⟨rfl, rfl, rfl, rfl, rfl, rfl, rfl, rfl, rfl, rfl⟩

theorem same_trans {s t u : State} (h : SameOutsideAlarm s t) (h' : SameOutsideAlarm t u) :
    SameOutsideAlarm s u := by
  obtain ⟨a1, a2, a3, a4, a5, a6, a7, a8, a9, a10⟩ := h
  obtain ⟨b1, b2, b3, b4, b5, b6, b7, b8, b9, b10⟩ := h'
  exact ⟨b1.trans a1, b2.trans a2, b3.trans a3, b4.trans a4, b5.trans a5, b6.trans a6, b7.trans a7, b8.trans a8,
    b9.trans a9, b10.trans a10⟩

theorem setOwner_same (o : Owner) (s : State) : SameOutsideAlarm s (setOwner o s) := by simp [SameOutsideAlarm]

theorem postOrder_same (o : Owner) (b : OrderBody) (s : State) : SameOutsideAlarm s (postOrder o b s) := by
  simp [SameOutsideAlarm]

theorem postNotice_same (k : NoticeKind) (fs : List Byte) (s : State) : SameOutsideAlarm s (postNotice k fs s) := by
  simp [SameOutsideAlarm]

theorem setEntry_same (i : Nat) (e : AlarmEntry) (s : State) : SameOutsideAlarm s (setEntry i e s) := same_refl s

theorem deriveService_same (s : State) : SameOutsideAlarm s (deriveService s) := by simp [SameOutsideAlarm]

theorem moveSource_same {m : AlarmMove} {i : Nat} {s t : State} (h : moveSource m i s = some t) : SameOutsideAlarm s t := by
  unfold moveSource at h
  simp only [Option.map_eq_some_iff] at h
  obtain ⟨e, -, rfl⟩ := h
  exact setEntry_same i e s

theorem gatherBatch_same (l : List Nat) (s : State) : SameOutsideAlarm s (gatherBatch l s).1 := by
  induction l generalizing s with
  | nil => exact same_refl s
  | cons i rest ih =>
    simp only [gatherBatch]
    split
    · exact ih s
    · rename_i t h
      exact same_trans (moveSource_same h) (ih t)

theorem settleCentre_same (s : State) : SameOutsideAlarm s (settleCentre s) := by
  unfold settleCentre
  split <;> exact same_refl s

theorem reportGranted_same (s : State) : SameOutsideAlarm s (reportGranted s).1 := by
  unfold reportGranted
  split
  · exact same_refl s
  · simp only
    split
    · exact gatherBatch_same _ s
    · exact same_trans (gatherBatch_same _ s) (settleCentre_same _)

theorem grantReport_same (s : State) : SameOutsideAlarm s (grantReport s) := by
  have h := same_trans (setOwner_same .report s) (reportGranted_same (setOwner .report s))
  unfold grantReport
  split
  · rename_i t b e
    rw [e] at h
    exact same_trans h (postOrder_same _ _ _)
  · rename_i t e
    rw [e] at h
    exact same_trans h (setOwner_same _ _)

theorem makeReportClaim_same (s : State) : SameOutsideAlarm s (makeReportClaim s) := by
  unfold makeReportClaim
  simp only
  split
  · exact same_trans (t := { s with report := { s.report with state := .claimed } }) (same_refl s)
      (grantReport_same _)
  all_goals exact same_refl s

theorem postUnset_same (s : State) : SameOutsideAlarm s (postUnset s) := by simp [SameOutsideAlarm]

theorem weighAct_same (s : State) : SameOutsideAlarm s (weighAct s) := by
  unfold weighAct
  split
  · split
    · exact makeReportClaim_same s
    · exact same_refl s
  · split <;> exact same_refl s
  · exact same_refl s
  · split <;> exact same_refl s

theorem weigh_same (s : State) : SameOutsideAlarm s (weigh s) := by
  unfold weigh
  split
  · exact same_refl s
  · exact same_trans (postUnset_same s) (weighAct_same _)

theorem postRing_array {r : Ring} {rec : Record} {st st' : Store} {p : Place} (h : postRing r rec st = some (st', p)) :
    st'.array = st.array := by
  unfold postRing at h
  split at h
  · simp at h
  · split at h
    · simp at h
    · simp only at h
      split at h
      · simp at h
      · rename_i g hg st1 he
        have h1 : st1.array = st.array := by
          unfold enqueue at he
          split at he
          · simp only [Option.some.injEq] at he; rw [← he]
          · simp at he
        split at h
        · simp only [Option.some.injEq, Prod.mk.injEq] at h
          rw [← h.1]; simp [h1]
        · simp only [Option.some.injEq, Prod.mk.injEq] at h
          rw [← h.1]; simp [h1]

theorem postRecord_same {r : Ring} {rec : Record} {s t : State} {p : Place} (h : postRecord r rec s = some (t, p)) :
    SameOutsideAlarm s t := by
  unfold postRecord at h
  split at h
  · simp at h
  · rename_i st place e
    have ha := postRing_array e
    simp only at h
    split at h <;> simp only [Option.some.injEq, Prod.mk.injEq] at h <;> rw [← h.1]
    · exact ⟨by simp, by simp, by simp, by simp, by simp, by simp, by simp, by simp, by simp, by simpa using ha⟩
    · exact ⟨rfl, rfl, rfl, rfl, rfl, rfl, rfl, rfl, rfl, ha⟩

theorem tellRaised_same (i : Nat) (s : State) : SameOutsideAlarm s (tellRaised i s) := by
  unfold tellRaised
  split
  · exact same_refl s
  · cases h : moveSource .resumed i s with
    | none => exact weigh_same s
    | some t => exact same_trans (moveSource_same h) (weigh_same t)

theorem raiseWith_same {lost : State → State} (hl : ∀ s, SameOutsideAlarm s (lost s)) (i : Nat) (o : Origin) (s : State) :
    SameOutsideAlarm s (raiseWith lost i o s) := by
  unfold raiseWith
  simp only
  refine same_trans ?_ (tellRaised_same i _)
  have key : ∀ (e1 e2 : AlarmEntry) (rec : Record),
      SameOutsideAlarm s (match postRecord .alarm rec (setEntry i e1 s) with
        | some (s', place) => setEntry i { e1 with latest := some place } s'
        | none => lost (setEntry i e2 (setEntry i e1 s))) := by
    intro e1 e2 rec
    split
    · rename_i t p h
      exact same_trans (setEntry_same i e1 s) (same_trans (postRecord_same h) (setEntry_same i _ t))
    · exact same_trans (same_trans (setEntry_same i e1 s) (setEntry_same i e2 _)) (hl _)
  split
  · exact same_trans (key _ _ _) (same_trans (postNotice_same _ _ _) (deriveService_same _))
  · exact same_trans (key _ _ _) (postNotice_same _ _ _)

theorem raiseStore_same (s : State) : SameOutsideAlarm s (raiseStore s) := raiseWith_same same_refl _ _ s

theorem raiseNow_same (i : Nat) (o : Origin) (s : State) : SameOutsideAlarm s (raiseNow i o s) := by
  unfold raiseNow
  split
  · exact raiseWith_same same_refl _ _ s
  · exact raiseWith_same raiseStore_same _ _ s

theorem clearSource_same (i : Nat) (o : Origin) (s : State) : SameOutsideAlarm s (clearSource i o s) := by
  unfold clearSource
  simp only
  refine same_trans ?_ (weigh_same _)
  refine same_trans ?_ (deriveService_same _)
  refine same_trans ?_ (postNotice_same _ _ _)
  have h0 : SameOutsideAlarm s (if i < 8 then clearSensor i (setEntry i {} s) else setEntry i {} s) := by
    split <;> exact same_refl s
  refine same_trans h0 ?_
  generalize (if i < 8 then clearSensor i (setEntry i {} s) else setEntry i {} s) = t
  split
  · rename_i h
    exact postRecord_same h
  · split
    · exact same_refl t
    · exact raiseStore_same t

theorem autoClear_same (i : Nat) (s : State) : SameOutsideAlarm s (autoClear i s) := by
  unfold autoClear
  split
  · exact same_refl s
  · exact clearSource_same i _ s
  · exact clearSource_same i _ s
  · exact same_refl s

theorem askStoreClear_same (s : State) : SameOutsideAlarm s (askStoreClear s) := by
  unfold askStoreClear
  split
  · exact autoClear_same _ s
  · exact same_refl s

theorem queueRingErase_same (r : Ring) (s : State) : SameOutsideAlarm s (queueRingErase r s) := by
  have h : SameOutsideAlarm s { s with store := queueOwedErase r s.store } :=
    ⟨rfl, rfl, rfl, rfl, rfl, rfl, rfl, rfl, rfl, by cases r <;> rfl⟩
  unfold queueRingErase
  simp only
  split
  · exact same_trans h (same_trans (postNotice_same _ _ _) (askStoreClear_same _))
  · exact h

theorem postOverflow_same (s : State) : SameOutsideAlarm s (postOverflow s) := by
  unfold postOverflow
  split
  · exact same_refl s
  · rename_i t p h
    exact same_trans (postRecord_same h) (askStoreClear_same { t with store := { t.store with totals := {} } })

theorem doWork_same (w : WaitingWork) (s : State) : SameOutsideAlarm s (doWork w s) := by
  cases w with
  | mark p => exact same_refl s
  | ringErase r => exact queueRingErase_same r s
  | saveErase => exact same_refl s
  | overflow => exact postOverflow_same s

theorem settleWork_same (n : Nat) (s : State) : SameOutsideAlarm s (settleWork n s) := by
  induction n generalizing s with
  | zero => exact same_refl s
  | succ n ih =>
    simp only [settleWork]
    split
    · exact same_refl s
    · exact same_trans (doWork_same _ s) (ih _)

theorem settleWaiting_same (s : State) : SameOutsideAlarm s (settleWaiting s) := settleWork_same _ s

theorem raise_same (i : Nat) (o : Origin) (s : State) : SameOutsideAlarm s (raise i o s) :=
  same_trans (settleWaiting_same s) (raiseNow_same i o _)

theorem postCallRing_same (rec : Record) (s : State) : SameOutsideAlarm s (postCallRing rec s) := by
  unfold postCallRing
  simp only
  refine same_trans (settleWaiting_same s) ?_
  split
  · rename_i h
    exact postRecord_same h
  · exact same_trans (t := { settleWaiting s with store :=
      { (settleWaiting s).store with totals := countRecord rec (settleWaiting s).store.totals } })
      (same_refl (settleWaiting s)) (raiseStore_same _)

theorem enqueue_array {op : StoreOp} {st st' : Store} (h : enqueue op st = some st') : st'.array = st.array := by
  unfold enqueue at h
  split at h
  · simp only [Option.some.injEq] at h; rw [← h]
  · simp at h

theorem postReportedMark_same (p : Option Place) (s : State) : SameOutsideAlarm s (postReportedMark p s) := by
  unfold postReportedMark
  split
  · exact same_refl s
  · simp only
    refine same_trans (settleWaiting_same s) ?_
    split
    · rename_i st h
      exact ⟨rfl, rfl, rfl, rfl, rfl, rfl, rfl, rfl, rfl, enqueue_array h⟩
    · exact raiseStore_same _

/-- Without work that can have a place the store leaves the state as it is. -/
theorem settleWaiting_none {s : State} (h : nextWork s.store = none) : settleWaiting s = s := by
  simp [settleWaiting, settleWork, h]

theorem postResolvedMark_same (p : Place) (s : State) : SameOutsideAlarm s (postResolvedMark p s) := by
  unfold postResolvedMark
  simp only
  refine same_trans (settleWaiting_same s) ?_
  split
  · rename_i st h
    exact ⟨rfl, rfl, rfl, rfl, rfl, rfl, rfl, rfl, rfl, enqueue_array h⟩
  · exact same_refl (settleWaiting s)

theorem freedPlace_same (s : State) : SameOutsideAlarm s (freedPlace s) := by
  unfold freedPlace
  split <;> exact same_refl s

/-! ### Requests and events -/

/-- A request of a running part on a port that has it goes to its owner. -/
theorem takeRequest_running {q : Request} {p : Port} {owner : State → State × Reply} {s : State} (h : Running s)
    (hp : permitted q p = true) :
    takeRequest q p owner s = answerPort p (owner (takeFrame p s)).2 (owner (takeFrame p s)).1 := by
  simp [takeRequest, h.1, hp, recovering, h.2]

/-- A request on a port that has it not, refused. -/
theorem takeRequest_refusedPort {q : Request} {p : Port} {owner : State → State × Reply} {s : State}
    (h : s.supply.inReset = false) (hp : permitted q p = false) :
    takeRequest q p owner s = answerPort p (some (.refusedPort, [])) (takeFrame p s) := by
  simp [takeRequest, h, hp]

/-- Taking a frame at a port whose slot does not wait for the array only empties the slot. -/
theorem takeFrame_free {p : Port} {s : State} (h : SlotFree p s) :
    takeFrame p s = { s with ports := setPort p { portOf s.ports p with slot := .empty, fetch := none, sent := .ofRequest } s.ports } := by
  have : ((portOf s.ports p).slot == .notReady) = false := by simpa [SlotFree] using h
  simp [takeFrame, this, updatePort]

/-- The answer to a frame taken at such a port, where the owner changed nothing. -/
theorem answerPort_takeFrame {p : Port} {code : ResultCode} {fields : List Byte} {s : State} (h : SlotFree p s) :
    answerPort p (some (code, fields)) (takeFrame p s) = answeredWith p code fields s := by
  rw [takeFrame_free h]; cases p <;> rfl

@[simp] theorem answerPort_slot (p : Port) (code : ResultCode) (fields : List Byte) (s : State) :
    (portOf (answerPort p (some (code, fields)) s).ports p).slot = .ready code fields := by cases p <;> rfl

/-- The withdrawal of a save record: the next place goes back, and the save area's erase may become owed or queued; nothing
else changes. -/
theorem withdrawSave_frame (st : Store) :
    withdrawSave st = { st with
      saveNext := st.saveNext - 1, currentSave := none
      saveOwed := (withdrawSave st).saveOwed, queue := (withdrawSave st).queue } := by
  unfold withdrawSave; simp only; split <;> [rfl; split] <;> rfl

/-- Its queue is as before, or has the erase of sector 3 as its newest. -/
theorem withdrawSave_queue (st : Store) :
    (withdrawSave st).queue = st.queue ∨ (withdrawSave st).queue = st.queue ++ [.erase 3 0] := by
  unfold withdrawSave; simp only; split <;> [exact .inl rfl; split] <;> [exact .inr rfl; exact .inl rfl]

/-- An event reaches a part that is awake, and no other. -/
theorem whenAwake_awake {f : State → State} {s : State} (h : awake s = true) : whenAwake f s = f s := by
  simp [whenAwake, h]

theorem whenAwake_asleep {f : State → State} {s : State} (h : awake s = false) : whenAwake f s = s := by
  simp [whenAwake, h]

/-- A running part is awake and does not recover. -/
theorem awake_of_running {s : State} (h : Running s) : awake s = true := by
  simp [awake, h.1, h.2]

theorem recovering_of_running {s : State} (h : Running s) : recovering s = false := by
  simp [recovering, h.2]

end Sys2Proof.Laws
end

