-- ==== Sys2Proof/Laws/Account.lean ====
section
/-! SUPPORT. What the shortfall check, the stages of settlement, the report of credit and a charge can do, each said once. -/

namespace Sys2Proof.Laws

open Sys2Proof Sys2Proof.Machine

/-! ### The shortfall check and the stages (R34, R36, R37) -/

/-- With `fuel` tries the check posts some number of COLLECTs, each while C is short and a coin is unclaimed, and stops for
want of tries alone before one of the two ends. -/
theorem shortfallFor_posts (fuel : Nat) (s : State) : ∃ k,
    shortfallFor fuel s = { s with
      account := { s.account with n := s.account.n + k }
      coin := { s.coin with gateQueue := s.coin.gateQueue ++ List.replicate k .collect } }
    ∧ (∀ i, i < k → s.account.b + escrowValue (s.coin.escrow.take (s.account.n + i)) < s.account.c
        ∧ collectsClaimed s.coin + i < s.coin.escrow.length)
    ∧ (k = fuel ∨ s.account.c ≤ s.account.b + escrowValue (s.coin.escrow.take (s.account.n + k))
        ∨ s.coin.escrow.length ≤ collectsClaimed s.coin + k) := by
  induction fuel generalizing s with
  | zero => exact ⟨0, by simp [shortfallFor], by simp, .inl rfl⟩
  | succ fuel ih =>
    unfold shortfallFor
    split
    · rename_i h
      exact ⟨0, by simp, by simp, .inr (.inl (by simpa [committedValue] using h))⟩
    · rename_i h
      have hc : s.account.b + escrowValue (s.coin.escrow.take s.account.n) < s.account.c := by
        simpa [committedValue] using h
      by_cases hp : s.coin.escrow.length ≤ collectsClaimed s.coin
      · simp only [postCollect, hp, if_true]
        exact ⟨0, by simp, by simp, .inr (.inr (by simpa using hp))⟩
      · simp only [postCollect, hp, if_false]
        obtain ⟨k, he, hposts, hend⟩ := ih { s with
          coin := { s.coin with gateQueue := s.coin.gateQueue ++ [.collect] }
          account := { s.account with n := s.account.n + 1 } }
        have hclaimed : collectsClaimed { s.coin with gateQueue := s.coin.gateQueue ++ [.collect] }
            = collectsClaimed s.coin + 1 := by
          show ((s.coin.gateQueue ++ [GateWork.collect]).filter (· == GateWork.collect)).length + (if collectCoil s.coin then 1 else 0)
            = _
          simp [collectsClaimed, List.filter_append]
          omega
        simp only [hclaimed] at hposts hend
        refine ⟨k + 1, ?_, ?_, ?_⟩
        · rw [he]
          simp [List.replicate_succ, Nat.add_assoc, Nat.add_comm 1 k]
        · intro i hi
          cases i with
          | zero => exact ⟨by simpa using hc, by omega⟩
          | succ i =>
            obtain ⟨h1, h2⟩ := hposts i (by omega)
            exact ⟨by simpa [Nat.add_assoc, Nat.add_comm 1 i] using h1, by omega⟩
        · rcases hend with h | h | h
          · exact .inl (by omega)
          · exact .inr (.inl (by simpa [Nat.add_assoc, Nat.add_comm 1 k] using h))
          · exact .inr (.inr (by omega))

/-- The claims as CollectsPosted counts them. -/
theorem collectsClaimed_eq (c : CoinUnit) : collectsClaimed c
    = (c.gateQueue.filter (· == .collect)).length + (if c.gateOp.map (·.motion) = some .collect then 1 else 0) := by
  unfold collectsClaimed collectCoil
  cases c.gateOp <;> simp

/-- The whole check: it ends where C is covered or every coin is claimed (R34). -/
theorem shortfall_posts (s : State) : ∃ k, CollectsPosted k s.account s.coin
    ∧ shortfall s = { s with
        account := { s.account with n := s.account.n + k }
        coin := { s.coin with gateQueue := s.coin.gateQueue ++ List.replicate k .collect } } := by
  obtain ⟨k, he, hposts, hend⟩ := shortfallFor_posts s.coin.escrow.length s
  refine ⟨k, ⟨?_, ?_⟩, he⟩
  · intro i hi
    have := hposts i hi
    rw [collectsClaimed_eq] at this
    exact this
  · rw [collectsClaimed_eq] at hend
    rcases hend with h | h | h
    · exact .inr (by rw [h]; exact Nat.le_add_left _ _)
    · exact .inl h
    · exact .inr h

/-- The check with the entry to REFUND after it (R34, R36, R37): the account and the coin unit are checked, and nothing
else changes. -/
theorem enterRefund_shortfall_checked (s : State) :
    CollectionsChecked s.account s.coin (enterRefund (shortfall s))
      ∧ enterRefund (shortfall s) = { s with
          account := (enterRefund (shortfall s)).account, coin := (enterRefund (shortfall s)).coin } := by
  obtain ⟨k, hk, he⟩ := shortfall_posts s
  rw [he]
  by_cases h : ∃ r, s.account.phase = .settling .collect r
  · obtain ⟨r, hr⟩ := h
    by_cases hn : s.account.n + k = 0
    · have hnn : s.account.n = 0 := by omega
      have hkk : k = 0 := by omega
      subst hkk
      by_cases hq : s.coin.gateQueue.contains .refundAll = true
      · have hm : GateWork.refundAll ∈ s.coin.gateQueue := by simpa using hq
        refine ⟨⟨0, hk, ?_, ?_⟩, ?_⟩ <;> simp [enterRefund, postRefundAll, hr, hnn, hm]
      · have hm : GateWork.refundAll ∉ s.coin.gateQueue := by simpa using hq
        refine ⟨⟨0, hk, ?_, ?_⟩, ?_⟩ <;> simp [enterRefund, postRefundAll, hr, hnn, hm]
    · have hn' : ¬(s.account.n = 0 ∧ k = 0) := by omega
      refine ⟨⟨k, hk, fun _ _ h0 => absurd h0 hn, ?_⟩, ?_⟩
      · intro _; simp [enterRefund, hr, hn']
      · simp [enterRefund, hr, hn']
  · have hne : ∀ r, s.account.phase ≠ .settling .collect r := fun r hr => h ⟨r, hr⟩
    have hid : ∀ x : State, x.account.phase = s.account.phase → enterRefund x = x := by
      intro x hx
      unfold enterRefund
      split
      · rename_i r hr; exact absurd (hx ▸ hr) (hne r)
      · rfl
    rw [hid { s with
      account := { s.account with n := s.account.n + k }
      coin := { s.coin with gateQueue := s.coin.gateQueue ++ List.replicate k .collect } } rfl]
    exact ⟨⟨k, hk, fun r hr => absurd hr (hne r), fun _ => ⟨rfl, rfl⟩⟩, rfl⟩

/-- The check of an account that is in no COLLECT stage (R34). -/
theorem shortfall_checked {s : State} (h : ∀ r, s.account.phase ≠ .settling .collect r) :
    CollectionsChecked s.account s.coin (shortfall s)
      ∧ shortfall s = { s with account := (shortfall s).account, coin := (shortfall s).coin } := by
  obtain ⟨k, hk, he⟩ := shortfall_posts s
  rw [he]
  exact ⟨⟨k, hk, fun r hr => absurd hr (h r), fun _ => ⟨rfl, rfl⟩⟩, rfl⟩

/-- Leaving the FLIGHT stage with no flight (R36). -/
theorem leaveFlightStage_checked {s : State} {r : Bool} (h : s.account.phase = .settling .flight r)
    (hf : s.coin.flight = none) :
    CollectionsChecked { s.account with phase := .settling .collect r } s.coin (leaveFlightStage s)
      ∧ leaveFlightStage s = { s with account := (leaveFlightStage s).account, coin := (leaveFlightStage s).coin } := by
  have e : leaveFlightStage s
      = enterRefund (shortfall { s with account := { s.account with phase := .settling .collect r } }) := by
    simp [leaveFlightStage, h, hf]
  rw [e]
  exact enterRefund_shortfall_checked { s with account := { s.account with phase := .settling .collect r } }

/-- In any other stage, or with a coin in flight, nothing happens (R36). -/
theorem leaveFlightStage_stays {s : State} (h : (∀ r, s.account.phase ≠ .settling .flight r) ∨ s.coin.flight ≠ none) :
    leaveFlightStage s = s := by
  unfold leaveFlightStage
  split
  · rename_i r hr
    rcases h with h | h
    · exact absurd hr (h r)
    · simp [Option.isNone_iff_eq_none, h]
  · rfl

/-- A charge of an OPEN account is the raised C with the check after it (R33, R34). -/
theorem charge_checked {m : Nat} {s : State} (h : s.account.phase = .opened false) :
    CollectionsChecked (chargedAccount m s.account) s.coin (charge m s)
      ∧ charge m s = { s with account := (charge m s).account, coin := (charge m s).coin } := by
  have e : charge m s = shortfall { s with account := chargedAccount m s.account } := by simp [charge, h]
  rw [e]
  refine shortfall_checked (s := { s with account := chargedAccount m s.account }) ?_
  intro r
  simp only [chargedAccount]
  split <;> simp [h]

/-! ### The report of credit (R32, R66, R107, R110) -/

/-- From `s` to `t` the call, the line, the tariff unit and the ports alone may change. -/
def OnlyCallSide (s t : State) : Prop :=
  t = { s with call := t.call, line := t.line, tariff := t.tariff, ports := t.ports }

theorem callSide_refl (s : State) : OnlyCallSide s s := rfl

theorem callSide_trans {s t u : State} (h : OnlyCallSide s t) (h' : OnlyCallSide t u) : OnlyCallSide s u := by
  cases s; cases t; cases u
  simp only [OnlyCallSide, State.mk.injEq] at h h' ⊢
  simp_all

theorem offerAll_callSide (k : NoticeKind) (fs : List (List Byte)) (s : State) : OnlyCallSide s (offerAll k fs s) := by
  unfold offerAll
  simp only
  split <;> rfl

theorem postNotice_callSide (k : NoticeKind) (fs : List Byte) (s : State) : OnlyCallSide s (postNotice k fs s) :=
  offerAll_callSide _ _ _

theorem setCallState_callSide (x : CallState) (s : State) : OnlyCallSide s (setCallState x s) := by
  unfold setCallState
  simp only
  split
  · rfl
  · exact callSide_trans (t := { s with call := { s.call with state := x } }) rfl (postNotice_callSide _ _ _)

theorem postOrder_callSide (o : Owner) (b : OrderBody) (s : State) : OnlyCallSide s (postOrder o b s) := by
  unfold postOrder
  repeat' split
  all_goals rfl

theorem setOwner_callSide (o : Owner) (s : State) : OnlyCallSide s (setOwner o s) := by
  unfold setOwner
  split
  · rfl
  · exact callSide_trans (t := { s with line := { s.line with owner := o } }) rfl (postNotice_callSide _ _ _)

theorem grantCustomer_callSide (s : State) : OnlyCallSide s (grantCustomer s) := by
  unfold grantCustomer
  simp only
  have h : OnlyCallSide s (stopCallTimer (setOwner .customer s)) := callSide_trans (setOwner_callSide _ s) rfl
  split
  · exact h
  · exact callSide_trans h (callSide_trans (postOrder_callSide _ _ _) (setCallState_callSide _ _))

theorem makeCustomerClaim_callSide (e : Bool) (s : State) : OnlyCallSide s (makeCustomerClaim e s) := by
  have hp : OnlyCallSide s (startPreemption e s) :=
    callSide_trans (t := { s with line := { s.line with preempting := some e } }) rfl (postOrder_callSide _ _ _)
  unfold makeCustomerClaim
  repeat' split
  all_goals first
    | exact callSide_refl s
    | exact grantCustomer_callSide s
    | exact hp
    | rfl

theorem enterWaitLine_callSide (s : State) : OnlyCallSide s (enterWaitLine s) :=
  callSide_trans (setCallState_callSide .waitLine s)
    (callSide_trans (t := startCallTimer .lineWait Config.lineWait (setCallState .waitLine s)) rfl
      (makeCustomerClaim_callSide _ _))

theorem sendWarning_callSide (amount : Nat) (s : State) : OnlyCallSide s (sendWarning amount s) := by
  unfold sendWarning
  simp only
  refine callSide_trans (t := setWarned true s) rfl (callSide_trans ?_ (postNotice_callSide _ _ _))
  split
  · exact setCallState_callSide _ _
  · rfl

theorem sendOk_callSide (s : State) : OnlyCallSide s (sendOk s) := by
  unfold sendOk
  simp only
  refine callSide_trans (t := setWarned false s) rfl (callSide_trans ?_ (postNotice_callSide _ _ _))
  split
  · exact setCallState_callSide _ _
  · rfl

theorem judge_callSide (amount : Nat) (s : State) : OnlyCallSide s (judge amount s) := by
  unfold judge
  repeat' split
  all_goals first
    | exact callSide_refl s
    | exact sendWarning_callSide amount s
    | exact sendOk_callSide s

/-- A report of the credit leaves the account and the coin unit as they are (R32, R66, R107, R110). -/
theorem reportCredit_callSide (s : State) : OnlyCallSide s (reportCredit s) := by
  have h : OnlyCallSide s (reportToCall s) := by
    unfold reportToCall
    split
    · split
      · exact callSide_trans (t := stopCallTimer s) rfl (enterWaitLine_callSide _)
      · rfl
    · rfl
  refine callSide_trans h ?_
  unfold reportCredit reportToTariff
  split
  · exact judge_callSide _ _
  · rfl

theorem callSide_account {s t : State} (h : OnlyCallSide s t) : t.account = s.account := by
  rw [h]

theorem callSide_coin {s t : State} (h : OnlyCallSide s t) : t.coin = s.coin := by
  rw [h]

/-- A call that neither waits for coins nor is metered takes no notice of a report of the credit. -/
theorem reportCredit_idle {s : State} (h : s.call.state ≠ .waitCoins) (hm : s.tariff.meter.state = .stopped) :
    reportCredit s = s := by
  have hc : reportToCall s = s := by
    unfold reportToCall
    split
    · rename_i hw _; exact absurd hw h
    · rfl
  simp [reportCredit, hc, reportToTariff, warnAmount, hm]

/-! ### The end of a collection (R30) -/

/-- n falls by one and the check is made again (R30, R34, R36, R37). -/
theorem collectEnded_checked (f : Account → Account) (s : State) :
    CollectionsChecked { f s.account with n := (f s.account).n - 1 } s.coin (collectEnded f s)
      ∧ collectEnded f s = { s with
          account := (collectEnded f s).account, coin := (collectEnded f s).coin, call := (collectEnded f s).call
          line := (collectEnded f s).line, tariff := (collectEnded f s).tariff, ports := (collectEnded f s).ports } := by
  obtain ⟨hc, he⟩ := enterRefund_shortfall_checked
    { s with account := { f s.account with n := (f s.account).n - 1 } }
  have hr := reportCredit_callSide
    (enterRefund (shortfall { s with account := { f s.account with n := (f s.account).n - 1 } }))
  have ha := callSide_account hr
  have hq := callSide_coin hr
  refine ⟨?_, ?_⟩
  · unfold CollectionsChecked at hc ⊢
    simp only [collectEnded] at hc ⊢
    rw [ha, hq]
    exact hc
  · show collectEnded f s = _
    have : collectEnded f s
      = reportCredit (enterRefund (shortfall { s with account := { f s.account with n := (f s.account).n - 1 } })) := rfl
    rw [this, hr, he]

end Sys2Proof.Laws
end

