-- ==== Sys2Proof/Laws/Memory.lean ====
section
/-! SUPPORT. Reading after writing in the array, and every array operation keeps the canonical form. -/

namespace Sys2Proof.Laws

open Sys2Proof Sys2Proof.Machine

/-! ### Keys a write can leave in the list -/

theorem mem_writeCell {key : Nat} {v : Cell} {x : Nat × Cell} {l : List (Nat × Cell)} (h : x ∈ writeCell key v l) :
    x = (key, v) ∨ x ∈ l := by
  induction l with
  | nil => simpa [writeCell] using h
  | cons y rest ih =>
    obtain ⟨k, c⟩ := y
    simp only [writeCell] at h
    split at h
    · simpa using h
    · split at h
      · simp only [List.mem_cons] at h ⊢; tauto
      · simp only [List.mem_cons] at h ⊢
        rcases h with h | h
        · tauto
        · rcases ih h with h | h <;> tauto

theorem mem_writeHeader {sector q : Nat} {x : Nat × Nat} {l : List (Nat × Nat)} (h : x ∈ writeHeader sector q l) :
    x = (sector, q) ∨ x ∈ l := by
  induction l with
  | nil => simpa [writeHeader] using h
  | cons y rest ih =>
    obtain ⟨k, c⟩ := y
    simp only [writeHeader] at h
    split at h
    · simpa using h
    · split at h
      · simp only [List.mem_cons] at h ⊢; tauto
      · simp only [List.mem_cons] at h ⊢
        rcases h with h | h
        · tauto
        · rcases ih h with h | h <;> tauto

/-! ### The canonical form is kept -/

theorem writeCell_wf (key : Nat) (v : Cell) {l : List (Nat × Cell)} (h : cellsWf l) : cellsWf (writeCell key v l) := by
  induction l with
  | nil => simp [writeCell]
  | cons y rest ih =>
    obtain ⟨k, c⟩ := y
    rw [cellsWf, List.pairwise_cons] at h
    simp only [writeCell]
    split
    · rename_i hk
      refine List.pairwise_cons.2 ⟨?_, List.pairwise_cons.2 h⟩
      intro a ha
      rcases List.mem_cons.1 ha with rfl | ha
      · exact hk
      · exact lt_trans hk (h.1 a ha)
    · split
      · rename_i hk
        subst hk
        exact List.pairwise_cons.2 h
      · refine List.pairwise_cons.2 ⟨?_, ih h.2⟩
        intro a ha
        rcases mem_writeCell ha with rfl | ha
        · show k < key
          omega
        · exact h.1 a ha

theorem writeHeader_wf (sector q : Nat) {l : List (Nat × Nat)} (h : headersWf l) : headersWf (writeHeader sector q l) := by
  induction l with
  | nil => simp [writeHeader]
  | cons y rest ih =>
    obtain ⟨k, c⟩ := y
    rw [headersWf, List.pairwise_cons] at h
    simp only [writeHeader]
    split
    · rename_i hk
      refine List.pairwise_cons.2 ⟨?_, List.pairwise_cons.2 h⟩
      intro a ha
      rcases List.mem_cons.1 ha with rfl | ha
      · exact hk
      · exact lt_trans hk (h.1 a ha)
    · split
      · rename_i hk
        subst hk
        exact List.pairwise_cons.2 h
      · refine List.pairwise_cons.2 ⟨?_, ih h.2⟩
        intro a ha
        rcases mem_writeHeader ha with rfl | ha
        · show k < sector
          omega
        · exact h.1 a ha

theorem eraseCells_wf (sector : Nat) {l : List (Nat × Cell)} (h : cellsWf l) : cellsWf (eraseCells sector l) :=
  List.Pairwise.filter _ h

theorem dropHeader_wf (sector : Nat) {l : List (Nat × Nat)} (h : headersWf l) : headersWf (dropHeader sector l) :=
  List.Pairwise.filter _ h

theorem programMark_wf (key : Nat) (m : MarkKind) {a : NvArray} (h : cellsWf a.cells) :
    cellsWf (programMark key m a).cells := by
  unfold programMark
  split
  · exact h
  · split
    · exact h
    · exact writeCell_wf _ _ h

@[simp] theorem programMark_headers (key : Nat) (m : MarkKind) (a : NvArray) :
    (programMark key m a).headers = a.headers := by
  unfold programMark
  split
  · rfl
  · split <;> rfl

/-- Programming a place keeps the array's form and touches its cells alone. -/
theorem programBlank_wf (key : Nat) (v : Cell) {a : NvArray} (h : cellsWf a.cells) : cellsWf (programBlank key v a).cells := by
  unfold programBlank
  split
  · exact h
  · exact writeCell_wf _ _ h

@[simp] theorem programBlank_headers (key : Nat) (v : Cell) (a : NvArray) : (programBlank key v a).headers = a.headers := by
  unfold programBlank; split <;> rfl

theorem programHeader_wf (sector q : Nat) {a : NvArray} (h : headersWf a.headers) : headersWf (programHeader sector q a).headers := by
  unfold programHeader
  split
  · exact h
  · exact writeHeader_wf _ _ h

@[simp] theorem programHeader_cells (sector q : Nat) (a : NvArray) : (programHeader sector q a).cells = a.cells := by
  unfold programHeader; split <;> rfl

theorem tearProgram_wf (job : Option ProgramJob) {a : NvArray} (h : cellsWf a.cells) : cellsWf (tearProgram job a).cells := by
  unfold tearProgram
  split
  · exact programBlank_wf _ _ h
  · exact h

theorem halfErasedCell_key {index : Nat} {x y : Nat × Cell} (h : halfErasedCell index x = some y) : y.1 = x.1 := by
  unfold halfErasedCell at h
  split at h
  · simp only [Option.some.injEq] at h; rw [← h]
  · simp only [Option.some.injEq] at h; rw [← h]
  · simp at h

theorem tearErase_wf (index : Nat) (job : Option EraseJob) {l : List (Nat × Cell)} (h : cellsWf l) :
    cellsWf (tearErase index job l) := by
  unfold tearErase
  split
  · split
    · refine List.Pairwise.filterMap _ (fun a b hab x hx y hy => ?_) h
      have key : ∀ {u v : Nat × Cell}, (if u.1 / 128 = 0 then halfErasedCell index u else some u) = some v → v.1 = u.1 := by
        intro u v huv
        split at huv
        · exact halfErasedCell_key huv
        · simp only [Option.some.injEq] at huv; rw [← huv]
      rw [key hx, key hy]
      exact hab
    · exact h
  · exact h

/-! ### Reading after a write -/

theorem readCell_writeCell_self (key : Nat) (v : Cell) (l : List (Nat × Cell)) : readCell key (writeCell key v l) = some v := by
  induction l with
  | nil => simp [writeCell, readCell]
  | cons y rest ih =>
    obtain ⟨k, c⟩ := y
    simp only [writeCell]
    split
    · simp [readCell]
    · split
      · simp [readCell]
      · rename_i h1 h2
        have hk : ¬ k = key := fun h => h2 h.symm
        simp [readCell, hk, ih]

theorem readCell_writeCell_other {key other : Nat} (v : Cell) (l : List (Nat × Cell)) (h : other ≠ key) :
    readCell other (writeCell key v l) = readCell other l := by
  have h' : ¬ key = other := fun e => h e.symm
  induction l with
  | nil => simp [writeCell, readCell, h']
  | cons y rest ih =>
    obtain ⟨k, c⟩ := y
    simp only [writeCell]
    split
    · simp [readCell, h']
    · split
      · rename_i h1 h2
        subst h2
        simp [readCell, h']
      · simp only [readCell]
        rw [ih]

/-- A blank place takes the cell. -/
theorem readCell_programBlank_self {key : Nat} {v : Cell} {a : NvArray} (h : readCell key a.cells = none) :
    readCell key (programBlank key v a).cells = some v := by
  simp [programBlank, h, readCell_writeCell_self]

/-- A programmed place stays as it is, and so does the array. -/
theorem programBlank_programmed {key : Nat} {v c : Cell} {a : NvArray} (h : readCell key a.cells = some c) :
    programBlank key v a = a := by
  simp [programBlank, h]

theorem readCell_programBlank_other {key other : Nat} {v : Cell} {a : NvArray} (h : other ≠ key) :
    readCell other (programBlank key v a).cells = readCell other a.cells := by
  unfold programBlank
  split
  · rfl
  · exact readCell_writeCell_other v a.cells h

theorem reset_arrayCanonical : ArrayCanonical State.reset := by
  constructor <;> exact List.Pairwise.nil

end Sys2Proof.Laws
end

