-- ==== Sys2Proof/WellFormed.lean ====
section
/-! DEFINITION. Which commands can arise: the operand widths of the frames (R202) and of the inputs. `exec` gives
every command a meaning; a well-formed one stands for a frame or an event that can occur. -/

namespace Sys2Proof

/-- A field of one byte. -/
def fitsByte (n : Nat) : Bool := n < 256

/-- A field of two bytes. -/
def fitsTwo (n : Nat) : Bool := n < 65536

/-- A digit string as a frame can carry it. -/
def fitsDigits (ds : Digits) : Bool := ds.length ≤ 119 && ds.all fitsByte

def Date.fits (d : Date) : Bool := fitsTwo d.year && fitsByte d.month && fitsByte d.day

def DateTime.fits (t : DateTime) : Bool :=
  fitsTwo t.year && fitsByte t.month && fitsByte t.day && fitsByte t.hour && fitsByte t.minute && fitsByte t.second

def TariffFields.fits (f : TariffFields) : Bool :=
  fitsTwo f.connection && fitsTwo f.step && fitsTwo f.period && fitsTwo f.firstPeriod && fitsTwo f.free && fitsTwo f.lead

def PlanFields.fits (f : PlanFields) : Bool :=
  fitsDigits f.digits && fitsByte f.minLen && fitsByte f.maxLen && fitsByte f.cls

/-- The eight tamper inputs. -/
def Levels.fits (l : Levels) : Bool := l.tamper.length == 8

/-- The operands of a command fit the frame or the input that brings it. -/
def Instr.wellFormed : Instr → Bool
  | .keyDigit _ key => fitsByte key
  | .setNoticeMask _ mask => fitsByte mask
  | .fetchOrder _ part => fitsByte part
  | .orderDone _ _ number _ => fitsByte number
  | .setClock _ t => t.fits
  | .writeCalendarDayType _ _ points => points.length ≤ 39 && points.all (fun p => fitsTwo p.1 && fitsByte p.2)
  | .writeCalendarHoliday _ slot date => fitsByte slot && date.all Date.fits
  | .writeTariff _ cls band entry => fitsByte cls && fitsByte band && entry.all TariffFields.fits
  | .readTariff _ _ cls band => fitsByte cls && fitsByte band
  | .activateTariff _ time => time.all DateTime.fits
  | .writePlan _ entry fields => fitsByte entry && fields.fits
  | .readPlan _ entry => fitsByte entry
  | .writeCoin _ channel value => fitsByte channel && fitsTwo value
  | .writeAlarmSetupSource _ source _ _ _ => fitsByte source
  | .writeAlarmSetupSensor _ sensor _ threshold window => fitsByte sensor && fitsByte threshold && fitsTwo window
  | .writeSettingInterDigit _ n => fitsByte n
  | .writeSettingRing _ n => fitsTwo n
  | .writeSettingBoxCapacity _ n => fitsTwo n
  | .writeSettingCollectionCode _ code => fitsDigits code
  | .writeSettingPrimaryCentre _ number => fitsDigits number
  | .writeSettingFallbackCentre _ number => fitsDigits number
  | .readRecords _ _ offset count => fitsTwo offset && fitsByte count
  | .ackRecords _ _ count => fitsTwo count
  | .readAlarmsSource _ first count => fitsByte first && fitsByte count
  | .ackAlarms _ sources => sources.length ≤ 120 && sources.all fitsByte
  | .clearAlarm _ source => fitsByte source
  | .writeIdentity _ terminal site => fitsDigits terminal && fitsTwo site
  | .openCollection _ code => fitsDigits code
  | .requestFrameError _ bytes => bytes.headD 0 != 0
  | .acceptPulse channel => 1 ≤ channel && channel ≤ 6
  | .sensorEdge sensor _ => sensor ≤ 7
  | .powerOnReset levels => levels.fits
  | .restartFallsDue levels => levels.fits
  | .supplyRisesPastFail levels => levels.fits
  | .keyCancel _ | .keyFollowOn _ | .readAccount _ | .readCall _ | .readStatus _ | .fetchNotices _ | .answer _ | .busy _
  | .farClear _ | .meterPulse _ | .lineLost _ | .lineRestored _ | .claimCentre _ | .endCentre _ | .readClock _
  | .writeSettingReportThreshold _ _ | .writeSettingPriorityMode _ _ | .commitConfig _ | .readAlarmsSensor _
  | .readIdentity _ | .lockIdentity _ | .restart _ _ | .closeCollection _ | .readTally _ | .testGate _
  | .readSelectPeriod _ _ | .escrowEntryEvent | .boxEntryEvent | .returnChuteEvent | .rejectPulse | .flightWindowExpiry
  | .gateOperationStart | .gateWindowExpiry | .gateTestWindowExpiry | .collectionWindowExpiry | .collectionLockoutExpiry
  | .carryCompletes | .settlementEnds | .offHook | .onHook | .firstDigitTimerExpiry | .interDigitTimerExpiry
  | .depositTimerExpiry | .lineWaitTimerExpiry | .ringTimerExpiry | .followOnTimerExpiry | .stepFallsDue | .warningPoint
  | .scheduledActivationDue | .clockBecomesUnset | .orderLimitExpiry | .centreSessionExpiry | .backoffExpiry
  | .storeOperationStart | .programDone | .markProgramDone | .eraseDone | .eraseSliceEnd | .commitDone
  | .readRecordsReady | .owedEraseQueued _ | .overflowRecord | .warnFalling | .warnRising | .supplyReset
  | .sensorCheck _ | .flushWindowExpiry _ | .saveSectorHousekeeping | .debouncedChangeToOnHook => true

end Sys2Proof
end

