-- ==== Sys2Proof/Tests/Slice0.lean ====
section
/-! SUPPORT. Tests: the checks of WellFormed refuse ill-formed commands, single commands on small states, and for each
statement that has hypotheses a state and operands that meet them. -/

namespace Sys2Proof.Tests

open Sys2Proof Sys2Proof.Machine

set_option maxRecDepth 20000

/-! ### Small states -/

/-- A part that runs, with the rings' next sectors blank, so that the store owes nothing. -/
def run : State :=
  { State.reset with
    now := 1000
    supply := { recovery := none, loaded := true }
    store := { State.reset.store with array := { headers := [(3, 0), (4, 0), (5, 1), (52, 0), (53, 1)] } } }

/-- A part with a call in this state, off the hook, with an OPEN account. -/
def calling (x : CallState) : State :=
  { run with
    call := { state := x, hook := .off, hookInput := true }
    account := { phase := .opened false } }

/-- The same with the line owned for the call. -/
def holding (x : CallState) : State := { calling x with line := { owner := .customer, counter := 254 } }

def coins : List EscrowCoin := [⟨3, 20, .no, 0⟩, ⟨4, 50, .no, 1⟩]

/-- The same with two coins in the escrow tube and 30 banked. -/
def withCoins (s : State) : State :=
  { s with
    coin := { s.coin with escrow := coins, coinIds := 2 }
    account := { s.account with d := 100, e := 70, b := 30 } }

def entry : TariffEntry :=
  { connection := 10, step := 20, period := 600, firstPeriod := 0, free := 100, source := .localSteps, lead := 100 }

def row : List TariffEntry := [entry, { entry with free := 0 }, { entry with source := .exchange }, entry]

def acceptance : Acceptance :=
  { digits := [2], cls := .localCall, emergency := false, metered := true, row := some row, generation := 0, deposit := 30 }

/-- A METERED call with an acceptance, in this state. -/
def metered (x : CallState) : State :=
  let s := withCoins (holding x)
  { s with call := { s.call with acceptance := some acceptance } }

/-- A plan with one three-digit number in it. -/
def plan : List PlanEntry := ({ digits := [2], minLen := 3, maxLen := 3, cls := .localCall } : PlanEntry) :: List.replicate 47 {}

def noon : DateTime := ⟨2030, 5, 6, 12, 0, 0⟩

/-- A locked identity in sector 0. -/
def lockedCells : List (Nat × Cell) := [(0, { record := some (.identity [1, 2] 7), marks := [.lock] })]

def lockedIdentity : Identity := { terminal := [1, 2], site := 7, lock := .locked, newest := some 0, next := 1 }

def lockedRun : State :=
  { run with store := { run.store with
      array := { run.store.array with cells := lockedCells }, identity := lockedIdentity } }

/-- A part in the sensor check of its recovery. -/
def checking : State := { run with supply := { recovery := some { stage := 4, phase := .checking } } }

/-- A part in the first window of a flush. -/
def flushing (n : Nat) : State :=
  { run with supply := { recovery := some { stage := 4, phase := .flushing, cycles := n, flushUntil := some 1006 } } }

/-! ### WellFormed refuses, check by check -/

theorem test_ill_formed_key : Instr.wellFormed (.keyDigit .set 256) = false := by decide
theorem test_ill_formed_mask : Instr.wellFormed (.setNoticeMask .set 256) = false := by decide
theorem test_ill_formed_part : Instr.wellFormed (.fetchOrder .line 256) = false := by decide
theorem test_ill_formed_order : Instr.wellFormed (.orderDone .line none 256 none) = false := by decide
theorem test_ill_formed_year : Instr.wellFormed (.setClock .line { noon with year := 65536 }) = false := by decide
theorem test_ill_formed_month : Instr.wellFormed (.setClock .line { noon with month := 256 }) = false := by decide
theorem test_ill_formed_day : Instr.wellFormed (.setClock .line { noon with day := 256 }) = false := by decide
theorem test_ill_formed_hour : Instr.wellFormed (.setClock .line { noon with hour := 256 }) = false := by decide
theorem test_ill_formed_minute : Instr.wellFormed (.setClock .line { noon with minute := 256 }) = false := by decide
theorem test_ill_formed_second : Instr.wellFormed (.setClock .line { noon with second := 256 }) = false := by decide
theorem test_ill_formed_points :
    Instr.wellFormed (.writeCalendarDayType .line (some .weekday) (List.replicate 40 (0, 0))) = false := by decide
theorem test_ill_formed_point_minute :
    Instr.wellFormed (.writeCalendarDayType .line (some .weekday) [(65536, 0)]) = false := by decide
theorem test_ill_formed_point_band :
    Instr.wellFormed (.writeCalendarDayType .line (some .weekday) [(0, 256)]) = false := by decide
theorem test_ill_formed_holiday_slot : Instr.wellFormed (.writeCalendarHoliday .line 256 none) = false := by decide
theorem test_ill_formed_holiday_date :
    Instr.wellFormed (.writeCalendarHoliday .line 0 (some ⟨65536, 1, 1⟩)) = false := by decide
theorem test_ill_formed_tariff_class : Instr.wellFormed (.writeTariff .line 256 0 none) = false := by decide
theorem test_ill_formed_tariff_band : Instr.wellFormed (.writeTariff .line 0 256 none) = false := by decide
theorem test_ill_formed_tariff_field :
    Instr.wellFormed (.writeTariff .line 0 0 (some ⟨65536, 1, 10, 0, 0, none, 50⟩)) = false := by decide
theorem test_ill_formed_tariff_read : Instr.wellFormed (.readTariff .line none 0 256) = false := by decide
theorem test_ill_formed_activation :
    Instr.wellFormed (.activateTariff .line (some { noon with month := 256 })) = false := by decide
theorem test_ill_formed_plan_entry :
    Instr.wellFormed (.writePlan .line 256 ⟨[], 0, 0, 0, none, none, none, none⟩) = false := by decide
theorem test_ill_formed_plan_prefix :
    Instr.wellFormed (.writePlan .line 0 ⟨[256], 1, 1, 0, none, none, none, none⟩) = false := by decide
theorem test_ill_formed_plan_number : Instr.wellFormed (.readPlan .line 256) = false := by decide
theorem test_ill_formed_coin_channel : Instr.wellFormed (.writeCoin .line 256 5) = false := by decide
theorem test_ill_formed_coin_value : Instr.wellFormed (.writeCoin .line 1 65536) = false := by decide
theorem test_ill_formed_source : Instr.wellFormed (.writeAlarmSetupSource .line 256 none none none) = false := by decide
theorem test_ill_formed_sensor : Instr.wellFormed (.writeAlarmSetupSensor .line 256 none 1 10) = false := by decide
theorem test_ill_formed_inter_digit : Instr.wellFormed (.writeSettingInterDigit .line 256) = false := by decide
theorem test_ill_formed_ring : Instr.wellFormed (.writeSettingRing .line 65536) = false := by decide
theorem test_ill_formed_capacity : Instr.wellFormed (.writeSettingBoxCapacity .line 65536) = false := by decide
theorem test_ill_formed_code : Instr.wellFormed (.writeSettingCollectionCode .line [256]) = false := by decide
theorem test_ill_formed_primary : Instr.wellFormed (.writeSettingPrimaryCentre .line (List.replicate 120 0)) = false := by decide
theorem test_ill_formed_fallback : Instr.wellFormed (.writeSettingFallbackCentre .line [256]) = false := by decide
theorem test_ill_formed_records : Instr.wellFormed (.readRecords .line none 65536 1) = false := by decide
theorem test_ill_formed_record_ack : Instr.wellFormed (.ackRecords .line none 65536) = false := by decide
theorem test_ill_formed_alarm_read : Instr.wellFormed (.readAlarmsSource .line 256 1) = false := by decide
theorem test_ill_formed_alarm_ack : Instr.wellFormed (.ackAlarms .line (List.replicate 121 0)) = false := by decide
theorem test_ill_formed_alarm_clear : Instr.wellFormed (.clearAlarm .line 256) = false := by decide
theorem test_ill_formed_identity : Instr.wellFormed (.writeIdentity .line [] 65536) = false := by decide
theorem test_ill_formed_collection : Instr.wellFormed (.openCollection .service [256]) = false := by decide
theorem test_ill_formed_frame : Instr.wellFormed (.requestFrameError .line []) = false := by decide
theorem test_ill_formed_pulse_low : Instr.wellFormed (.acceptPulse 0) = false := by decide
theorem test_ill_formed_pulse_high : Instr.wellFormed (.acceptPulse 7) = false := by decide
theorem test_ill_formed_edge : Instr.wellFormed (.sensorEdge 8 true) = false := by decide
theorem test_ill_formed_power_on : Instr.wellFormed (.powerOnReset ⟨[], false⟩) = false := by decide
theorem test_ill_formed_restart : Instr.wellFormed (.restartFallsDue ⟨[], false⟩) = false := by decide
theorem test_ill_formed_rise : Instr.wellFormed (.supplyRisesPastFail ⟨[], false⟩) = false := by decide

/-- The command ends in a next state of which this holds. -/
def leads (o : Host.Outcome State Fault Refusal) (f : State → Bool) : Bool :=
  match o with
  | .next t => f t
  | .fault _ => false
  | .refused _ => false

/-! ### Single commands -/

/-- A 50 coin in WAIT_COINS, seen by the escrow sensor: D and E rise by 50. -/
theorem test_coin_is_credited :
    leads (exec .escrowEntryEvent { calling .collecting with coin := { flight := some ⟨4, 50, 999, .escrow, 0⟩, tickets := 1 } }) (fun t =>
      t.account.d = 50 ∧ t.account.e = 50 ∧ t.coin.escrow.length = 1 ∧ t.coin.flight = none) = true := by decide

/-- The emergency number 0 is complete with its one digit and claims the free line. -/
theorem test_emergency_number_connects :
    leads (exec (.keyDigit .set 0) (calling .collecting)) (fun t =>
      t.call.state = .connecting ∧ t.line.owner = .customer ∧ (t.line.slot.map (·.body)) = some (.connect [0] .operator)) = true := by decide

/-- A settlement with nothing in the tube goes to its REFUND stage with a REFUND_ALL. -/
theorem test_hang_up_settles :
    leads (exec .onHook { calling .collecting with call := { (calling .collecting).call with holdFrom := some 990 } }) (fun t =>
      t.account.phase = .settling .refund false ∧ t.coin.gateQueue = [.refundAll] ∧ t.call.state = .settling) = true := by decide

/-- The first power-on of a blank part: no identity, the defaults, SUPPLY and STORE raised, CONFIG_LOST. -/
theorem test_first_power_on :
    leads (exec (.powerOnReset ⟨List.replicate 8 false, false⟩) State.reset) (fun t =>
      t.supply.loaded = false ∧ (alarmEntry t.alarm srcSupply).state = .raised ∧ (alarmEntry t.alarm srcStore).state = .raised ∧ (t.ports.line.queue.map (·.kind)).head? = some .configLost) = true := by decide

/-- The Collect of a 20 coin: from the tube into the box. -/
theorem test_collect_banks_the_coin :
    leads (exec .boxEntryEvent { withCoins (calling .connected) with
        coin := { escrow := [⟨3, 20, .collect, 0⟩, ⟨4, 50, .no, 1⟩], gateOp := some ⟨.collect, false, 999, 0⟩, tickets := 1 } }) (fun t =>
      t.account.e = 50 ∧ t.account.b = 50 ∧ t.coin.tally.coins = 1 ∧ t.coin.tally.value = 20) = true := by decide

theorem test_no_command_is_spelt_by_bits : decodeTableWord 0 0 = none := by decide

/-! ### What the statements suppose can be met: the step and its laws -/

theorem witness_EmptyQueueStep :
    (State.reset.pending = [] ∧ { State.reset with supply := { inReset := true } }.supply.inReset = true)
    ∧ (run.pending = [] ∧ Running run ∧ readyCommand run = none)
    ∧ (let s := { run with coin := { gateQueue := [.refundAll] } }
       s.pending = [] ∧ Running s ∧ readyCommand s = some .gateOperationStart) := by unfold Running; decide

/-- The step of a part with nothing to do, for the laws below: time passes. -/
theorem witness_idle_step (s : State) (h : s.pending = []) (hi : (idle s).2 = none) : ∃ t, step s = .next t := by
  unfold step; rw [h]; simp only [hi]; exact ⟨_, rfl⟩

theorem witness_ArrayStaysCanonical : ArrayCanonical lockedRun ∧ ∃ t, step lockedRun = .next t :=
  ⟨by unfold ArrayCanonical; decide, witness_idle_step _ rfl (by decide)⟩

theorem witness_NoticeQueuesStayBounded : QueuesBounded run ∧ ∃ t, step run = .next t :=
  ⟨by intro p; cases p <;> decide, witness_idle_step _ rfl (by decide)⟩

theorem witness_MoneyLawsAreKept : MoneyLaws (withCoins (calling .collecting)) ∧ ∃ t, step (withCoins (calling .collecting)) = .next t := by
  refine ⟨⟨⟨by decide, by decide, by decide⟩, by decide, by decide, ⟨?_, by decide⟩, ⟨?_, ?_⟩, ⟨?_, ?_, ?_, ?_, ?_⟩, by decide⟩,
    witness_idle_step _ rfl (by decide)⟩
  · intro g h; cases h
  · rintro (h | ⟨g, h, _⟩)
    · cases h
    · cases h
  · intro r h; cases h
  · intro kc h; cases h
  · intro op h; cases h
  · intro op h; cases h
  · intro j h; cases h
  · intro x h; cases h

theorem witness_LineLawsAreKept : LineLaws (holding .connected) ∧ ∃ t, step (holding .connected) = .next t := by
  refine ⟨⟨?_, ⟨by decide, by decide, by decide, by decide⟩, ⟨by decide, by decide⟩,
    by decide, by decide, by decide, by decide, by decide, by decide, by decide, by decide, by decide, ?_⟩,
    witness_idle_step _ rfl (by decide)⟩
  · intro o h; cases h
  · intro stage h; cases h

theorem witness_LockedIdentityIsKept : LockedAs lockedIdentity lockedRun ∧ ∃ t, step lockedRun = .next t := by
  unfold LockedAs IdentityUntouched
  exact ⟨by decide, witness_idle_step _ rfl (by decide)⟩

/-! ### Notices and requests -/

def fullPort (n : Nat) : PortState :=
  { mask := 0b000001, queue := List.replicate n { kind := .coinCredited, time := none, fields := List.replicate 8 0 } }

theorem witness_NoticeIsOfferedToEachPort :
    (NoticeKind.boxNear = .boxNear ∧ Port.set ≠ .line)
    ∧ (0 : ClassBits) &&& classBit (noticeClass .coinCredited) = 0
    ∧ (¬ (NoticeKind.coinCredited = .boxNear ∧ Port.set ≠ .line)
        ∧ (fullPort 15).mask &&& classBit (noticeClass .coinCredited) ≠ 0 ∧ (fullPort 15).queue.length < 16)
    ∧ ((fullPort 16).mask &&& classBit (noticeClass .coinCredited) ≠ 0 ∧ 16 ≤ (fullPort 16).queue.length) := by decide

theorem witness_RequestsAreCheckedFirst :
    (requestOfCommand (.testGate .line) = some (.testGate, .line) ∧ run.supply.inReset = false ∧ permitted .testGate .line = false
      ∧ SlotFree .line run)
    ∧ (requestOfCommand (.readClock .line) = some (.readClock, .line) ∧ checking.supply.inReset = false
        ∧ permitted .readClock .line = true ∧ recovering checking = true ∧ SlotFree .line checking)
    ∧ (let s := { checking with
          ports := { line := { slot := .notReady, mask := 0 } }, store := { checking.store with read := some ⟨.call, 0, 1⟩ } }
       ¬ SlotFree .line s ∧ recovering s = true ∧ s.supply.inReset = false) := by unfold SlotFree; decide

theorem witness_ReadIdentityAnswers :
    (Running lockedRun ∧ SlotFree .set lockedRun) ∧ (Running run ∧ SlotFree .service run) := by
  unfold Running SlotFree; decide

theorem witness_ReadRequestsChangeNothing :
    (checking.supply.inReset = false ∧ SlotFree .service checking)
    ∧ (Running run ∧ SlotFree .set run ∧ SlotFree .line run ∧ SlotFree .service run)
    ∧ (7 ≤ 7 ∧ 3 ≤ 3) ∧ (47 ≤ 47 ∧ 47 < 48) ∧ (15 ≤ 15 ∧ 1 ≤ 1 ∧ 3 ≤ 3) := by unfold Running SlotFree; decide

/-- A sound frame of this code with no fields. -/
def frame (code : Byte) : List Byte := [code, 0, -code]

theorem witness_BadFramesAreAnswered :
    (run.supply.inReset = false ∧ SlotFree .set run ∧ ([1, 0] : List Byte).headD 0 ≠ 0 ∧ ([1, 0] : List Byte).length < 3)
    ∧ 120 < (([1, 121, 0] : List Byte).getD 1 0).toNat
    ∧ ([1, 1, 0] : List Byte).length ≠ (([1, 1, 0] : List Byte).getD 1 0).toNat + 3
    ∧ ([1, 0, 0] : List Byte).sum ≠ 0
    ∧ (3 ≤ (frame 37).length ∧ ((frame 37).getD 1 0).toNat ≤ 120 ∧ (frame 37).length = ((frame 37).getD 1 0).toNat + 3
        ∧ (frame 37).sum = 0 ∧ 36 < ((frame 37).getD 0 0).toNat)
    ∧ (3 ≤ (frame 1).length ∧ (frame 1).sum = 0 ∧ requestOf ((frame 1).getD 0 0).toNat = some .key ∧ Running run
        ∧ permitted .key .set = true ∧ fieldsFit .key (((frame 1).drop 2).dropLast) = false) := by
  unfold Running SlotFree; decide

theorem witness_ReadSelectPeriodActsBySlot :
    (run.supply.inReset = false ∧ (portOf run.ports .set).slot = .empty)
    ∧ ({ slot := .notReady, mask := 0 } : PortState).slot = .notReady
    ∧ (({ slot := .ready .ok [7], mask := 0 } : PortState).slot = .ready .ok [7] ∧ 3 < [7].length + 3 ∧ [7].length + 3 ≤ 4) := by
  decide

theorem witness_FetchedNoticesLeaveWhenRead :
    run.supply.inReset = false ∧ SlotFree .line run ∧ (2 : Nat) + 3 ≤ 5 ∧ 4 < (2 : Nat) + 3 := by unfold SlotFree; decide

theorem witness_NoticeMaskIsReplaced : Running run ∧ SlotFree .set run ∧ 63 ≤ 63 ∧ 63 < 64 := by
  unfold Running SlotFree; decide

/-! ### Keys, hook and call -/

theorem witness_CancelRestartsTheAnalysis :
    Running (calling .collecting) ∧ SlotFree .set (calling .collecting) ∧ (calling .collecting).call.state = .collecting
      ∧ 13 < 14 := by unfold Running SlotFree; decide

theorem witness_KeysByCallState :
    ∀ x ∈ [CallState.idle, .settling, .waitCoins, .waitLine, .connecting, .alerting, .refused, .clearing, .afterCall],
      Running (calling x) ∧ SlotFree .set (calling x) ∧ (calling x).call.state = x ∧ 11 ≤ 11 := by
  unfold Running SlotFree; decide

theorem witness_CancelAbandonsTheNumber :
    ∀ x ∈ [CallState.waitCoins, .waitLine], Running (calling x) ∧ SlotFree .set (calling x) ∧ (calling x).call.state = x := by
  unfold Running SlotFree; decide

theorem witness_DigitJoinsTheBuffer :
    (Running (calling .collecting) ∧ SlotFree .set (calling .collecting) ∧ (calling .collecting).call.state = .collecting
      ∧ 11 ≤ 11 ∧ candidates (calling .collecting).cfg.plan ([] ++ [11]) = [])
    ∧ candidates plan ([] ++ [2]) ≠ [] ∧ ∀ e, bestMatch plan ([] ++ [2]) = some e → isComplete ([] ++ [2]) e = false := by
  refine ⟨by unfold Running SlotFree; decide, by decide, ?_⟩
  intro e h
  have : bestMatch plan ([] ++ [2]) = some { digits := [2], minLen := 3, maxLen := 3, cls := .localCall } := by decide
  rw [this] at h; cases h; decide

theorem witness_CompleteNumberIsDecided :
    (let s := calling .collecting
     let e : PlanEntry := { digits := [0], minLen := 1, maxLen := 1, cls := .operator, emergency := true, noCoin := true }
     Running s ∧ SlotFree .set s ∧ s.call.state = .collecting ∧ 0 ≤ 11 ∧ candidates s.cfg.plan ([] ++ [0]) ≠ []
      ∧ bestMatch s.cfg.plan ([] ++ [0]) = some e ∧ isComplete ([] ++ [0]) e = true ∧ refusalOf s.alarm.service e = none
      ∧ 0 ≤ available s.account ∧ s.line.owner = .nobody ∧ s.line.waitingCustomer = none ∧ s.line.preempting = none
      ∧ s.line.slot = none)
    ∧ (let e : PlanEntry := { digits := [2], minLen := 3, maxLen := 3, cls := .localCall, barred := true }
       candidates (plan.set 0 e) [2, 2, 2] ≠ [] ∧ bestMatch (plan.set 0 e) [2, 2, 2] = some e ∧ isComplete [2, 2, 2] e = true
        ∧ refusalOf .inService e = some .barred)
    ∧ (let e : PlanEntry := { digits := [2], minLen := 3, maxLen := 3, cls := .localCall }
       bestMatch plan [2, 2, 2] = some e ∧ isComplete [2, 2, 2] e = true ∧ refusalOf .inService e = none
        ∧ available (calling .collecting).account < (Configuration.initial.bank.getD 1 []).foldl (fun m x => max m (x.connection + x.step)) 0) := by
  unfold Running SlotFree; decide

theorem witness_TimersOfTheCallEnd :
    (let s : State := { calling .collecting with analyser := { state := .awaitingFirst, timer := some (.firstDigit, 1200) } }
     awake s = true ∧ s.analyser.timer = some (.firstDigit, 1200))
    ∧ (let s : State := { calling .collecting with
          analyser := { state := .awaitingNext, buffer := [2], timer := some (.interDigit, 1060) }
          cfg := { Configuration.initial with plan := plan } }
       awake s = true ∧ s.analyser.timer = some (.interDigit, 1060)
        ∧ ∀ e, bestMatch s.cfg.plan s.analyser.buffer = some e → s.analyser.buffer.length < e.minLen)
    ∧ (awake run = true ∧ run.analyser.timer = none)
    ∧ (∀ t ∈ [CallTimer.deposit, .lineWait, .ring, .followOn],
        let s := { calling .waitCoins with call := { (calling .waitCoins).call with timer := some (t, 1600) } }
        awake s = true ∧ s.call.timer = some (t, 1600)) := by
  refine ⟨by decide, ⟨by decide, by decide, ?_⟩, by decide, by decide⟩
  intro e h
  have : bestMatch plan [2] = some { digits := [2], minLen := 3, maxLen := 3, cls := .localCall } := by decide
  have h' : bestMatch plan [2] = some e := h
  rw [this] at h'; cases h'; decide

theorem witness_KeysOfAnAnsweredCall :
    (let s := { holding .connected with call := { (holding .connected).call with afterDial := List.replicate 8 1 } }
     Running s ∧ SlotFree .set s ∧ s.call.state = .connected ∧ 11 ≤ 11 ∧ 8 ≤ s.call.afterDial.length)
    ∧ (let s := { holding .warning with
          call := { (holding .warning).call with afterDial := List.replicate 7 1 }
          line := { owner := .customer, slot := some ⟨.tone 3, 2, .customer, false, 1050⟩ } }
       Running s ∧ SlotFree .set s ∧ s.call.state = .warning ∧ s.call.afterDial.length < 8 ∧ s.line.slot ≠ none)
    ∧ (let s := holding .connected
       Running s ∧ SlotFree .set s ∧ s.call.afterDial = [] ∧ s.line.slot = none ∧ s.line.owner = .customer)
    ∧ (∀ x ∈ [true, false], let s := { holding .clearing with call := { (holding .clearing).call with hangUp := x } }
       Running s ∧ SlotFree .set s ∧ s.call.state = .clearing ∧ s.call.hangUp = x)
    ∧ (let s := calling .afterCall
       Running s ∧ s.call.state = .afterCall ∧ callTimerRuns .followOn s = false)
    ∧ (let s := { calling .afterCall with call := { (calling .afterCall).call with timer := some (.followOn, 1200) } }
       Running s ∧ SlotFree .set s ∧ s.call.state = .afterCall ∧ callTimerRuns .followOn s = true
        ∧ s.account.phase = .opened false) := by unfold Running SlotFree; decide

theorem witness_HookActsByCallState :
    (let s := { run with call := { hook := .on } }
     Running s ∧ s.call.holdFrom = none ∧ s.call.hookInput = false ∧ s.call.hook ≠ .stale ∧ s.call.restartEnd = false
      ∧ s.call.state = .idle ∧ s.account.phase = .idle)
    ∧ (Running run ∧ run.call.hook = .stale)
    ∧ (let s := { run with call := { hook := .on, state := .settling } }
       Running s ∧ s.call.state = .settling ∧ s.call.holdFrom = none ∧ s.call.hookInput = false)
    ∧ (Running (calling .collecting) ∧ (calling .collecting).call.hookInput = true ∧ (calling .collecting).call.holdFrom = none)
    ∧ (∀ x ∈ [CallState.idle, .clearing, .collecting, .waitCoins, .waitLine, .afterCall, .refused, .connecting, .alerting,
          .connected, .warning],
        let s := { calling x with call := { (calling x).call with hookInput := false, holdFrom := some 994 } }
        Running s ∧ s.call.holdFrom ≠ none ∧ s.call.state = x ∧ s.account.phase = .opened false) := by
  unfold Running; decide

theorem witness_LineEventsFitTheCallState :
    (Running run ∧ SlotFree .line run ∧ run.line.owner ≠ .customer)
    ∧ (let s := holding .alerting
       Running s ∧ SlotFree .line s ∧ s.line.owner = .customer ∧ s.call.state = .alerting ∧ s.call.acceptance = none)
    ∧ (let s := holding .warning
       Running s ∧ SlotFree .line s ∧ s.line.owner = .customer ∧ s.call.state = .warning) := by
  unfold Running SlotFree; decide

/-! ### Coins, gate, box and account -/

theorem witness_RaisingMarksTheSource :
    (0 < run.alarm.entries.length ∧ 0 ≠ 14) ∧ (15 < run.alarm.entries.length ∧ 15 ≠ 14) := by decide

theorem witness_AcceptPulseStartsAFlight :
    (awake run = true ∧ masterInhibit run = true)
    ∧ (awake (calling .collecting) = true ∧ masterInhibit (calling .collecting) = false
        ∧ channelValue (calling .collecting).cfg 7 = 0)
    ∧ (channelValue (calling .collecting).cfg 1 ≠ 0 ∧ channelValue (calling .collecting).cfg 6 ≠ 0
        ∧ (calling .collecting).coin.flight = none)
    ∧ (∀ n ∈ [0, 1], let s := { calling .collecting with coin := { flight := some ⟨4, 50, 999, .escrow, 0⟩, flightLoss := n } }
       masterInhibit s = false ∧ s.coin.flight ≠ none ∧ s.coin.flightLoss = n) := by decide

theorem witness_CoinTimersEnd :
    (awake run = true ∧ run.coin.flight = none ∧ run.coin.gateTest = none)
    ∧ (∀ n ∈ [0, 1], let s := { calling .collecting with coin := { flight := some ⟨4, 50, 996, .escrow, 0⟩, flightLoss := n } }
       awake s = true ∧ s.coin.flight ≠ none ∧ s.account.phase = .opened false ∧ s.coin.flightLoss = n)
    ∧ (let s := { run with
          account := { phase := .settling .flight false }, coin := { flight := some ⟨4, 50, 996, .escrow, 0⟩ } }
       awake s = true ∧ s.account.phase = .settling .flight false ∧ s.coin.flight ≠ none ∧ s.coin.escrow = []
        ∧ s.account.n = 0 ∧ s.coin.gateQueue = [] ∧ s.coin.flightLoss = 0)
    ∧ (let s := { run with coin := { gateTest := some 1000 } }
       awake s = true ∧ s.coin.gateTest ≠ none) := by decide

theorem witness_EscrowEntryCreditsTheCoin :
    (let f : Flight := ⟨4, 50, 999, .escrow, 0⟩
     let s := { calling .collecting with coin := { flight := some f } }
     awake s = true ∧ s.coin.flight = some f ∧ f.kind = .escrow ∧ s.account.phase = .opened false
      ∧ s.call.state ≠ .waitCoins ∧ s.tariff.meter.state = .stopped)
    ∧ (∀ v ∈ [29, 30],
        let f : Flight := ⟨4, v, 999, .escrow, 0⟩
        let s := { calling .waitCoins with
          coin := { flight := some f }, call := { (calling .waitCoins).call with acceptance := some acceptance } }
        awake s = true ∧ s.coin.flight = some f ∧ s.call.acceptance = some acceptance ∧ s.call.state = .waitCoins
          ∧ (available { s.account with d := v, e := v } < acceptance.deposit ↔ v = 29)) := by decide

theorem witness_StrayPassesAndRejectsRaise :
    (awake run = true ∧ run.coin.flight = none ∧ run.alarm.entries.length = 16 ∧ run.coin.lastCredited = none)
    ∧ (let s := withCoins { calling .collecting with coin := { lastCredited := some ⟨984, 1⟩ } }
       s.coin.lastCredited = some ⟨984, 1⟩ ∧ 984 + 15 < s.now)
    ∧ (let s := withCoins { calling .collecting with coin := { lastCredited := some ⟨985, 1⟩ } }
       awake s = true ∧ s.coin.flight = none ∧ s.alarm.entries.length = 16 ∧ s.coin.lastCredited = some ⟨985, 1⟩
        ∧ s.coin.escrow.getLast? = some ⟨4, 50, .no, 1⟩ ∧ s.now ≤ 985 + 15)
    ∧ (∀ n ∈ [399, 400], let s := { run with coin := { rejects := List.replicate 7 n } }
       awake s = true ∧ s.coin.rejects.length = 7 ∧ (s.now ≤ s.coin.rejects.headD s.now + 600 ↔ n = 400))
    ∧ (let s := { run with coin := { rejects := List.replicate 6 400 } }
       awake s = true ∧ s.coin.rejects.length < 7) := by decide

theorem witness_BoxEntryBanksTheCoin :
    (let g : GateOp := ⟨.collect, false, 999, 3⟩
     let s := withCoins { calling .connected with coin := { gateOp := some g } }
     awake s = true ∧ s.coin.gateOp = some g ∧ g.motion = .collect ∧ s.coin.escrow = ⟨3, 20, .no, 0⟩ :: [⟨4, 50, .no, 1⟩]
      ∧ s.coin.flight = none)
    ∧ (let f : Flight := ⟨6, 200, 999, .overflow, 3⟩
       let s := { calling .connected with coin := { flight := some f } }
       awake s = true ∧ s.coin.flight = some f ∧ f.kind = .overflow ∧ s.account.phase = .opened false ∧ s.coin.gateOp = none)
    ∧ (awake run = true ∧ run.coin.gateOp = none ∧ run.coin.flight = none)
    ∧ (1 ≤ 1 ∧ 1 ≤ 6 ∧ 1 ≤ 6 ∧ 6 ≤ 6 ∧ ({} : Tally).counts.length = 6) := by decide

theorem witness_ReturnChuteConfirms :
    (let g : GateOp := ⟨.refund, false, 999, 3⟩
     let s := withCoins { calling .settling with coin := { gateOp := some g } }
     awake s = true ∧ s.coin.gateOp = some g ∧ g.motion = .refund ∧ s.coin.escrow = ⟨3, 20, .no, 0⟩ :: [⟨4, 50, .no, 1⟩]
      ∧ s.call.state ≠ .waitCoins ∧ s.tariff.meter.state = .stopped)
    ∧ (GateOp.mk .collect false 999 3).motion ≠ .refund
    ∧ (let s := { run with coin := { gateTest := some 1004 } }
       awake s = true ∧ s.coin.gateOp = none ∧ s.coin.gateTest ≠ none)
    ∧ (awake (flushing 1) = true ∧ (flushing 1).coin.gateOp = none ∧ (flushing 1).coin.gateTest = none
        ∧ ((flushing 1).supply.recovery.map (fun r => (r.flushUntil.isSome, r.counted))) = some (true, false))
    ∧ (awake run = true ∧ run.coin.gateOp = none ∧ run.coin.gateTest = none ∧ run.supply.recovery = none) := by decide

theorem witness_GateTakesItsWorkAndItsTest :
    (awake run = true ∧ run.coin.gateQueue = [])
    ∧ (let s := withCoins { calling .connected with coin := { gateQueue := [.collect, .refundAll] } }
       awake s = true ∧ gateFree s = true ∧ s.supply.state = .normal ∧ .collect ∈ s.coin.gateQueue
        ∧ s.coin.escrow = ⟨3, 20, .no, 0⟩ :: [⟨4, 50, .no, 1⟩])
    ∧ (let s := withCoins { calling .settling with coin := { gateQueue := [.refundAll] } }
       gateFree s = true ∧ .collect ∉ s.coin.gateQueue ∧ .refundAll ∈ s.coin.gateQueue)
    ∧ (let s := { calling .settling with coin := { gateQueue := [.refundAll] } }
       gateFree s = true ∧ s.coin.escrow = [] ∧ .collect ∉ s.coin.gateQueue ∧ .refundAll ∈ s.coin.gateQueue)
    ∧ (Running (calling .collecting) ∧ SlotFree .service (calling .collecting) ∧ (calling .collecting).call.state ≠ .idle)
    ∧ (∀ x ∈ [none, some 1004], let s := { run with coin := { gateTest := x } }
       Running s ∧ SlotFree .service s ∧ s.call.state = .idle ∧ s.coin.escrow = [] ∧ s.coin.gateOp = none
        ∧ s.coin.gateQueue = [] ∧ s.supply.state = .normal ∧ s.coin.gateTest = x) := by unfold Running SlotFree; decide

theorem witness_GateWindowsRunOut :
    (awake run = true ∧ run.alarm.entries.length = 16 ∧ run.coin.gateOp = none)
    ∧ (∀ m ∈ [Motion.collect, .refund], ∀ second ∈ [true, false],
        let g : GateOp := ⟨m, second, 994, 3⟩
        let s := withCoins { calling .connected with coin := { gateOp := some g } }
        awake s = true ∧ s.alarm.entries.length = 16 ∧ s.coin.gateOp = some g ∧ g.second = second ∧ g.motion = m
          ∧ s.coin.escrow = ⟨3, 20, .no, 0⟩ :: [⟨4, 50, .no, 1⟩]) := by decide

theorem witness_CollectionsOpenAndClose :
    (let s := { run with coin := { lockoutUntil := some 1001 } }
     Running s ∧ SlotFree .service s ∧ (List.replicate 8 11).length = 8 ∧ (List.replicate 8 11).all (· ≤ 11) = true
      ∧ s.coin.lockoutUntil ≠ none)
    ∧ (∀ w ∈ [none, some 1001], let s := { run with coin := { windowUntil := w } }
       Running s ∧ s.coin.lockoutUntil = none ∧ List.replicate 8 0 = s.cfg.code ∧ s.coin.windowUntil = w)
    ∧ (∀ n ∈ [1, 2], let s := { run with coin := { wrongCodes := n } }
       Running s ∧ s.coin.lockoutUntil = none ∧ List.replicate 8 1 ≠ s.cfg.code ∧ s.alarm.entries.length = 16
        ∧ (s.coin.wrongCodes < 2 ↔ n = 1))
    ∧ (Running run ∧ SlotFree .service run ∧ run.coin.windowUntil = none)
    ∧ (∀ full ∈ [true, false],
        let s := { run with
          coin := { windowUntil := some 1001 }
          store := { run.store with callRing := { sector := 4, full := full } } }
        Running s ∧ SlotFree .service s ∧ s.coin.windowUntil ≠ none ∧ nextWork s.store = none
          ∧ ((postRing .call (.collection { time := timeOfDay s, tally := s.coin.tally, capacity := s.cfg.capacity }) s.store
                = none) ↔ full = true)) := by unfold Running SlotFree; decide

theorem witness_AccountsEndAndCarry :
    (∀ held ∈ [true, false],
      let s := { run with
        account := { phase := .settling .refund false }
        coin := { gateQueue := [.refundAll] }
        call := { state := .settling, hook := .off, heldOffHook := held, restartEnd := !held } }
      awake s = true ∧ s.account.phase = .settling .refund false ∧ s.coin.gateOp = none ∧ s.coin.escrow = []
        ∧ s.coin.gateTest = none ∧ s.supply.recovery = none ∧ s.supply.state = .normal ∧ s.coin.gateQueue = [.refundAll]
        ∧ s.call.heldOffHook = held)
    ∧ (let r : Recovery := { stage := 4, phase := .settling }
       let s := { run with account := { phase := .settling .refund true }, supply := { recovery := some r } }
       awake s = true ∧ s.supply.recovery = some r ∧ s.account.phase = .settling .refund true ∧ s.coin.gateOp = none
        ∧ s.coin.escrow = [] ∧ s.coin.gateQueue = [])
    ∧ (awake run = true ∧ run.account.phase = .idle ∧ run.account.phase ≠ .opened true)
    ∧ (let s := withCoins { calling .afterCall with account := { phase := .opened true } }
       awake s = true ∧ s.account.phase = .opened true ∧ s.account.n = 0) := by decide

/-! ### Metering, tariffs and the clock -/

/-- A METERED call in this state whose account has banked just this much, with nothing in the tube. -/
def funded (x : CallState) (n : Nat) : State :=
  let s := metered x
  { s with coin := {}, account := { phase := .opened false, d := n, b := n } }

theorem witness_AnswerStartsMetering :
    (let s := funded .alerting 10
     Running s ∧ SlotFree .line s ∧ s.line.owner = .customer ∧ s.call.state = .alerting ∧ s.tariff.meter.state = .stopped
      ∧ s.account.phase = .opened false ∧ s.call.acceptance = some acceptance ∧ acceptance.row = some row
      ∧ row.getD (bandInForce s) TariffEntry.initial = entry ∧ entry.connection ≤ available s.account
      ∧ entry.source = .localSteps ∧ entry.free ≠ 0)
    ∧ (let s := funded .alerting 30
       let e := { entry with free := 0 }
       e.connection ≤ available s.account ∧ e.source = .localSteps ∧ e.free = 0
        ∧ e.step ≤ available { s.account with c := s.account.c + e.connection })
    ∧ (let e := { entry with source := .exchange }
       e.connection ≤ available (funded .alerting 10).account ∧ e.source = .exchange)
    ∧ available (funded .alerting 9).account < entry.connection := by unfold Running SlotFree; decide

/-- A metered call with this metering state, in its entry. -/
def metering (x : CallState) (n : Nat) (m : MeterState) : State :=
  let s := funded x n
  { s with tariff := { s.tariff with meter :=
      { state := m, row := some row, entry := some entry, periodUntil := some 1100 } } }

theorem witness_MeterPulseCharges :
    (∀ n ∈ [19, 20], let s := metering .connected n .pulsed
      Running s ∧ SlotFree .line s ∧ s.line.owner = .customer ∧ s.call.state = .connected ∧ s.tariff.meter.state = .pulsed
        ∧ s.account.phase = .opened false ∧ ((entryInForce s).step ≤ available s.account ↔ n = 20))
    ∧ (let s := metering .warning 20 .forced
       Running s ∧ s.call.state = .warning ∧ s.tariff.meter.state ≠ .pulsed)
    ∧ ∀ carry, (AccountPhase.settling .refund false) = .opened carry → carry = true :=
  ⟨by unfold Running SlotFree; decide, by unfold Running; decide, by intro carry h; cases h⟩

theorem witness_StepsAndWarningPointsAreMetered :
    (awake run = true ∧ periodRuns run.tariff.meter = false)
    ∧ (∀ n ∈ [19, 20], ∀ x ∈ [CallState.connected, .warning], let s := metering x n .stepping
       awake s = true ∧ periodRuns s.tariff.meter = true ∧ s.account.phase = .opened false ∧ s.call.state = x
        ∧ ((entryInForce s).step ≤ available s.account ↔ n = 20)
        ∧ s.tariff.meter.warnPassed = false ∧ s.tariff.meter.warned = false) := by decide

theorem witness_ClockAndCalendarAreSet :
    (Running run ∧ SlotFree .line run ∧ timeValid { noon with month := 13 } = false)
    ∧ (timeValid noon = true ∧ run.tariff.schedule = .none ∧ run.tariff.clock = none)
    ∧ (scheduledTime (.waitingClock { noon with second := 1 }) = some { noon with second := 1 }
        ∧ secondsOf noon < secondsOf { noon with second := 1 })
    ∧ ({ run with tariff := { clock := some ⟨noon, 0⟩ } }.tariff.clock ≠ none)
    ∧ (let points : List (Nat × Nat) := [(0, 3), (1439, 0)]
       1 ≤ points.length ∧ points.length ≤ 6 ∧ (points.head?.map (·.1)) = some 0 ∧ points.Pairwise (fun a b => a.1 < b.1)
        ∧ ∀ p ∈ points, p.1 ≤ 1439 ∧ p.2 ≤ 3)
    ∧ (([] : List (Nat × Nat)).length = 0 ∧ 6 < (List.replicate 7 (0, 0)).length
        ∧ (([(1, 0)] : List (Nat × Nat)).head?.map (·.1)) ≠ some 0
        ∧ ¬ ([(0, 0), (0, 1)] : List (Nat × Nat)).Pairwise (fun a b => a.1 < b.1)
        ∧ ¬ (∀ p ∈ ([(0, 4)] : List (Nat × Nat)), p.1 ≤ 1439 ∧ p.2 ≤ 3))
    ∧ (19 ≤ 19 ∧ 19 < 20 ∧ dateValid ⟨2028, 2, 29⟩ = true ∧ dateValid ⟨2029, 2, 29⟩ = false)
    ∧ ∀ k, k ≠ 0 → run.cfg.holidays.getD k none ≠ some ⟨2028, 2, 29⟩ := by
  refine ⟨by unfold Running SlotFree; decide, by decide, by decide, by decide, by decide, by decide, by decide, ?_⟩
  intro k _ h
  have : ∀ l : List (Option Date), (∀ x ∈ l, x = none) → ∀ k, l.getD k none = none := by
    intro l hl k
    rw [List.getD_eq_getElem?_getD]
    cases hk : l[k]? with
    | none => rfl
    | some x => exact hl x (List.mem_of_getElem? hk)
  rw [this _ (by decide) k] at h
  cases h

def tariffFields : TariffFields := ⟨65535, 65535, 36000, 36000, 6000, some .exchange, 600⟩

theorem witness_TariffEntriesAreWritten :
    (Running run ∧ SlotFree .line run ∧ 7 < 8 ∧ 3 < 4)
    ∧ (7 ≤ 7 ∧ 3 ≤ 3 ∧ run.tariff.schedule = .none
        ∧ (tariffFields.connection ≤ 65535 ∧ 1 ≤ tariffFields.step ∧ tariffFields.step ≤ 65535 ∧ 10 ≤ tariffFields.period
          ∧ tariffFields.period ≤ 36000 ∧ (tariffFields.firstPeriod = 0 ∨ (10 ≤ tariffFields.firstPeriod ∧ tariffFields.firstPeriod ≤ 36000))
          ∧ tariffFields.free ≤ 6000 ∧ tariffFields.free % 10 = 0 ∧ tariffFields.source ≠ none ∧ 50 ≤ tariffFields.lead
          ∧ tariffFields.lead ≤ 600 ∧ tariffFields.lead % 10 = 0))
    ∧ ¬ (50 ≤ ({ tariffFields with lead := 49 } : TariffFields).lead)
    ∧ scheduledTime (.scheduled noon) = some noon := by unfold Running SlotFree; decide

/-- A part whose PENDING bank holds an entry. -/
def pendingPart (x : Schedule) : State :=
  { run with tariff := { run.tariff with
      pendingBank := run.tariff.pendingBank.set 1 [some entry, none, none, none], schedule := x, clock := some ⟨noon, 0⟩ } }

theorem witness_ActivationCopiesTheBank :
    (Running (pendingPart (.scheduled noon)) ∧ (pendingPart (.scheduled noon)).tariff.schedule = .scheduled noon)
    ∧ (Running run ∧ run.tariff.schedule = .none ∧ SlotFree .line run ∧ pendingEmpty run.tariff = true)
    ∧ (let s := pendingPart .none
       Running s ∧ SlotFree .line s ∧ pendingEmpty s.tariff = false ∧ nextWork s.store = none ∧ queueHasRoom s.store = true
        ∧ s.store.queue.any isCommit = false ∧ s.cfg.bank.length = 8 ∧ (∀ r ∈ s.cfg.bank, r.length = 4)
        ∧ s.tariff.pendingBank.length = 8 ∧ (∀ r ∈ s.tariff.pendingBank, r.length = 4)
        ∧ timeValid noon = true ∧ clockReached noon s = true ∧ clockReached { noon with second := 1 } s = false
        ∧ s.tariff.clock ≠ none)
    ∧ timeValid { noon with hour := 24 } = false
    ∧ (let s := { pendingPart .none with tariff := { (pendingPart .none).tariff with clock := none } }
       pendingEmpty s.tariff = false ∧ clockReached noon s = false ∧ s.tariff.clock = none) := by
  unfold Running SlotFree; decide

/-! ### Orders and the line -/

theorem witness_OrdersAreFetchedAndDone :
    (Running run ∧ SlotFree .line run ∧ run.line.slot = none)
    ∧ (outcomesOf .tone).contains .cleared = false
    ∧ (∀ o ∈ outcomesOf .connect, (outcomesOf .connect).contains o = true)
    ∧ (let o : Order := ⟨.connect [2] .localCall, 255, .customer, true, 1400⟩
       let s := { holding .connecting with line := { owner := .customer, slot := some o } }
       Running s ∧ SlotFree .line s ∧ s.line.slot = some o ∧ o.taken = true ∧ o.number = 255 ∧ orderKind o.body = .connect
        ∧ s.call.state = .connecting)
    ∧ (let o : Order := ⟨.tone 5, 1, .customer, true, 1050⟩
       let s := { holding .connected with line := { owner := .customer, slot := some o } }
       s.line.slot = some o ∧ orderKind o.body = .tone ∧ s.call.afterDial = [])
    ∧ (let o : Order := ⟨.release, 2, .customer, true, 1050⟩
       let s := { holding .clearing with line := { owner := .customer, slot := some o } }
       s.line.slot = some o ∧ orderKind o.body = .release ∧ s.call.state = .clearing ∧ s.call.hangUp = false
        ∧ s.call.followOn = false ∧ s.line.waitingCustomer = none ∧ s.line.waitingReport = none) := by
  unfold Running SlotFree; decide

theorem witness_CentreSessionsRunTheirTime :
    (Running run ∧ SlotFree .line run ∧ run.line.owner = .nobody ∧ run.line.waitingCustomer = none
      ∧ run.line.waitingReport = none ∧ run.line.owner ≠ .centre)
    ∧ (Running (holding .connected) ∧ (holding .connected).line.owner ≠ .nobody)
    ∧ (let s := { run with line := { owner := .centre, centreUntil := some 1000 } }
       Running s ∧ SlotFree .line s ∧ s.line.owner = .centre ∧ s.line.waitingCustomer = none ∧ s.line.waitingReport = none
        ∧ s.line.preempting = none ∧ s.line.centreUntil ≠ none ∧ currentKind s.line ≠ some .abort)
    ∧ (let s := { run with line := { owner := .centre, centreUntil := some 1000, slot := some ⟨.abort false, 1, .centre, false, 1050⟩ } }
       s.line.owner = .centre ∧ s.line.centreUntil ≠ none ∧ currentKind s.line = some .abort) := by
  unfold Running SlotFree; decide

theorem witness_LineFailureEndsTheOwnership :
    (Running run ∧ SlotFree .line run ∧ run.alarm.entries.length = 16 ∧ run.line.owner = .nobody ∧ run.line.slot = none
      ∧ nextWork run.store = none ∧ (alarmEntry run.alarm srcLineFault).state = .quiet)
    ∧ (∀ x ∈ [CallState.connecting, .alerting, .connected, .warning],
        let s := { holding x with line := { owner := .customer, slot := some ⟨.tone 1, 1, .customer, true, 1000⟩ } }
        Running s ∧ SlotFree .line s ∧ s.alarm.entries.length = 16 ∧ s.line.owner = .customer ∧ s.line.waitingCustomer = none
          ∧ s.line.preempting = none ∧ s.call.state = x ∧ s.call.hangUp = false ∧ s.call.followOn = false ∧ s.line.slot ≠ none)
    ∧ (∀ x ∈ [AlarmState.raised, .reported],
        let s := { run with alarm := { run.alarm with entries := run.alarm.entries.set srcLineFault { state := x, count := 1 } } }
        Running s ∧ s.alarm.entries.length = 16 ∧ nextWork s.store = none ∧ (alarmEntry s.alarm srcLineFault).state = x) := by
  unfold Running SlotFree; decide

/-! ### Settings, alarms and reports -/

theorem witness_ConfigurationIsWritten :
    (Running run ∧ SlotFree .line run ∧ 0 < 1 ∧ 6 < 7)
    ∧ (1 ≤ 1 ∧ 1 ≤ 6 ∧ 6 ≤ 6 ∧ 65535 ≤ 65535 ∧ run.call.state = .idle ∧ (calling .collecting).call.state ≠ .idle)
    ∧ (∀ x ∈ [CallState.collecting, .waitCoins], (calling x).call.state = x)
    ∧ (run.call.state ≠ .collecting ∧ run.call.state ≠ .waitCoins ∧ 47 < 48 ∧ 10 < (List.replicate 11 0).length
        ∧ ¬ (∀ d ∈ [12], d ≤ 11))
    ∧ (let f : PlanFields := ⟨[11], 25, 24, 8, none, none, none, none⟩
       f.digits ≠ [] ∧ 24 < f.minLen ∧ f.maxLen < f.minLen ∧ 7 < f.cls ∧ f.barred = none ∧ f.dialAtMin = none)
    ∧ (let f : PlanFields := ⟨[11], 24, 24, 7, some true, some false, some true, some false⟩
       47 ≤ 47 ∧ f.digits ≠ [] ∧ f.digits.length ≤ 10 ∧ (∀ d ∈ f.digits, d ≤ 11) ∧ 1 ≤ f.minLen ∧ f.minLen ≤ 24
        ∧ f.minLen ≤ f.maxLen ∧ f.maxLen ≤ 24 ∧ f.digits.length ≤ f.maxLen ∧ classOfNumber f.cls = some .operator
        ∧ f.barred = some true ∧ f.emergency = some false ∧ f.noCoin = some true ∧ f.dialAtMin = some false)
    ∧ (∀ j, j ≠ 1 → (run.cfg.plan.getD j {}).digits ≠ [11])
    ∧ (1 < 2 ∧ 2 ≤ 2 ∧ 30 ≤ 30 ∧ 30 < 31) ∧ (29 < 30 ∧ 300 ≤ 300 ∧ 300 < 301)
    ∧ (99 < 100 ∧ 3000 ≤ 3000 ∧ 3000 < 3001 ∧ run.coin.tally.coins < (100 * 9 + 9) / 10)
    ∧ ((List.replicate 7 0).length ≠ 8 ∧ ¬ (∀ d ∈ List.replicate 8 10, d ≤ 9) ∧ (List.replicate 8 9).length = 8
        ∧ ∀ d ∈ List.replicate 8 9, d ≤ 9) := by
  refine ⟨by unfold Running SlotFree; decide, by decide, by decide, by decide, by decide, by decide, ?_, by decide, by decide,
    by decide, by decide⟩
  intro j _ h
  have : ∀ l : List PlanEntry, (∀ x ∈ l, x.digits ≠ [11]) → ∀ k, (l.getD k {}).digits ≠ [11] := by
    intro l hl k
    rw [List.getD_eq_getElem?_getD]
    cases hk : l[k]? with
    | none => decide
    | some x => exact hl x (List.mem_of_getElem? hk)
  exact this _ (by decide) j h

theorem witness_AlarmAndReportSetupsAreWritten :
    (Running run ∧ SlotFree .line run ∧ 15 ≤ 15 ∧ 15 < 16)
    ∧ (7 ≤ 7 ∧ 1 ≤ 1 ∧ 15 ≤ 15 ∧ 10 ≤ 10 ∧ 2550 ≤ 2550 ∧ 2550 % 10 = 0 ∧ 7 < 8 ∧ 0 < 1 ∧ 15 < 16 ∧ 9 < 10 ∧ 2550 < 2551 ∧ 15 % 10 ≠ 0)
    ∧ ((List.replicate 16 11).length ≤ 16 ∧ (∀ d ∈ List.replicate 16 11, d ≤ 11) ∧ 16 < (List.replicate 17 0).length
        ∧ ¬ (∀ d ∈ [12], d ≤ 11)) := by unfold Running SlotFree; decide

/-- A part with this one sensor in this state. -/
def sensing (i : Nat) (v : Sensor) : State :=
  { run with alarm := { run.alarm with sensors := run.alarm.sensors.set i v } }

theorem witness_SensorEdgesCountHits :
    (awake run = true ∧ 7 ≤ 7 ∧ (sensorState run.alarm 7).level = false)
    ∧ ((sensorState run.alarm 7).level ≠ true ∧ (sensorSetup run.cfg 7).mode = .disabled)
    ∧ (let s := { run with coin := { windowUntil := some 1001 } }
       awake s = true ∧ (sensorState s.alarm 0).level ≠ true ∧ s.coin.windowUntil ≠ none)
    ∧ ((sensorState run.alarm 0).level ≠ true ∧ ¬ (0 = 0 ∧ run.coin.windowUntil ≠ none)
        ∧ (sensorSetup run.cfg 0).mode = .rising ∧ (sensorSetup run.cfg 0).threshold ≤ ([] ++ [run.now]).length
        ∧ run.now ≤ ([] ++ [run.now]).getD 0 0 + (sensorSetup run.cfg 0).window * 10)
    ∧ (∀ n ∈ [899, 900], let s := sensing 3 { hits := [n, 950] }
       awake s = true ∧ (sensorState s.alarm 3).level ≠ true ∧ (sensorSetup s.cfg 3).mode = .rising
        ∧ (sensorSetup s.cfg 3).threshold ≤ ([n, 950] ++ [s.now]).length
        ∧ (s.now ≤ ([n, 950] ++ [s.now]).getD (([n, 950] ++ [s.now]).length - (sensorSetup s.cfg 3).threshold) 0
            + (sensorSetup s.cfg 3).window * 10 ↔ n = 900)) := by decide

/-- A part with this one source in this state. -/
def alarmed (i : Nat) (x : AlarmState) : State :=
  { run with alarm := { run.alarm with entries := run.alarm.entries.set i { state := x, count := 1, latest := some ⟨52, 0, 0⟩ } } }

theorem witness_AlarmsAreClearedAndAcknowledged :
    (Running run ∧ run.alarm.entries.length = 16 ∧ SlotFree .service run ∧ Port.service ≠ .set ∧ 15 < 16
      ∧ (alarmEntry run.alarm 0).state = .quiet ∧ atActiveLevel run 0 = false)
    ∧ (let s := alarmed 9 .reporting
       Running s ∧ s.alarm.entries.length = 16 ∧ 9 ≤ 15 ∧ (alarmEntry s.alarm 9).state = .reporting)
    ∧ (let s := sensing 0 { level := true }
       0 ≤ 7 ∧ atActiveLevel s 0 = true)
    ∧ (let s := { run with coin := { tally := { coins := 1200 } } }
       s.cfg.capacity ≤ s.coin.tally.coins)
    ∧ (∀ x ∈ [AlarmState.raised, .reported], ∀ i ∈ [0, 15], let s := alarmed i x
       Running s ∧ s.alarm.entries.length = 16 ∧ SlotFree .line s ∧ i ≤ 15 ∧ (alarmEntry s.alarm i).state = x
        ∧ ¬ ((i ≤ 7 ∧ atActiveLevel s i = true) ∨ (i = srcBoxFull ∧ s.cfg.capacity ≤ s.coin.tally.coins)) ∧ i ≠ srcStore
        ∧ nextWork s.store = none ∧ queueHasRoom s.store = true ∧ (alarmEntry s.alarm i).latest = some ⟨52, 0, 0⟩)
    ∧ (16 < (List.replicate 17 0).length ∧ ¬ (∀ j ∈ [16], j ≤ 15))
    ∧ (Running run ∧ run.report.state ≠ .backoff)
    ∧ (let s := { run with report := { state := .backoff, backoffUntil := some 1000 } }
       Running s ∧ s.report.state = .backoff ∧ reportNeeded s = false)
    ∧ (let s := { alarmed 0 .raised with
          report := { state := .backoff, backoffUntil := some 1000 }
          cfg := { run.cfg with primary := [1] }
          store := lockedRun.store
          line := { owner := .customer } }
       Running s ∧ s.report.state = .backoff ∧ reportNeeded s = true ∧ s.line.owner = .customer) := by
  unfold Running SlotFree; decide

/-! ### The record store -/

/-- A part with these operations waiting, and this one programmed or erased. -/
def storing (queue : List StoreOp) (program : Option ProgramJob) (erase : Option EraseJob) : State :=
  { run with store := { run.store with queue := queue, program := program, erase := erase } }

/-- A part with a coin record of the call ring present. -/
def recorded : State :=
  { run with store := { run.store with
      array := { run.store.array with cells := [(placeKey 4 0, { record := none, marks := [] })] }
      callRing := { sector := 4, used := 1 } } }

theorem witness_RecordsAreReadAndAcknowledged :
    (Running run ∧ SlotFree .line run ∧ 3071 < 3072 ∧ 0 < 1 ∧ 4 < 5)
    ∧ (3071 ≤ 3071 ∧ 1 ≤ 1 ∧ 4 ≤ 4 ∧ readable run.store = true)
    ∧ (let s := storing [] (some ⟨.commit, false⟩) none
       Running s ∧ SlotFree .line s ∧ readable s.store = false)
    ∧ (0 < 1 ∧ 3072 < 3073 ∧ (ringPresent .call run.store).length < 1)
    ∧ (Running recorded ∧ SlotFree .line recorded ∧ nextWork recorded.store = none ∧ 1 ≤ 1 ∧ 1 ≤ 3072
        ∧ (ringPresent .call recorded.store)[1 - 1]? = some (0, ⟨4, 0, 0⟩, { record := none, marks := [] })
        ∧ queueHasRoom recorded.store = true)
    ∧ (let s := { recorded with store := { recorded.store with queue := List.replicate 8 .commit } }
       Running s ∧ nextWork s.store = none ∧ queueHasRoom s.store = false)
    ∧ ((ringPresent .call run.store).length ≤ 0)
    ∧ (run.store.read = none)
    ∧ (let s := { run with store := { run.store with read := some ⟨.call, 0, 1⟩ } }
       Running s ∧ s.store.read = some ⟨.call, 0, 1⟩ ∧ readable s.store = true) := by
  unfold Running SlotFree; decide

def someMark : StoreOp := .mark ⟨4, 0, 0⟩ .acknowledged

theorem witness_StoreTakesOperations :
    (let s := storing [] (some ⟨someMark, false⟩) none
     awake s = true ∧ s.store.program ≠ none)
    ∧ (let s := { run with store := { run.store with reserved := some someMark } }
       awake s = true ∧ s.store.program = none ∧ s.store.read = none ∧ s.store.erase = none ∧ s.store.reserved = some someMark
        ∧ (programSector someMark).isSome = true)
    ∧ (run.store.reserved = none ∧ run.store.queue = [])
    ∧ (∀ op ∈ [someMark, .erase 5 1, .commit], let s := storing [op] none none
       awake s = true ∧ s.store.program = none ∧ s.store.read = none ∧ s.store.erase = none ∧ s.store.reserved = none
        ∧ s.store.queue = op :: [] ∧ s.supply.state = .normal ∧ 5 ≠ 0)
    ∧ (let s := { storing [.commit] none none with supply := { recovery := none, state := .warn } }
       awake s = true ∧ s.supply.state = .warn ∧ programSector .commit = none)
    ∧ (let j : EraseJob := ⟨5, 1, false, .running⟩
       ∀ op ∈ [someMark, .commit, .mark ⟨5, 0, 0⟩ .reported], let s := storing [op] none (some j)
       awake s = true ∧ s.store.program = none ∧ s.store.read = none ∧ s.store.erase = some j ∧ j.phase = .running
        ∧ s.store.reserved = none ∧ s.store.queue = op :: [] ∧ s.supply.state = .normal)
    ∧ (programSector someMark = some 4 ∧ 4 ≠ 5 ∧ programSector (.mark ⟨5, 0, 0⟩ .reported) = some 5)
    ∧ (awake run = true ∧ run.store.erase = none)
    ∧ (∀ x ∈ [ErasePhase.slice, .suspended], let s := storing [] none (some ⟨5, 1, false, x⟩)
       awake s = true ∧ s.store.erase = some ⟨5, 1, false, x⟩ ∧ (x = .slice ∨ x ≠ .slice)) := by decide

theorem witness_ArrayOperationsEnd :
    (awake run = true ∧ run.store.program = none ∧ run.store.erase = none)
    ∧ (∀ op ∈ [.record ⟨0, 0, 0⟩ (.identity [1] 7), someMark, .mark ⟨0, 0, 0⟩ .lock, .mark ⟨52, 0, 0⟩ .reported,
          .mark ⟨52, 0, 1⟩ .reported],
        let s := storing [] (some ⟨op, false⟩) none
        awake s = true ∧ s.store.program = some ⟨op, false⟩)
    ∧ (headerSeq 52 run.store.array.headers = some 0 ∧ headerSeq 52 run.store.array.headers ≠ some 1)
    ∧ (readCell (placeKey 4 0) recorded.store.array.cells = some { record := none, marks := [] })
    ∧ (∀ x ∈ [ErasePhase.suspended, .stopped, .running], ∀ c ∈ [true, false],
        let s := storing [] none (some ⟨1, 1, c, x⟩)
        awake s = true ∧ s.store.erase = some ⟨1, 1, c, x⟩)
    ∧ (∀ k ∈ [1, 2], let s := storing [] none (some ⟨k, 0, true, .programming run.cfg⟩)
       awake s = true ∧ s.store.erase = some ⟨k, 0, true, .programming run.cfg⟩) := by decide

/-- A part whose call ring is owed an erase, FULL or not. -/
def owing (full : Bool) : State :=
  { run with store := { run.store with
      array := { run.store.array with headers := [(3, 0), (4, 0), (52, 0), (53, 1)] }
      callRing := { sector := 4, full := full } } }

theorem witness_OwedWorkIsQueued :
    (awake run = true ∧ eraseEligible .call run.store = false ∧ eraseEligible .alarm run.store = false)
    ∧ (∀ full ∈ [true, false], awake (owing full) = true ∧ eraseEligible .call (owing full).store = true
        ∧ (ringOf (owing full).store .call).full = full)
    ∧ (run.store.totals.calls = 0 ∧ (owing true).store.callRing.full = true)
    ∧ (∀ n ∈ [7, 8],
        let s := { run with store := { run.store with totals := { calls := 1, d := 5 }, queue := List.replicate n .commit } }
        awake s = true ∧ 0 < s.store.totals.calls ∧ s.store.callRing.full = false
          ∧ ((postRing .call (.overflow s.store.totals (timeOfDay s)) s.store = none) ↔ n = 8))
    ∧ (∀ l ∈ [[], [.commit], List.replicate 8 someMark], let s := storing l none none
       awake s = true ∧ Running s ∧ SlotFree .line s ∧ nextWork s.store = none
        ∧ (s.store.queue.any isCommit = true ↔ l = [.commit]) ∧ (queueHasRoom s.store = false ↔ l.length = 8)) := by
  unfold Running SlotFree; decide

theorem witness_IdentityIsWrittenAndLocked :
    (Running run ∧ SlotFree .service run ∧ Port.service ≠ .set)
    ∧ ((List.replicate 16 9).length ≤ 16 ∧ (∀ d ∈ List.replicate 16 9, d ≤ 9) ∧ 65535 ≤ 65535)
    ∧ (¬ (List.replicate 17 9).length ≤ 16 ∧ ¬ (∀ d ∈ [10], d ≤ 9) ∧ ¬ 65536 ≤ 65535)
    ∧ (Running lockedRun ∧ SlotFree .line lockedRun ∧ lockedRun.store.identity.lock ≠ .unlocked)
    ∧ (run.store.identity.lock = .unlocked ∧ nextWork run.store = none ∧ run.store.identity.terminal = [])
    ∧ (∀ n ∈ [63, 64], ∀ m ∈ [6, 7, 8],
        let s := { run with store := { run.store with
          queue := List.replicate m .commit, identity := { terminal := [1], next := n, newest := some (n - 1) } } }
        Running s ∧ SlotFree .line s ∧ s.store.identity.lock = .unlocked ∧ s.store.identity.terminal ≠ []
          ∧ nextWork s.store = none ∧ s.store.identity.newest = some (n - 1)
          ∧ (s.store.identity.next < 64 ↔ n = 63) ∧ (8 ≤ queueUsed s.store ↔ m = 8) ∧ (queueUsed s.store < 7 ↔ m = 6)) := by
  unfold Running SlotFree; decide

/-! ### Supply and recovery -/

/-- A part in WARN whose save record has the save area's first place. -/
def saving (reserved : Option StoreOp) (program : Option ProgramJob) : State :=
  { run with
    supply := { recovery := none, state := .warn }
    store := { run.store with
      saveNext := 1, currentSave := some ⟨3, 0, 0⟩, reserved := reserved, program := program } }

theorem witness_SupplyCrossingsSaveTheAccount :
    (let s := saving none none
     Running s ∧ s.supply.state = .warn ∧ s.store.nextSave = none ∧ s.store.currentSave = some ⟨3, 0, 0⟩
      ∧ s.store.reserved = none ∧ s.store.program = none)
    ∧ (Running run ∧ run.supply.state = .normal ∧ run.store.erase = none ∧ savePlaceUsable run.store = true
        ∧ reservedTaken run.store = false ∧ nextWork run.store = none)
    ∧ (∀ n ∈ [63, 64], let s := { run with store := { run.store with saveNext := n } }
       Running s ∧ s.supply.state = .normal ∧ nextWork s.store = none ∧ (savePlaceUsable s.store = false ↔ n = 64))
    ∧ (let s := storing [] none (some ⟨1, 0, true, .running⟩)
       Running s ∧ s.supply.state = .normal ∧ s.store.erase = some ⟨1, 0, true, .running⟩)
    ∧ (let s := { run with supply := { recovery := none, state := .warn } }
       Running s ∧ s.supply.state = .warn ∧ s.store.nextSave = none ∧ s.store.currentSave = none)
    ∧ (let op : StoreOp := .record ⟨3, 0, 0⟩ (.identity [] 0)
       (saving (some op) none).store.reserved = some op ∧ (saving none (some ⟨op, true⟩)).store.program = some ⟨op, true⟩
        ∧ (saving none (some ⟨op, true⟩)).store.reserved = none) := by unfold Running; decide

theorem witness_SupplyFailureLosesTheVolatileState :
    ({ run with supply := { inReset := true } }.supply.inReset = true)
    ∧ (run.supply.inReset = false ∧ run.store.erase = none ∧ run.store.program = none)
    ∧ (∀ op ∈ [someMark, .record ⟨4, 0, 0⟩ (.identity [1] 7)], let s := storing [] (some ⟨op, false⟩) (some ⟨5, 1, false, .suspended⟩)
       s.supply.inReset = false ∧ s.store.erase = some ⟨5, 1, false, .suspended⟩ ∧ 5 ≠ 0
        ∧ s.store.program = some ⟨op, false⟩) := by decide

theorem witness_StartsRecoverThePart :
    unmarkedSaves (arrayAfterReset run) = []
    ∧ (let s := { run with supply := { inReset := true } }
       unmarkedSaves (arrayAfterReset s) = [] ∧ s.supply.inReset = true)
    ∧ (let s := { run with supply := { recovery := none, restart := some .whenIdle } }
       unmarkedSaves (arrayAfterReset s) = [] ∧ restartDue s = true)
    ∧ (run.supply.inReset = false ∧ restartDue run = false) := by decide

theorem witness_RestartIsRequested :
    (Running run ∧ SlotFree .line run ∧ run.supply.restart = none ∧ run.supply.restart ≠ some .now
      ∧ run.call.restartEnd = false ∧ run.call.state = .idle)
    ∧ (∀ m ∈ [RestartMode.whenIdle, .now], let s := { run with supply := { recovery := none, restart := some m } }
       Running s ∧ SlotFree .line s ∧ s.supply.restart ≠ none ∧ s.supply.restart = some m)
    ∧ (∀ x ∈ [CallState.clearing, .connected, .warning],
        Running (holding x) ∧ SlotFree .line (holding x) ∧ (holding x).supply.restart ≠ some .now
          ∧ (holding x).call.restartEnd = false ∧ (holding x).call.state = x) := by unfold Running SlotFree; decide

theorem witness_RecoveryStepsAreTaken :
    (awake run = true ∧ run.supply.recovery = none)
    ∧ (let r : Recovery := { stage := 4, phase := .checking }
       awake checking = true ∧ checking.supply.recovery = some r ∧ r.phase = .checking ∧ checking.supply.state = .normal
        ∧ r.cycles = 0 ∧ r.save = none ∧ r.phase ≠ .flushing ∧ r.phase ≠ .marking)
    ∧ (let s := { checking with supply := { checking.supply with state := .warn } }
       awake s = true ∧ s.supply.state = .warn)
    ∧ (∀ n ∈ [11, 12], let r : Recovery := { stage := 4, phase := .flushing, cycles := n, flushUntil := some 1006 }
       let s := flushing n
       awake s = true ∧ s.supply.recovery = some r ∧ r.phase = .flushing ∧ s.alarm.entries.length = 16
        ∧ s.supply.state = .normal ∧ r.cycles ≠ 0 ∧ (r.cycles < 12 ↔ n = 11))
    ∧ (let r : Recovery := { stage := 5, phase := .marking }
       let s := { run with supply := { recovery := some r } }
       awake s = true ∧ s.supply.recovery = some r ∧ r.phase = .marking ∧ marksOutstanding s.store = false) := by decide

/-! ### Further clauses of the statements: their hypotheses met -/

theorem witness_FetchedNoticesLeaveWhenRead_posted :
    (∀ n ∈ [15, 16], (fullPort n).mask &&& classBit (noticeClass .coinCredited) ≠ 0 ∧ ((fullPort n).queue.length < 16 ↔ n = 15))
    ∧ (NoticeKind.coinCredited = .boxNear → Port.set = .line) ∧ (2 : Nat) + 3 ≤ 5 := by decide

/-- The line owned by this party, with this order current. -/
def ownedLine (o : Owner) (body : OrderBody) : Line := { owner := o, slot := some ⟨body, 3, o, true, 1050⟩, counter := 3 }

/-- A part whose line the report unit owns, with this batch. -/
def reporting (sev : Severity) (body : OrderBody) : State :=
  { calling .collecting with
    line := ownedLine .report body
    report := { state := .inCall, batch := [⟨9, sev, 1, none, none, some ⟨52, 0, 0⟩⟩] }
    alarm := { (alarmed 9 .reporting).alarm with } }

theorem witness_CompleteNumberIsDecided_owned :
    (∀ sev ∈ [Severity.high, .critical], ∀ body ∈ [OrderBody.abort false, .report [1] [2] []],
      let s := reporting sev body
      Running s ∧ SlotFree .set s ∧ 0 ≤ available s.account ∧ s.line.owner ≠ .nobody ∧ s.line.owner ≠ .customer
        ∧ s.line.waitingCustomer = none ∧ s.line.preempting = none
        ∧ (currentKind s.line = some .abort ↔ body = .abort false)
        ∧ ((∀ i ∈ s.report.batch, i.severity ≠ .critical) ↔ sev = .high))
    ∧ (let s := { reporting .high (.abort false) with line := { ownedLine .centre (.abort false) with preempting := some true } }
       Running s ∧ s.line.owner ≠ .nobody ∧ s.line.preempting ≠ none)
    ∧ (let e : PlanEntry := { digits := [2], minLen := 3, maxLen := 3 }
       e ∈ [e] ∧ bestMatch [e] [2] = some e ∧ e.digits ≠ [] ∧ e.digits <+: [2]) := by
  unfold Running SlotFree; decide

theorem witness_StrayPassesAndRejectsRaise_other :
    (let s := withCoins { calling .collecting with coin := { lastCredited := some ⟨1000, 0⟩ } }
     s.coin.lastCredited = some ⟨1000, 0⟩ ∧ s.coin.escrow.getLast? = some ⟨4, 50, .no, 1⟩ ∧ (1 : Nat) ≠ 0)
    ∧ (EscrowCoin.mk 4 50 .collect 1).motion ≠ .no := by decide

theorem witness_BoxEntryBanksTheCoin_levels :
    ∀ n ∈ [1078, 1079, 1199],
      let s := withCoins { calling .connected with
        coin := { gateOp := some ⟨.collect, false, 999, 3⟩, tally := { coins := n } } }
      let tally := countCoin 3 20 s.coin.tally
      awake s = true ∧ s.alarm.entries.length = 16 ∧ s.call.state ≠ .waitCoins ∧ s.tariff.meter.state = .stopped
        ∧ (s.coin.nearPosted = false ∧ (s.cfg.capacity * 9 + 9) / 10 ≤ tally.coins ↔ n ≠ 1078)
        ∧ (s.coin.tally.coins < s.cfg.capacity ∧ s.cfg.capacity ≤ tally.coins ↔ n = 1199) := by decide

theorem witness_GateTakesItsWorkAndItsTest_empty :
    ∀ n ∈ [1, 2], ∀ phase ∈ [AccountPhase.opened false, .settling .collect false],
      let s := { calling .connected with
        account := { phase := phase, n := n }, coin := { gateQueue := List.replicate n .collect } }
      awake s = true ∧ gateFree s = true ∧ s.supply.state = .normal ∧ s.coin.escrow = [] ∧ .collect ∈ s.coin.gateQueue
        ∧ s.call.state ≠ .waitCoins ∧ s.tariff.meter.state = .stopped ∧ (s.account.n ≤ 1 ↔ n = 1)
        ∧ s.account.phase = phase := by decide

theorem witness_ClockAndCalendarAreSet_reached :
    (let s := pendingPart (.scheduled noon)
     Running s ∧ SlotFree .line s ∧ scheduledTime s.tariff.schedule = some noon ∧ timeValid noon = true
      ∧ secondsOf noon ≤ secondsOf noon ∧ nextWork s.store = none ∧ queueHasRoom s.store = true
      ∧ s.store.queue.any isCommit = false)
    ∧ (let s := { run with cfg := { run.cfg with holidays := run.cfg.holidays.set 3 (some ⟨2028, 2, 29⟩) } }
       ∃ k ∈ List.range 20, k ≠ 0 ∧ s.cfg.holidays.getD k none = some ⟨2028, 2, 29⟩) := by
  unfold Running SlotFree; decide

theorem witness_OrdersAreFetchedAndDone_reports :
    (∀ body ∈ [OrderBody.report [1] [2] [⟨9, .high, 1, none, none, some ⟨52, 0, 0⟩⟩], .abort true],
      let s := reporting .high body
      Running s ∧ SlotFree .line s ∧ s.line.slot = some ⟨body, 3, .report, true, 1050⟩ ∧ s.line.owner = .report
        ∧ nextWork s.store = none ∧ s.alarm.entries.length = 16
        ∧ (∀ i ∈ s.report.batch, (alarmEntry s.alarm i.source).state = .reporting
            ∧ (alarmEntry s.alarm i.source).clearPending = false)
        ∧ queueUsed s.store + (s.report.batch.filterMap (fun i => i.place)).length ≤ 8
        ∧ s.report.state = .inCall)
    ∧ (let s := { run with line := ownedLine .centre (.abort true) }
       Running s ∧ SlotFree .line s ∧ s.line.owner = .centre ∧ s.line.slot = some ⟨.abort true, 3, .centre, true, 1050⟩
        ∧ s.alarm.entries.length = 16)
    ∧ (let s := { calling .collecting with line := ownedLine .customer (.release) }
       Running s ∧ ∃ o, s.line.slot = some o ∧ o.body = .release)
    ∧ (∀ k ∈ [1, 16], 1 ≤ k ∧ k ≤ 16) := by
  refine ⟨by unfold Running SlotFree; decide, by unfold Running SlotFree; decide, ⟨by unfold Running; decide, _, rfl, rfl⟩,
    by decide⟩

theorem witness_OrdersAreFetchedAndDone_arbiter :
    (∀ c ∈ [none, some true, some false], ∀ r ∈ [none, some true, some false], ∀ x ∈ [none, some true],
      let w := { metered .waitLine with line := { waitingCustomer := c, waitingReport := r, preempting := x } }
      w.line.owner = .nobody ∧ w.line.slot = none ∧ w.call.acceptance = some acceptance ∧ reportNeeded w = false)
    ∧ (let w := { alarmed 0 .raised with
          cfg := { run.cfg with primary := [1] }, store := lockedRun.store, line := { waitingReport := some true } }
       w.line.owner = .nobody ∧ w.line.slot = none ∧ reportNeeded w = true ∧ w.line.waitingCustomer = none
        ∧ w.line.waitingReport ≠ none) := by decide

/-- A part that needs a report, in this state of the report unit and the line. -/
def needing (x : ReportState) (l : Line) : State :=
  { alarmed 0 .raised with
    report := { state := x }, cfg := { run.cfg with primary := [1] }, store := lockedRun.store, line := l }

theorem witness_AlarmAndReportSetupsAreWritten_weighed :
    (∀ x ∈ [ReportState.standby, .claimed, .backoff, .inCall], ∀ o ∈ [Owner.nobody, .customer, .centre, .report],
      let u := needing x { owner := o }
      Running u ∧ reportNeeded u = true ∧ u.report.state = x ∧ u.line.owner = o ∧ u.line.slot = none)
    ∧ (∀ x ∈ [ReportState.standby, .claimed, .backoff], let u := { run with report := { state := x } }
       Running u ∧ reportNeeded u = false ∧ u.report.state = x)
    ∧ (∀ e ∈ [Effect.none, .coinFree],
        let s := alarmed 3 .raised
        let u := { frameTaken .line s with cfg := { s.cfg with sources := s.cfg.sources.set 3 ⟨.low, false, e⟩ } }
        Running s ∧ SlotFree .line s ∧ 3 ≤ 15 ∧ (derivedService u = s.alarm.service ↔ e = .none))
    ∧ (∃ i, decidingSource (alarmed 0 .raised) = some i) := by
  refine ⟨by unfold Running; decide, by unfold Running; decide, by unfold Running SlotFree; decide, ?_⟩
  exact ⟨0, by decide⟩

theorem witness_StoreTakesOperations_passing :
    (let j : EraseJob := ⟨5, 1, false, .running⟩
     let s := { storing [] none (some j) with store := { (storing [] none (some j)).store with reserved := some someMark } }
     awake s = true ∧ s.store.erase = some j ∧ j.phase = .running ∧ s.supply.state = .normal
      ∧ s.store.reserved = some someMark ∧ ∃ k, programSector someMark = some k ∧ k ≠ j.sector)
    ∧ (∀ x ∈ [ErasePhase.slice, .suspended, .programming run.cfg], x ≠ .running ∧ x ≠ .stopped)
    ∧ (∀ first ∈ [StoreOp.commit, .erase 5 1, .erase 4 1], ∀ job ∈ [none, some ⟨5, 1, false, .stopped⟩],
        let s := { storing [first, someMark, .commit] none job with supply := { recovery := none, state := .warn } }
        awake s = true ∧ s.supply.state = .warn ∧ s.store.program = none ∧ s.store.read = none ∧ s.store.reserved = none
          ∧ (∀ j, s.store.erase = some j → j.phase = .stopped) ∧ s.store.queue = [first] ++ someMark :: [.commit]
          ∧ (∀ x ∈ [first], programSector x = none) ∧ programSector someMark = some 4
          ∧ ((∃ x ∈ [first], isEraseOf 4 x = true) ↔ first = .erase 4 1)) := by
  refine ⟨⟨by decide, rfl, rfl, rfl, rfl, 4, rfl, by decide⟩, by decide, ?_⟩
  intro first hf job hj
  refine ⟨rfl, rfl, rfl, rfl, rfl, ?_, rfl, ?_, rfl, ?_⟩
  · intro j h; revert job; simp only [List.mem_cons, List.not_mem_nil, or_false]; rintro job (rfl | rfl) h
    · cases h
    · cases h; rfl
  · revert first; decide
  · revert first; decide

theorem witness_OwedWorkIsQueued_left :
    (∀ x ∈ [AlarmState.quiet, .raised, .reported, .reporting],
      let s := { owing true with alarm := (alarmed 14 x).alarm }
      awake s = true ∧ eraseEligible .call s.store = true ∧ s.store.waitingMarks = [] ∧ s.store.saveOwed = false
        ∧ (ringOf s.store .call).full = true ∧ (ringOf s.store .alarm).full = false ∧ s.store.totals = {}
        ∧ (alarmEntry s.alarm srcStore).state = x)
    ∧ (∀ n ∈ [6, 7],
        let s := { owing false with store := { (owing false).store with saveOwed := true, queue := List.replicate n someMark } }
        eraseEligible .call s.store = true ∧ s.store.saveOwed = true ∧ (queueUsed s.store ≤ 6 ↔ n = 6)
          ∧ eraseEligible .alarm s.store = false) := by decide

/-- An array with one unmarked save record, of this account and this list. -/
def savedPart (a : Account) (l : List EscrowCoin) : State :=
  { run with store := { run.store with array := { run.store.array with cells := [(placeKey 3 0,
      { record := some (.save { time := none, ringPosition := 0, account := a, escrow := l, callState := .connected
                                cls := none, tally := { coins := 7, value := 90 }, totals := { calls := 2 } })
        marks := [] })] } } }

theorem witness_StartsRecoverThePart_saved :
    (∀ a ∈ [({} : Account), { phase := .opened false, d := 70, e := 70 },
        { phase := .opened true, d := 100, e := 70, b := 30, c := 40 }],
      ∀ l ∈ [coins, [⟨3, 20, .collect, 0⟩], [⟨3, 20, .refund, 0⟩]],
      let array := arrayAfterReset (savedPart a l)
      (unmarkedSaves array).length = 1 ∧ namedByRecovered ⟨3, 0, 0⟩ (scanStore { array := array }) = false
        ∧ tallyRecords (scanStore { array := array }) = []
        ∧ ((saveRecords array).map (·.2.1.account)) = [a])
    ∧ (let s := { run with supply := { inReset := true } }
       unmarkedSaves (arrayAfterReset s) = [] ∧ s.supply.inReset = true)
    ∧ (let s := { run with supply := { recovery := none, restart := some .whenIdle } }
       restartDue s = true) := by decide

/-- The start of a part whose save record holds a coin in motion for COLLECT and a debt that the rest covers. -/
theorem test_start_folds_in_the_coin :
    leads (exec (.powerOnReset ⟨List.replicate 8 false, false⟩)
        (savedPart { phase := .opened true, d := 100, e := 70, b := 30, c := 60, n := 1 } [⟨3, 20, .collect, 0⟩, ⟨4, 50, .no, 1⟩]))
      (fun t => t.account.b = 50 ∧ t.account.j = 20 ∧ t.account.e = 50 ∧ t.account.n = 1 ∧ t.coin.tally.coins = 7
        ∧ t.coin.tally.jam = 1 ∧ t.account.phase = .settling .collect true) = true := by decide

/-- A save record of a part at rest. -/
def emptySave : SaveRecord :=
  { time := none, ringPosition := 0, account := {}, escrow := [], callState := .idle, cls := none, tally := {}, totals := {} }

/-- A part with so many save records, all superseded but for the last of the area, which bears the marks `last`. -/
def usedUp (n : Nat) (last : List MarkKind) : State :=
  { run with store := { run.store with
      saveNext := n
      array := { run.store.array with cells := (List.range n).map (fun k => (placeKey 3 k,
        { record := some (.save emptySave), marks := if k = 63 then last else [.superseded] })) } } }

/-- A part whose save area is used up. -/
def spent (last : List MarkKind) : State := usedUp 64 last

/-- A part in WARN with so many superseded save records, a next one in the reserved place or waiting for it, and so many
operations queued. -/
def withdrawing (n m : Nat) (waits : Bool) : State :=
  { usedUp n [] with
    supply := { recovery := none, state := .warn }
    store := { (usedUp n []).store with
      saveNext := n + 1, currentSave := some ⟨3, n, 0⟩, queue := List.replicate m .commit
      reserved := if waits then none else some (.record ⟨3, n, 0⟩ (.save emptySave))
      nextSave := if waits then some (⟨3, n, 0⟩, emptySave) else none } }

theorem witness_SupplyCrossingsSaveTheAccount_withdraws :
    (∀ n ∈ [47, 48], ∀ m ∈ [7, 8], ∀ waits ∈ [true, false],
      let s := withdrawing n m waits
      let back := { s.store with reserved := none, nextSave := none, saveNext := s.store.saveNext - 1, currentSave := none }
      Running s ∧ s.supply.state = .warn ∧ (s.store.nextSave ≠ none ↔ waits = true) ∧ s.store.currentSave = some ⟨3, n, 0⟩
        ∧ (s.store.reserved.isSome = true ↔ waits = false)
        ∧ (saveEraseDue back = true ↔ n = 48) ∧ (nextWork { back with saveOwed := true } = some .saveErase ↔ m = 7))
    ∧ (∀ s ∈ [{ run with store := { run.store with reserved := some (.mark ⟨3, 0, 0⟩ .superseded) } },
              { run with store := { run.store with supersedeAfter := some ⟨3, 0, 0⟩ } }],
      Running s ∧ s.supply.state = .normal ∧ s.store.erase = none ∧ nextWork s.store = none
        ∧ savePlaceUsable s.store = true ∧ reservedTaken s.store = true) := by unfold Running; decide

/-- A part whose queue is full with the COMMIT in flight, and whose totals owe an OVERFLOW record. -/
def crowded : State :=
  { run with store := { run.store with
      queue := List.replicate 7 someMark, erase := some ⟨1, 0, true, .running⟩, totals := { calls := 2, d := 40 } } }

theorem witness_SupplyCrossingsSaveTheAccount_overflow :
    let s := crowded
    let halted := { s.store with erase := none }
    Running s ∧ s.supply.state = .normal ∧ s.store.totals.calls ≠ 0 ∧ run.store.totals.calls = 0
      ∧ nextWork s.store = none ∧ nextWork halted = some .overflow ∧ savePlaceUsable halted = true
      ∧ reservedTaken s.store = false
      ∧ ((postRing .call (.overflow s.store.totals (timeOfDay s)) halted).map (·.2)) = some ⟨4, 0, 0⟩ := by
  unfold Running; decide

/-- The place of an abandoned COMMIT goes to the owed OVERFLOW record before the save record is made (R175, R188). -/
theorem test_overflow_goes_ahead_of_the_save_record :
    leads (exec .warnFalling crowded) (fun t => t.store.totals = {} ∧ t.store.queue.length = 8
      ∧ t.store.reserved.any (fun op => match op with
        | .record _ (.save r) => r.totals == {} && r.ringPosition == 1
        | _ => false) = true) = true := by decide

/-- A resolved mark of recovery leaves the last free place to the owed OVERFLOW record, and waits (R175, R196). -/
theorem test_resolved_mark_waits_behind_the_overflow_record :
    let s := { crowded with supply := { recovery := some {} }, store := { crowded.store with erase := none } }
    (postResolvedMark ⟨3, 0, 0⟩ s).store.waitingMarks = [⟨3, 0, 0⟩] ∧ (postResolvedMark ⟨3, 0, 0⟩ s).store.totals = {} := by
  decide

/-- A withdrawn save record leaves the save area due its erase, which is queued where there is room (R185, R190). -/
theorem test_withdrawn_save_queues_the_erase :
    ∀ waits ∈ [true, false],
      leads (exec .warnRising (withdrawing 48 0 waits))
        (fun t => t.store.queue = [.erase 3 0] ∧ t.store.saveNext = 48 ∧ t.store.saveOwed = false) = true
      ∧ leads (exec .warnRising (withdrawing 48 8 waits)) (fun t => t.store.saveOwed = true) = true := by decide

theorem witness_RecoveryStepsAreTaken_ends :
    (∀ c ∈ [none, some CallClass.free], ∀ d ∈ [0, 5],
      let v : SaveRecord := { time := none, ringPosition := 0, account := {}, escrow := [], callState := .idle, cls := c
                              tally := {}, totals := {} }
      let r : Recovery :=
        { stage := 4, phase := .checking, save := some (⟨3, 0, 0⟩, v)
          figures := some { d := d, k := 0, e := 0, b := 5, r := 0, c := 0, j := 0, unconfirmed := 0 } }
      let s := { run with supply := { recovery := some r } }
      awake s = true ∧ s.supply.recovery = some r ∧ r.cycles = 0 ∧ nextWork s.store = none ∧ queueHasRoom s.store = true
        ∧ (c ≠ none ∨ 0 < d ↔ ¬ (c = none ∧ d = 0))
        ∧ ((postRing .call (.recovered
              { time := timeOfDay s, cause := s.supply.cause, savePlace := some ⟨3, 0, 0⟩, saveTime := v.time
                callState := some v.callState, cls := v.cls, figures := r.figures
                forfeited := r.figures.map (fun f => f.b - f.c), flushed := r.flushed
                tallyCoins := s.coin.tally.coins, tallyValue := s.coin.tally.value }) s.store).map
            (fun x => ((ringOf x.1 .call).full, nextWork x.1, queueHasRoom x.1))) = some (false, none, true))
    ∧ (let s := { run with supply := { recovery := some { stage := 5, phase := .marking } } }
       awake s = true ∧ marksOutstanding s.store = false ∧ s.store.saveOwed = false
        ∧ eraseEligible .call s.store = false ∧ eraseEligible .alarm s.store = false ∧ overflowOwed s.store = false
        ∧ saveEraseDue s.store = false)
    ∧ (∀ n ∈ [7, 8],
        let s := { spent [.resolved] with
          supply := { recovery := some { stage := 5, phase := .marking } }
          store := { (spent [.resolved]).store with queue := List.replicate n .commit } }
        awake s = true ∧ marksOutstanding s.store = false ∧ s.store.saveOwed = false ∧ eraseEligible .call s.store = false
          ∧ eraseEligible .alarm s.store = false ∧ overflowOwed s.store = false ∧ saveEraseDue s.store = true
          ∧ (queueHasRoom s.store = true ↔ n = 7)) := by decide

theorem witness_ConfigurationIsWritten_levels :
    ∀ n ∈ [89, 90, 100], ∀ near ∈ [true, false],
      let s := { run with coin := { tally := { coins := n }, nearPosted := near } }
      Running s ∧ SlotFree .line s ∧ ((100 * 9 + 9) / 10 ≤ s.coin.tally.coins ↔ n ≠ 89)
        ∧ (s.coin.tally.coins < s.cfg.capacity ∧ 100 ≤ s.coin.tally.coins ↔ n = 100) ∧ s.coin.nearPosted = near
        ∧ s.alarm.entries.length = 16 := by unfold Running SlotFree; decide

/-! ### Select periods and request frames -/

/-- READ_STATUS as the line processor clocks it in: code 4, no fields, check byte 252. -/
theorem test_frame_of_read_status : frameCommand .line [4, 0, 252] = .readStatus .line := by decide

/-- KEY 5 on the set port: code 1, one field byte, check byte 249. -/
theorem test_frame_of_a_key : frameCommand .set [1, 1, 5, 249] = .keyDigit .set 5 := by decide

/-- WRITE_COIN of channel 2 with value 300: code 20, three field bytes. -/
theorem test_frame_of_write_coin : frameCommand .line [20, 3, 2, 1, 44, 186] = .writeCoin .line 2 300 := by decide

/-- The sensor form of WRITE_ALARM_SETUP: sensor 3, RISING, threshold 3, a window of 100 tenths. -/
theorem test_frame_of_a_sensor_setup :
    frameCommand .line [21, 6, 1, 3, 1, 3, 0, 100, 121] = .writeAlarmSetupSensor .line 3 (some .rising) 3 100 := by decide

/-- A check byte that does not fit, and a code that is no request. -/
theorem test_frames_that_reach_no_owner :
    frameCommand .line [4, 0, 251] = .requestFrameError .line [4, 0, 251]
      ∧ frameCommand .line [37, 0, 219] = .requestFrameError .line [37, 0, 219] := by decide

/-- Two bytes of zero open a read select period; while a request frame comes in the part sends bytes of 255 (R200). -/
theorem test_select_periods :
    selectPeriod .line [0, 0] = some (.readSelectPeriod .line 2) ∧ selectPeriod .line [] = none
      ∧ dataOut 1 (readSelect 1 { mask := 0 }) = [126]
      ∧ dataOut 3 (frameTaken .line State.reset).ports.line = [255, 255, 255] := by decide

/-- A replaced order's limit ends nothing (R120): the hold's end posts RELEASE at the tenth in which CONNECT's limit ends,
and that expiry is not taken for it. -/
theorem test_a_replaced_orders_limit_is_cancelled :
    leads (exec .onHook { holding .connecting with
        call := { (holding .connecting).call with hookInput := false, holdFrom := some 994 }
        line := { owner := .customer, slot := some ⟨.connect [2] .free, 2, .customer, false, 1000⟩, counter := 2 } })
      (fun t => (t.line.slot.map (fun o => (o.body, o.limit))) = some (.release, 1050) ∧ dueCommand t = none) = true := by decide

/-- The erase of the save area that the last superseded mark makes owed is queued as that mark ends (R185, R190). -/
theorem test_superseded_mark_queues_the_erase :
    leads (exec .markProgramDone { spent [] with store := { (spent []).store with
        program := some ⟨.mark ⟨3, 63, 0⟩ .superseded, true⟩ } })
      (fun t => t.store.queue = [.erase 3 0] ∧ t.store.saveOwed = false) = true := by decide

/-- A blank sector of an earlier lap is erased before it is opened (R171, R172). -/
theorem test_stale_blank_sector_is_owed_an_erase :
    eraseEligible .call { run.store with
      array := { run.store.array with headers := [(3, 0), (4, 7), (5, 1), (52, 0), (53, 1)] }
      callRing := { sector := 4, seq := 7, used := 64 } } = true := by decide

/-! ### Clauses on records, clears, decisions and restarts: their hypotheses met -/

/-- A call at this inter-digit expiry with this plan entry first in the plan and one digit keyed. -/
def keyedOne (e : PlanEntry) : State :=
  { calling .collecting with
    cfg := { run.cfg with plan := e :: List.replicate 47 {} }
    analyser := { state := .awaitingNext, buffer := [2], timer := some (.interDigit, 1000) } }

theorem witness_TimersOfTheCallEnd_decided :
    ∀ barred ∈ [true, false],
      let e : PlanEntry := { digits := [2], minLen := 1, maxLen := 3, barred := barred }
      let s := keyedOne e
      awake s = true ∧ s.analyser.timer = some (.interDigit, 1000)
        ∧ bestMatch s.cfg.plan s.analyser.buffer = some e ∧ e.minLen ≤ s.analyser.buffer.length
        ∧ (refusalOf s.alarm.service e = some .barred ↔ barred = true)
        ∧ (refusalOf s.alarm.service e = none ↔ barred = false) := by decide

/-- The expiry decides a number of its least length: accepted FREE, the call goes for the line (R53, R67). -/
theorem test_inter_digit_expiry_decides :
    leads (exec .interDigitTimerExpiry (keyedOne { digits := [2], minLen := 1, maxLen := 3 }))
      (fun t => t.call.state = .connecting ∧ t.analyser.state = .decided) = true := by decide

/-- A part with this source in this state and so many operations waiting. -/
def filled (i : Nat) (x : AlarmState) (n : Nat) : State :=
  { alarmed i x with store := { run.store with queue := List.replicate n .commit } }

def raisedRecord (i count : Nat) (o : Origin) (s : State) : Record :=
  .alarm { cleared := false, source := i, severity := (sourceSetup s.cfg i).severity
           masked := (sourceSetup s.cfg i).masked, origin := o, time := timeOfDay s, count := count }

theorem witness_RaisingMarksTheSource_told :
    ∀ i ∈ [0, 14, 15], ∀ n ∈ [7, 8], ∀ x ∈ [AlarmState.quiet, .raised],
      let s := filled i x n
      i < s.alarm.entries.length ∧ s.alarm.entries.length = 16 ∧ nextWork s.store = none
        ∧ ((alarmEntry s.alarm i).state = .quiet ↔ x = .quiet)
        ∧ ((postRing .alarm (raisedRecord i (if x = .quiet then 1 else 2) .sensor s) s.store).isSome = true ↔ n = 7) := by
  decide

/-- A lost record: the source stands, STORE is raised, and nothing is queued (R139, R173). -/
theorem test_lost_alarm_record_raises_store :
    let t := raise 3 .sensor (filled 3 .quiet 8)
    (alarmEntry t.alarm 3).state = .raised ∧ (alarmEntry t.alarm 3).latest = none
      ∧ (alarmEntry t.alarm 14).state = .raised ∧ t.store.queue.length = 8 := by decide

theorem witness_AlarmsAreClearedAndAcknowledged_told :
    (∀ i ∈ [0, 14, 15], ∀ n ∈ [7, 8], ∀ x ∈ [AlarmState.raised, .reported],
      let s := filled i x n
      Running s ∧ s.alarm.entries.length = 16 ∧ SlotFree .line s ∧ SlotFree .service s ∧ (alarmEntry s.alarm i).state = x
        ∧ ¬ ((i ≤ 7 ∧ atActiveLevel s i = true) ∨ (i = srcBoxFull ∧ s.cfg.capacity ≤ s.coin.tally.coins))
        ∧ nextWork s.store = none ∧ (i < s.alarm.sensors.length ↔ i = 0))
    ∧ (∀ x ∈ [AlarmState.quiet, .reporting], (alarmEntry (alarmed 12 x).alarm 12).state = x) := by
  unfold Running SlotFree; decide

theorem witness_CollectionsOpenAndClose_box :
    (∀ n ∈ [7, 9], (List.replicate n 0).length ≠ 8) ∧ (¬ (∀ d ∈ [12], d ≤ 11)) ∧ Running run ∧ SlotFree .service run
    ∧ (∀ x ∈ [AlarmState.quiet, .raised, .reported, .reporting],
        let s := { alarmed 12 x with coin := { windowUntil := some 1001 } }
        Running s ∧ SlotFree .service s ∧ s.coin.windowUntil ≠ none ∧ nextWork s.store = none ∧ s.alarm.entries.length = 16
          ∧ (alarmEntry s.alarm srcBoxFull).state = x
          ∧ (postRing .call (.collection { time := timeOfDay s, tally := s.coin.tally, capacity := s.cfg.capacity })
              s.store).isSome = true) := by unfold Running SlotFree; decide

/-- An account at its settlement's end, with the outcome ANSWERED, this much paid in and banked, and so many operations
waiting. -/
def settlingCall (d n : Nat) : State :=
  { run with
    account := { phase := .settling .refund false, d := d, b := d }
    coin := { gateQueue := [.refundAll] }
    call := { state := .settling, outcome := some .answered }
    store := { run.store with queue := List.replicate n .commit } }

/-- A call whose carry can complete, with a coin of 20 in the tube, and so many operations waiting. -/
def carrying (n : Nat) : State :=
  { calling .afterCall with
    account := { phase := .opened true, d := 30, e := 20, b := 10, c := 10 }
    coin := { escrow := [⟨3, 20, .no, 0⟩], coinIds := 1 }
    call := { (calling .afterCall).call with outcome := some .answered, acceptance := some acceptance }
    store := { run.store with queue := List.replicate n .commit } }

theorem witness_AccountsEndAndCarry_records :
    (∀ d ∈ [0, 1], ∀ n ∈ [7, 8],
      let s := settlingCall d n
      awake s = true ∧ s.alarm.entries.length = 16 ∧ nextWork s.store = none ∧ s.call.outcome = some .answered
        ∧ (0 < s.account.d + s.account.k ∨ s.call.acceptance ≠ none ↔ d = 1)
        ∧ ((postRing .call (.call (callRecordOf .answered (some (s.account.b - s.account.c)) false s)) s.store).isSome = true
            ↔ n = 7))
    ∧ (∀ n ∈ [7, 8],
        let s := carrying n
        awake s = true ∧ s.account.phase = .opened true ∧ s.account.n = 0 ∧ s.alarm.entries.length = 16
          ∧ nextWork s.store = none ∧ s.call.outcome = some .answered ∧ s.call.acceptance ≠ none
          ∧ ((postRing .call (.call (callRecordOf .answered none true s)) s.store).isSome = true ↔ n = 7)) := by decide

/-- The record of a carried account keeps E among its figures, and shows none where it is read (R40, R87; log 33). -/
theorem test_carried_record_keeps_e :
    leads (exec .carryCompletes (carrying 0)) (fun t => t.store.queue.all (fun op => match op with
      | .record _ (.call r) => r.figures.e = 20
          ∧ recordBytes (.call r) = recordBytes (.call { r with figures := { r.figures with e := 0 } })
      | _ => false)) = true := by decide

/-- A refused record is counted into the totals (R174). -/
theorem test_refused_call_record_is_counted :
    leads (exec .settlementEnds (settlingCall 1 8)) (fun t => t.store.totals.calls = 1 ∧ t.store.totals.d = 1
      ∧ t.store.totals.forfeited = 1 ∧ (alarmEntry t.alarm 14).state = .raised) = true := by decide

theorem witness_OrdersAreFetchedAndDone_release :
    ∀ hangUp ∈ [true, false], ∀ followOn ∈ [true, false], ∀ carry ∈ [true, false],
      let o : Order := ⟨.release, 2, .customer, true, 1050⟩
      let s := { holding .clearing with
        line := { owner := .customer, slot := some o }
        account := { phase := .opened carry }
        call := { (holding .clearing).call with hangUp := hangUp, followOn := followOn } }
      Running s ∧ SlotFree .line s ∧ s.line.slot = some o ∧ o.taken = true ∧ orderKind o.body = .release
        ∧ s.call.state = .clearing ∧ s.line.owner = .customer ∧ s.account.phase = .opened carry
        ∧ s.call.hangUp = hangUp ∧ s.call.followOn = followOn := by unfold Running SlotFree; decide

/-- The end of the RELEASE of a hung-up call settles it; with the follow-on mark the carry begins (R77). -/
theorem test_release_moves_the_call_on :
    ∀ hangUp ∈ [true, false],
      leads (exec (.orderDone .line (some .release) 2 (some .cleared)) { holding .clearing with
          line := { owner := .customer, slot := some ⟨.release, 2, .customer, true, 1050⟩ }
          call := { (holding .clearing).call with hangUp := hangUp, followOn := !hangUp } })
        (fun t => t.line.owner = .nobody ∧ (if hangUp then t.call.state = .settling
          else t.call.state = .afterCall ∧ t.account.phase = .opened true)) = true := by decide

theorem witness_ConfigurationIsWritten_prefix :
    (65535 < 65536 ∧ Running run ∧ SlotFree .line run ∧ run.call.state ≠ .collecting ∧ run.call.state ≠ .waitCoins)
    ∧ ([0] ≠ [] ∧ (run.cfg.plan.getD 0 {}).digits = [0] ∧ 0 ≠ 47) := by unfold Running SlotFree; decide

/-- The prefix of another entry, and a coin value too great, are refused; an entry may keep its own prefix (R48, R2). -/
theorem test_write_plan_and_coin_ranges :
    (∀ k ∈ [0, 47], leads (exec (.writePlan .line k ⟨[0], 1, 1, 0, some false, some false, some false, some false⟩) run)
      (fun t => (portOf t.ports .line).slot = .ready (if k = 0 then .ok else .refusedRange) []) = true)
    ∧ leads (exec (.writeCoin .line 1 65536) run) (fun t => (portOf t.ports .line).slot = .ready .refusedRange []) = true := by
  decide

theorem witness_ArrayOperationsEnd_places :
    (∀ k ∈ [0, 1],
      let s := { recorded with store := { recorded.store with
        program := some ⟨.record ⟨4, k, 0⟩ (.identity [1] 7), false⟩ } }
      awake s = true ∧ s.store.program = some ⟨.record ⟨4, k, 0⟩ (.identity [1] 7), false⟩
        ∧ (readCell (placeKey 4 k) s.store.array.cells = none ↔ k = 1))
    ∧ (∀ k ∈ [0, 1, 2], let s := storing [] none (some ⟨k, 0, true, .running⟩)
       awake s = true ∧ s.store.erase = some ⟨k, 0, true, .running⟩) := by decide

/-- A programmed place stays as it is, whether the program ends or is cut short (R166). -/
theorem test_programmed_place_stays :
    let s := { recorded with store := { recorded.store with
      program := some ⟨.record ⟨4, 0, 0⟩ (.identity [1] 7), false⟩ } }
    leads (exec .programDone s) (fun t => t.store.array = recorded.store.array) = true
      ∧ leads (exec .supplyReset s) (fun t => t.store.array = recorded.store.array) = true := by decide

/-- A COMMIT drops the header of its image sector and programs it again at its erase's end (R166, R181). -/
theorem test_commit_programs_the_header :
    leads (exec .storeOperationStart { storing [.commit] none none with store := { run.store with
        queue := [.commit], array := { headers := [(1, 0), (2, 0), (3, 0)] } } })
      (fun t => t.store.array.headers = [(2, 0), (3, 0)]
        ∧ leads (exec .eraseDone t) (fun u => u.store.array.headers = [(1, 0), (2, 0), (3, 0)])) = true := by decide

theorem witness_SupplyFailureLosesTheVolatileState_places :
    ∀ k ∈ [0, 1],
      let s := { recorded with store := { recorded.store with
        program := some ⟨.record ⟨4, k, 0⟩ (.identity [1] 7), false⟩ } }
      s.supply.inReset = false ∧ s.store.erase = none
        ∧ (readCell (placeKey 4 k) s.store.array.cells = none ↔ k = 1) := by decide

/-- An array with two tally records of the call ring, the second in this place, and a save record at this ring position. -/
def talliedPart (number position : Nat) : State :=
  { run with store := { run.store with array := { run.store.array with cells :=
      [(placeKey 3 0, { record := some (.save { emptySave with ringPosition := position, tally := { coins := 7, value := 90, jam := 1 } })
                        marks := [.resolved] }),
       (placeKey 4 0, { record := some (.collection ⟨none, { coins := 3, jam := 2 }, 100⟩), marks := [] }),
       (placeKey 4 number, { record := some (.overflow { tallyCoins := 5, tallyValue := 60 } none), marks := [] })] } } }

theorem witness_StartsRecoverThePart_tallies :
    ∀ position ∈ [0, 1, 2],
      let array := arrayAfterReset (talliedPart 1 position)
      let ring := tallyRecords (scanStore { array := array })
      ring.map (·.1) = [0, 1] ∧ ring.Pairwise (fun x y => x.1 < y.1)
        ∧ (saveRecords array).map (·.2.1.ringPosition) = [position]
        ∧ ring.getLast?.map (·.1) = some 1 ∧ (1 < position ↔ position = 2)
        ∧ (ring.filter (fun x => x.2.2.2.isSome)).getLast?.map (·.1) = some 0 ∧ (0 < position ↔ position ≠ 0) := by decide

theorem witness_RestartIsRequested_states :
    ∀ x ∈ [CallState.collecting, .waitCoins, .waitLine, .afterCall, .refused, .connecting, .alerting, .settling],
      Running (calling x) ∧ SlotFree .line (calling x) ∧ (calling x).supply.restart ≠ some .now
        ∧ (calling x).call.restartEnd = false ∧ (calling x).call.state = x
        ∧ (calling x).account.phase = .opened false := by unfold Running SlotFree; decide

/-- RESTART NOW ends a call that waits for the line: claim and call, with the account SETTLING (R85). -/
theorem test_restart_now_ends_a_waiting_call :
    leads (exec (.restart .line (some .now)) { metered .waitLine with
        line := { owner := .centre, waitingCustomer := some false } })
      (fun t => t.call.state = .settling ∧ t.call.restartEnd = true ∧ t.line.waitingCustomer = none
        ∧ t.call.outcome = some .unanswered) = true := by decide

/-- A flag byte that is neither 0 nor 1 is refused with a prefix and not looked at without one (R48; log 36). -/
theorem test_write_plan_flag_byte :
    frameCommand .line [18, 10, 5, 1, 2, 3, 3, 1, 0, 2, 0, 1, 210] =
        .writePlan .line 5 ⟨[2], 3, 3, 1, some false, none, some false, some true⟩
      ∧ leads (exec (.writePlan .line 5 ⟨[2], 3, 3, 1, some false, none, some false, some true⟩) run)
        (fun t => (portOf t.ports .line).slot = .ready .refusedRange []) = true
      ∧ leads (exec (.writePlan .line 5 ⟨[], 30, 0, 9, some false, none, some false, some true⟩) run)
        (fun t => (portOf t.ports .line).slot = .ready .ok [] ∧ t.cfg.plan.getD 5 {} = {}) = true := by decide

/-- READ_CALL sends the connected duration in tenths, ten for each whole second (R88, R202). -/
theorem test_read_call_duration :
    let s := { calling .connected with now := 1234, call := { (calling .connected).call with connectedSince := some 400 } }
    connectedDuration s = 83 ∧ ((callFields s).reverse.drop 3).take 3 = [62, 3, 0] := by decide

/-- An alarm record of this source, kind, count and time. -/
def alarmOf (cleared : Bool) (count : Nat) (time : Option DateTime) : Record :=
  .alarm ⟨cleared, 8, .low, false, .coinUnit, time, count⟩

/-- The reported mark stands behind the count, the acknowledged mark behind it (R139, R176). -/
theorem test_alarm_record_marks :
    (cellBytes { record := some (alarmOf false 3 none), marks := [.acknowledged] }).drop 6 = [3, 0, 1]
      ∧ (cellBytes { record := some (alarmOf false 3 none), marks := [.reported] }).drop 6 = [3, 1, 0] := by decide

/-- A store whose alarm ring holds this record, with sector 53 still to be erased and holding another one. -/
def ringStore (first second : Record) : Store :=
  { run.store with
    array := { headers := [(52, 12), (53, 1)], cells :=
      [(placeKey 52 0, { record := some second, marks := [] }), (placeKey 53 0, { record := some first, marks := [.acknowledged] })] }
    alarmRing := { sector := 52, seq := 12, used := 1 } }

/-- A restored source has no first time where the record of its first raising has been erased; where that record was never
taken, or the erased one was CLEARED, it has that of the oldest RAISED record left (R139, R194). -/
theorem test_first_time_of_a_restored_source :
    let left := alarmOf false 3 (some noon)
    restoredFirst 8 (beginErase 53 13 (ringStore (alarmOf false 1 none) left)) = none
      ∧ restoredFirst 8 (beginErase 53 13 (ringStore (alarmOf true 1 none) left)) = some noon
      ∧ restoredFirst 8 (beginErase 53 13 (ringStore (.identity [] 0) left)) = some noon := by decide
/-! ### What the widened statements suppose can be met -/

/-- A port that takes the SYSTEM class alone, with so many notices queued. -/
def systemPort (n : Nat) : PortState := { fullPort n with mask := classBit .system }

theorem witness_NoticeIsOfferedToEachPort_pairs :
    (([] : Digits).length ≤ 16 ∧ (List.replicate 16 9).length ≤ 16 ∧ 7 < 8)
    ∧ (fullPort 14).mask &&& classBit .system = 0
    ∧ (∀ n ∈ [14, 15], (systemPort n).mask &&& classBit .system ≠ 0
        ∧ ((systemPort n).queue.length ≤ 14 ↔ n = 14) ∧ (15 ≤ (systemPort n).queue.length ↔ n = 15)) := by decide

/-- IDENTITY_LOCKED takes two places of a queue, or none with the SYSTEM lost flag set (R183, R209). -/
theorem test_identity_locked_is_queued_whole :
    leads (exec .markProgramDone { storing [] (some ⟨.mark ⟨0, 0, 0⟩ .lock, false⟩) none with
        ports := { set := systemPort 14, line := systemPort 15, service := fullPort 0 } })
      (fun t => t.ports.set.queue.length = 16 ∧ t.ports.set.lost = 0 ∧ t.ports.line.queue.length = 15
        ∧ t.ports.line.lost = classBit .system ∧ t.ports.service = fullPort 0 ∧ t.store.identity.lock = .locked) = true := by decide

/-- The states of an account, the stages of a settlement among them. -/
def phases : List AccountPhase :=
  [.idle, .opened false, .opened true, .settling .flight false, .settling .flight true, .settling .collect false,
    .settling .refund false]

theorem witness_CoinTimersEnd_settling :
    ∀ loss ∈ [0, 1], ∀ n ∈ [0, 1], ∀ r ∈ [true, false],
      let s := { run with
        account := { phase := .settling .flight r, n := n }
        coin := { flight := some ⟨4, 50, 996, .escrow, 0⟩, flightLoss := loss } }
      awake s = true ∧ s.account.phase = .settling .flight r ∧ s.coin.flight ≠ none ∧ s.coin.flightLoss = loss
        ∧ s.account.n = n := by decide

theorem witness_EscrowEntryCreditsTheCoin_phases :
    ∀ phase ∈ phases,
      let f : Flight := ⟨4, 50, 999, .escrow, 0⟩
      let s := { run with account := { phase := phase }, coin := { flight := some f } }
      awake s = true ∧ s.coin.flight = some f ∧ f.kind = .escrow ∧ s.account.phase = phase ∧ s.call.state ≠ .waitCoins
        ∧ s.tariff.meter.state = .stopped := by decide

theorem witness_BoxEntryBanksTheCoin_phases :
    (∀ phase ∈ phases,
      let f : Flight := ⟨6, 200, 999, .overflow, 3⟩
      let s := { run with account := { phase := phase }, coin := { flight := some f } }
      awake s = true ∧ s.coin.flight = some f ∧ f.kind = .overflow ∧ s.coin.gateOp = none ∧ s.account.phase = phase)
    ∧ (∀ n ∈ [1, 2],
        let g : GateOp := ⟨.collect, true, 999, 3⟩
        let s := withCoins { calling .settling with
          account := { phase := .settling .collect false, n := n }, coin := { gateOp := some g } }
        awake s = true ∧ s.coin.gateOp = some g ∧ g.motion = .collect ∧ s.coin.escrow ≠ [] ∧ s.coin.flight = none
          ∧ s.account.phase = .settling .collect false ∧ (s.account.n - 1 = 0 ↔ n = 1)) := by decide

theorem witness_GateWindowsRunOut_settling :
    ∀ n ∈ [1, 2],
      let g : GateOp := ⟨.collect, true, 994, 3⟩
      let s := withCoins { calling .settling with
        account := { phase := .settling .collect false, n := n }, coin := { gateOp := some g } }
      awake s = true ∧ s.alarm.entries.length = 16 ∧ s.coin.gateOp = some g ∧ g.second = true ∧ g.motion = .collect
        ∧ s.coin.escrow = ⟨3, 20, .no, 0⟩ :: [⟨4, 50, .no, 1⟩] ∧ s.account.phase = .settling .collect false
        ∧ (s.account.n - 1 = 0 ↔ n = 1) := by decide

/-- The last collection of a settlement takes it to its refunds, an earlier one does not (R30, R36, R37). -/
theorem test_last_collection_enters_refund :
    ∀ n ∈ [1, 2], ∀ c ∈ [.boxEntryEvent, .gateWindowExpiry],
      leads (exec c (withCoins { calling .settling with
          account := { phase := .settling .collect false, n := n, c := 40 }
          coin := { gateOp := some ⟨.collect, true, 994, 3⟩, gateQueue := List.replicate (n - 1) .collect } }))
        (fun t => t.account.n = n - 1 ∧ t.account.b = 50 ∧ t.account.phase = .settling (if n = 1 then .refund else .collect) false
          ∧ t.coin.gateQueue = if n = 1 then [.refundAll] else [.collect]) = true := by decide

/-- A coin that confirms in the FLIGHT stage is credited and goes to the refunds, one that comes in the REFUND stage is
only credited (R28, R36). -/
theorem test_settling_account_takes_the_coin :
    ∀ stage ∈ [SettleStage.flight, .refund],
      leads (exec .escrowEntryEvent { calling .settling with
          account := { phase := .settling stage false }, coin := { flight := some ⟨4, 50, 999, .escrow, 0⟩, tickets := 1 } })
        (fun t => t.account = { phase := .settling .refund false, d := 50, e := 50 } ∧ t.coin.escrow.length = 1
          ∧ t.coin.gateQueue = if stage = .flight then [.refundAll] else []) = true := by decide

theorem witness_AccountsEndAndCarry_queues :
    (∀ q ∈ [[], [GateWork.refundAll]],
      (let s := { settlingCall 1 0 with coin := { gateQueue := q } }
       awake s = true ∧ s.account.phase = .settling .refund false ∧ s.coin.gateOp = none ∧ s.coin.escrow = []
        ∧ s.coin.gateTest = none ∧ s.supply.state = .normal ∧ s.supply.recovery = none ∧ s.coin.gateQueue = q)
      ∧ (let r : Recovery := { stage := 4, phase := .settling }
         let s := { run with
           account := { phase := .settling .refund true }, coin := { gateQueue := q }, supply := { recovery := some r } }
         awake s = true ∧ s.supply.recovery = some r ∧ r.flushUntil = none ∧ s.account.phase = .settling .refund true
          ∧ s.coin.gateOp = none ∧ s.coin.escrow = [] ∧ s.coin.gateTest = none ∧ s.supply.state = .normal
          ∧ s.coin.gateQueue = q))
    ∧ (let s := { settlingCall 1 0 with supply := { recovery := none, state := .warn } }
       awake s = true ∧ .refundAll ∈ s.coin.gateQueue ∧ s.supply.state = .warn)
    ∧ (let s := { settlingCall 1 0 with coin := { gateQueue := [.refundAll], gateTest := some 1004 } }
       awake s = true ∧ .refundAll ∈ s.coin.gateQueue ∧ s.coin.gateTest ≠ none)
    ∧ (let s := { settlingCall 1 0 with coin := { gateQueue := [.collect] } }
       awake s = true ∧ .collect ∈ s.coin.gateQueue) := by decide

/-- A settlement whose REFUND_ALL has been taken out of the queue with the list empty ends with its record (R8, R37, R87). -/
theorem test_settlement_ends_with_the_queue_empty :
    leads (exec .settlementEnds { settlingCall 1 0 with coin := {} }) (fun t => t.account = {} ∧ t.call.state = .idle
      ∧ t.store.queue.length = 1) = true := by decide

theorem witness_ClockAndCalendarAreSet_counts :
    (∀ d ∈ [(⟨2028, 2, 28⟩ : Date), ⟨2028, 2, 29⟩, ⟨2029, 2, 28⟩, ⟨2030, 4, 30⟩, ⟨2030, 1, 31⟩, ⟨2030, 12, 31⟩],
      let t : DateTime := ⟨d.year, d.month, d.day, 23, 59, 59⟩
      timeValid t = true ∧ (clockTick ⟨t, 9⟩).isSome = true
        ∧ d.day ≤ (if d.month = 2 then (if d.year % 4 = 0 then 29 else 28) else if d.month ∈ [4, 6, 9, 11] then 30 else 31))
    ∧ timeValid ⟨2099, 12, 31, 23, 59, 59⟩ = true
    ∧ (let points := run.cfg.weekday
       points.Pairwise (fun p q => p.minute < q.minute) ∧ (points.head?.map (·.minute)) = some 0)
    ∧ ({ run with tariff := { clock := some ⟨noon, 0⟩ } }.tariff.clock = some ⟨noon, 0⟩) ∧ run.tariff.clock = none := by decide

/-- The clock's carries: February by the year, the year's end, the end of 2099 (R97). -/
theorem test_clock_carries :
    clockTick ⟨⟨2028, 2, 28, 23, 59, 59⟩, 9⟩ = some ⟨⟨2028, 2, 29, 0, 0, 0⟩, 0⟩
    ∧ clockTick ⟨⟨2030, 2, 28, 23, 59, 59⟩, 9⟩ = some ⟨⟨2030, 3, 1, 0, 0, 0⟩, 0⟩
    ∧ clockTick ⟨⟨2030, 12, 31, 23, 59, 59⟩, 9⟩ = some ⟨⟨2031, 1, 1, 0, 0, 0⟩, 0⟩
    ∧ clockTick ⟨⟨2099, 12, 31, 23, 59, 59⟩, 9⟩ = none := by decide

/-- The band changes at the minute of its switch point, and a holiday is a SUNDAY (R100, R101). -/
theorem test_band_in_force :
    ∀ h ∈ [none, some (⟨2030, 5, 6⟩ : Date)], ∀ m ∈ [0, 1],
      bandInForce { run with
        cfg := { run.cfg with weekday := [⟨0, 0⟩, ⟨720, 1⟩, ⟨721, 2⟩], sunday := [⟨0, 3⟩], holidays := run.cfg.holidays.set 19 h }
        tariff := { clock := some ⟨{ noon with minute := m }, 0⟩ } } = if h = none then 1 + m else 3 := by decide

/-- A METERED call on an alerting line, answered with this much banked and a first step due at once. -/
def dueAtOnce (n : Nat) : State :=
  let s := funded .alerting n
  { s with call := { s.call with acceptance := some { acceptance with row := some [{ entry with free := 0 }] } } }

theorem witness_AnswerStartsMetering_short :
    ∀ n ∈ [29, 30],
      let s := dueAtOnce n
      let e := { entry with free := 0 }
      Running s ∧ SlotFree .line s ∧ s.line.owner = .customer ∧ s.call.state = .alerting ∧ s.tariff.meter.state = .stopped
        ∧ s.account.phase = .opened false ∧ [e].getD (bandInForce s) TariffEntry.initial = e
        ∧ e.connection ≤ available s.account
        ∧ (available { s.account with c := s.account.c + e.connection } < e.step ↔ n = 29) := by unfold Running SlotFree; decide

/-- With the connection charge paid and the first step not, the call is cleared and only the connection charged (R104, R106). -/
theorem test_first_step_short_clears :
    leads (exec (.answer .line) (dueAtOnce 29)) (fun t => t.call.state = .clearing ∧ t.account.c = 10
      ∧ t.call.outcome = some .forcedClear ∧ t.tariff.meter.state = .stopped) = true := by decide

theorem witness_TariffEntriesAreWritten_scheduled :
    ∀ x ∈ [Schedule.scheduled noon, .waitingClock noon],
      Running (pendingPart x) ∧ SlotFree .line (pendingPart x) ∧ (pendingPart x).tariff.schedule = x
        ∧ scheduledTime x = some noon := by unfold Running SlotFree; decide

/-- Fields written while a schedule stands cancel it at every port (R91). -/
theorem test_fields_cancel_the_schedule :
    ∀ x ∈ [Schedule.scheduled noon, .waitingClock noon],
      leads (exec (.writeTariff .line 7 3 (some tariffFields)) { pendingPart x with
          ports := { set := systemPort 0, line := systemPort 0, service := systemPort 16 } })
        (fun t => t.tariff.schedule = .none ∧ (t.ports.set.queue.map (·.kind)) = [.activationCancelled]
          ∧ (t.ports.line.queue.map (·.kind)) = [.activationCancelled] ∧ t.ports.service.lost = classBit .system
          ∧ ((t.tariff.pendingBank.getD 7 []).getD 3 none).isSome) = true := by decide

theorem witness_LineFailureEndsTheOwnership_marks :
    ∀ x ∈ [CallState.connecting, .alerting, .connected, .warning, .clearing], ∀ hangUp ∈ [true, false],
      ∀ followOn ∈ [true, false],
      let s := { holding x with
        line := { owner := .customer, slot := some ⟨.release, 1, .customer, true, 1000⟩ }
        call := { (holding x).call with hangUp := hangUp, followOn := followOn } }
      Running s ∧ SlotFree .line s ∧ s.alarm.entries.length = 16 ∧ s.line.owner = .customer ∧ s.line.waitingCustomer = none
        ∧ s.line.preempting = none ∧ s.call.state = x ∧ s.account.phase = .opened false ∧ s.call.hangUp = hangUp
        ∧ s.call.followOn = followOn ∧ s.line.slot ≠ none := by unfold Running SlotFree; decide

theorem witness_LineFailureEndsTheOwnership_owners :
    (let s := reporting .high (.report [1] [2] [])
     let raised := raise srcLineFault .lineAllocator (frameTaken .line s)
     Running s ∧ SlotFree .line s ∧ s.alarm.entries.length = 16 ∧ s.line.owner = .report ∧ s.report.state = .inCall
      ∧ nextWork raised.store = none ∧ (∀ i ∈ s.report.batch, (alarmEntry raised.alarm i.source).state = .reporting
          ∧ (alarmEntry raised.alarm i.source).clearPending = false))
    ∧ (let s := { run with line := { ownedLine .centre (.abort true) with centreUntil := some 5000 } }
       Running s ∧ SlotFree .line s ∧ s.alarm.entries.length = 16 ∧ s.line.owner = .centre) := by
  unfold Running SlotFree; decide

/-- LINE_LOST moves a clearing call on by its marks, its outcome standing (R78, R124). -/
theorem test_line_lost_in_clearing :
    ∀ hangUp ∈ [true, false],
      leads (exec (.lineLost .line) { holding .clearing with
          line := { owner := .customer, slot := some ⟨.release, 1, .customer, true, 1000⟩ }
          call := { (holding .clearing).call with hangUp := hangUp, outcome := some .answered } })
        (fun t => t.call.state = (if hangUp then .settling else .afterCall) ∧ t.call.outcome = some .answered
          ∧ t.line.slot = none ∧ t.line.owner = .nobody) = true := by decide

/-- LINE_LOST fails a report call and ends a centre session (R124, R160). -/
theorem test_line_lost_tells_the_owner :
    leads (exec (.lineLost .line) { reporting .high (.report [1] [2] []) with
        cfg := { run.cfg with primary := [1] }, store := lockedRun.store }) (fun t => t.report.state = .backoff
      ∧ t.report.failures = 1 ∧ (alarmEntry t.alarm 9).state = .raised ∧ t.line.owner = .nobody) = true
    ∧ leads (exec (.lineLost .line) { run with line := { ownedLine .centre (.abort true) with centreUntil := some 5000 } })
        (fun t => t.line.centreUntil = none ∧ t.line.owner = .nobody) = true := by decide

theorem witness_SupplyCrossingsSaveTheAccount_recovering :
    (awake checking = true ∧ checking.supply.recovery ≠ none ∧ checking.supply.state = .normal
      ∧ nextWork checking.store = none ∧ checking.store.erase = none ∧ savePlaceUsable checking.store = true)
    ∧ (let s := { checking with supply := { checking.supply with state := .warn } }
       awake s = true ∧ s.supply.recovery ≠ none ∧ s.supply.state = .warn ∧ s.store.nextSave = none
        ∧ s.store.currentSave = none) := by decide

/-- WARN falling in recovery stops the erase and makes no save record (R188). -/
theorem test_no_save_record_in_recovery :
    leads (exec .warnFalling { checking with store := { checking.store with erase := some ⟨5, 1, false, .running⟩ } })
      (fun t => t.supply.state = .warn ∧ t.store.reserved = none ∧ t.store.saveNext = 0
        ∧ t.store.erase = some ⟨5, 1, false, .stopped⟩) = true := by decide

/-- A pending restart waits for each of its conditions (R191). -/
theorem test_restart_falls_due :
    let s := { run with supply := { recovery := none, restart := some .whenIdle } }
    restartDue s = true
      ∧ restartDue { s with line := { owner := .centre } } = false
      ∧ restartDue { s with line := { owner := .centre }, supply := { s.supply with restart := some .now, callEnded := true } } = true
      ∧ restartDue { s with coin := { gateTest := some 1004 } } = false
      ∧ restartDue { s with store := { s.store with queue := [.commit] } } = false
      ∧ restartDue { s with supply := { s.supply with state := .warn } } = false := by decide

/-! ### Own steps, freed places, postings and the scan -/

/-- A part whose inter-digit timer has run out with one digit keyed. -/
def digitDue : State :=
  { calling .collecting with
    cfg := { run.cfg with plan := plan }
    analyser := { state := .awaitingNext, buffer := [2], timer := some (.interDigit, 1000) } }

theorem witness_EmptyQueueStep_cases :
    (digitDue.pending = [] ∧ Running digitDue ∧ (dueTimers digitDue).head? = some .interDigitTimerExpiry)
    ∧ (run.tariff.clock = none ∧ readyCommand run = none)
    ∧ (∀ x ∈ [(⟨noon, 9⟩ : ClockTime), ⟨⟨2099, 12, 31, 23, 59, 59⟩, 9⟩],
        let s := { run with tariff := { clock := some x } }
        s.pending = [] ∧ Running s ∧ readyCommand s = none ∧ s.tariff.clock = some x
          ∧ (clockTick x = none ↔ x.time.year = 2099)) := by unfold Running; decide

/-- The clock becomes UNSET with the tenth it cannot take (R97). -/
theorem test_end_of_the_calendar :
    leads (step { run with tariff := { clock := some ⟨⟨2099, 12, 31, 23, 59, 59⟩, 9⟩ } })
      (fun t => t.tariff.clock = none ∧ t.now = 1001 ∧ t.pending = []) = true := by decide

/-- With no key the run-out inter-digit timer decides the number; with a key taken first, even in that tenth, the digit is
appended and no expiry is left for the number (R45, R59). -/
theorem test_key_and_inter_digit_expiry :
    leads (step digitDue) (fun t => t.call.state = .refused) = true
      ∧ leads (exec (.keyDigit .set 3) digitDue)
          (fun t => t.analyser.buffer = [2, 3] ∧ t.pending = [] ∧ readyCommand t = none ∧ t.call.state = .collecting) = true := by decide

/-- A part with both rings owed an erase, a call in the totals and so many operations queued. -/
def owingBoth (n : Nat) : State :=
  { run with store := { run.store with
      array := { headers := [(3, 0), (4, 0), (52, 0)] }, totals := { calls := 1, d := 5 }, queue := List.replicate n .commit } }

theorem witness_OwedWorkIsQueued_order :
    (∀ n ∈ [0, 7], let s := owingBoth n
      awake s = true ∧ eraseEligible .call s.store = true ∧ eraseEligible .alarm s.store = true
        ∧ 0 < s.store.totals.calls ∧ s.store.callRing.full = false ∧ s.store.waitingMarks = [])
    ∧ (let s := { owing false with store := { (owing false).store with waitingMarks := [⟨3, 0, 0⟩] } }
       awake s = true ∧ eraseEligible .call s.store = true ∧ s.store.waitingMarks ≠ []) := by decide

/-- The freed place goes to the call ring's erase, ahead of the alarm ring's and of the OVERFLOW record (R168). -/
theorem test_freed_place_order :
    ∀ n ∈ [0, 7],
      leads (exec (.owedEraseQueued .alarm) (owingBoth n)) (fun t => t = owingBoth n) = true
        ∧ leads (exec .overflowRecord (owingBoth n)) (fun t => t = owingBoth n) = true
        ∧ leads (exec (.owedEraseQueued .call) (owingBoth n))
            (fun t => t.store.queue = List.replicate n .commit ++ [.erase 5 1]) = true := by decide

/-- A part whose OPEN call-ring sector has this many places used, the next one with this header and, or not, a record. -/
def usedRing (used header : Nat) (held : Bool) : State :=
  { run with store := { run.store with
      callRing := { sector := 4, seq := 3, used := used }
      array := { headers := [(3, 0), (4, 3), (5, header), (52, 0), (53, 1)]
                 cells := if held then [(placeKey 5 0, { record := none, marks := [] })] else [] } } }

theorem witness_PlacesAreAssigned :
    ∀ used ∈ [62, 63, 64], ∀ header ∈ [0, 4], ∀ held ∈ [true, false],
      (postRing .call (.identity [] 0) (usedRing used header held).store).map (fun x => (x.2, (ringOf x.1 .call).full)) =
        if used < 64 then some (⟨4, used, 3⟩, used == 63 && held)
        else if header = 4 ∧ held = false then some (⟨5, 0, 4⟩, false) else none := by decide

theorem witness_PlacesAreAssigned_refused :
    postRing .call (.identity [] 0) (owing true).store = none
      ∧ (∀ n ∈ [7, 8], postRing .call (.identity [] 0) (storing (List.replicate n .commit) none none).store = none ↔ n = 8) := by
  decide

/-- An array of a used ring: sector 4 the newest of the call ring, sector 5 after it, with the mark of an acknowledgement or
without; sector 0 with two identity records. -/
def scannedArray (acknowledged locked : Bool) : NvArray :=
  { headers := [(4, 7), (5, 6), (52, 2)]
    image1 := some ⟨3, Configuration.initial⟩, image2 := some ⟨4, Configuration.initial⟩
    cells := [(placeKey 0 0, { record := some (.identity [1] 7), marks := if locked then [.lock] else [] }),
      (placeKey 0 1, { record := some (.identity [2] 8), marks := [] }),
      (placeKey 4 0, { record := none, marks := [] }),
      (placeKey 5 0, { record := some (.overflow {} none), marks := if acknowledged then [.acknowledged] else [] })] }

theorem witness_ScanFindsTheStore :
    ∀ acknowledged ∈ [true, false], ∀ locked ∈ [true, false],
      let a := scannedArray acknowledged locked
      let st := scanStore { array := a }
      cellsWf a.cells ∧ headersWf a.headers ∧ headerSeq 3 a.headers = none
        ∧ (ringCells .call 4 a).Pairwise (fun x y => x.1 < y.1)
        ∧ (st.callRing.sector, st.callRing.seq, st.callRing.used, st.callRing.upload, st.callRing.torn, st.callRing.full) =
            (4, 7, 1, (if acknowledged then 385 else 384), 1, false)
        ∧ (loadedImage a).map (·.seq) = some 4
        ∧ st.identity = { terminal := if locked then [1] else [2], site := if locked then 7 else 8
                          lock := if locked then .locked else .unlocked
                          newest := some (if locked then 0 else 1), next := 2 }
        ∧ st.queue = (if acknowledged then [.erase 5 8] else []) ++ [.erase 53 3, .erase 3 0] := by decide

theorem witness_ScanFindsTheStore_fresh :
    scanStore {} = { array := {}, identity := {}, queue := [.erase 4 0, .erase 52 0, .erase 5 1, .erase 53 1, .erase 3 0] }
      ∧ headerSeq 3 run.store.array.headers = some 0 ∧ cellsWf run.store.array.cells
      ∧ headersWf run.store.array.headers := by
  decide

/-- The scan of a used-up sector: FULL while the following one holds a record not acknowledged (R173, R179). -/
theorem test_scan_finds_a_full_ring :
    ∀ acknowledged ∈ [true, false],
      (scanStore { array := { scannedArray acknowledged false with cells :=
        [(placeKey 4 63, { record := none, marks := [] }),
         (placeKey 5 0, { record := none, marks := if acknowledged then [.acknowledged] else [] })] } }).callRing.full
        = !acknowledged := by decide

end Sys2Proof.Tests
end

section
/-! PROOFS. What a request of a running part leaves behind, said once for every owner; and the reading requests (O13). -/

namespace Sys2Proof.Proofs

open Sys2Proof Sys2Proof.Machine Sys2Proof.Laws

/-! ### Requests at a port where no read waits -/

/-- An owner that turns the frame-taken `s` into the frame-taken `t` leaves `t` with its answer in the slot. -/
theorem answerPort_frameTaken (p : Port) (code : ResultCode) (fields : List Byte) (t : State) :
    answerPort p (some (code, fields)) (frameTaken p t) = answeredWith p code fields t := by
  cases p <;> rfl

/-- A request goes to its owner with the frame taken. -/
theorem takeRequest_frameTaken {q : Request} {p : Port} {owner : State → State × Reply} {s : State} (h : Running s)
    (hf : SlotFree p s) (hp : permitted q p = true) :
    takeRequest q p owner s = answerPort p (owner (frameTaken p s)).2 (owner (frameTaken p s)).1 := by
  rw [takeRequest_running h hp, takeFrame_free hf]
  rfl

/-- A request whose owner takes `s` to `t`, the ports apart, ends in `t` with its answer in the slot. -/
theorem request_answered {q : Request} {p : Port} {owner : State → State × Reply} {s t : State} {code : ResultCode}
    {fields : List Byte} (h : Running s) (hf : SlotFree p s) (hp : permitted q p = true)
    (ho : owner (frameTaken p s) = (frameTaken p t, some (code, fields))) :
    (Host.Outcome.next (takeRequest q p owner s) : Host.Outcome State Fault Refusal)
      = .next (answeredWith p code fields t) := by
  rw [takeRequest_frameTaken h hf hp, ho, answerPort_frameTaken]

/-- The requests of the set's user are taken on the set's port and on the line. -/
theorem permitted_user {p : Port} (hp : p ≠ .service) : (p == .set || p == .line) = true := by
  cases p with
  | service => exact absurd rfl hp
  | set | line => rfl

/-- The requests of the operator are taken on the line and on the service port. -/
theorem permitted_operator {p : Port} (hp : p ≠ .set) : (p == .line || p == .service) = true := by
  cases p with
  | set => exact absurd rfl hp
  | line | service => rfl

/-- READ_STATUS is answered during recovery too (R192, R207). -/
theorem takeRequest_readStatus {p : Port} {owner : State → State × Reply} {s : State} (h : s.supply.inReset = false) :
    takeRequest .readStatus p owner s = answerPort p (owner (takeFrame p s)).2 (owner (takeFrame p s)).1 := by
  simp [takeRequest, h, permitted, answeredInRecovery]

/-- The taken frame empties the slot, of which the status says nothing (R207). -/
theorem statusFields_frameTaken (p : Port) (s : State) : statusFields p (frameTaken p s) = statusFields p s := by
  cases p <;> rfl

/-! ### The reading requests -/

/-- Settles O13: each owner answers from the frame-taken state, whose every field that is read is that of `s`. -/
theorem readRequestsChangeNothing : Obligations.ReadRequestsChangeNothing := by
  intro s
  refine ⟨fun p hr hf => ?_, fun h p hf => ⟨?_, ?_, ?_, ?_, ?_, ?_, ?_, ?_⟩⟩
  · change Host.Outcome.next (takeRequest .readStatus p _ s) = _
    rw [takeRequest_readStatus hr, takeFrame_free hf]
    change Host.Outcome.next (answerPort p (replyOk (statusFields p (frameTaken p s))) (frameTaken p s)) = _
    rw [statusFields_frameTaken]
    exact congrArg _ (answerPort_frameTaken p _ _ s)
  · intro hp
    exact request_answered h hf (permitted_user hp) rfl
  · intro hp
    exact request_answered h hf (permitted_user hp) rfl
  · rintro rfl
    exact request_answered h hf rfl rfl
  · rintro rfl b cls band hc hb
    refine request_answered h hf rfl ?_
    have hrange : (decide (7 < cls) || decide (3 < band)) = false := by simp; omega
    simp only [readTariff, hrange]
    rfl
  · rintro rfl entry
    constructor <;> intro he
    · exact request_answered h hf rfl (by rw [readPlan, if_pos (by omega)]; rfl)
    · exact request_answered h hf rfl (by rw [readPlan, if_neg (by omega)]; rfl)
  · intro hp first count hfirst hmin hmax
    refine request_answered h hf (permitted_operator hp) ?_
    have hrange : (decide (15 < first) || decide (count < 1) || decide (3 < count)) = false := by simp; omega
    simp only [readSources, hrange]
    rfl
  · intro hp
    exact request_answered h hf (permitted_operator hp) rfl
  · rintro rfl
    exact request_answered h hf rfl rfl

end Sys2Proof.Proofs
end

section
/-! PROOFS. What weighings, raisings, clears and the store's waiting work do to the alarm table and to the write queue. -/

namespace Sys2Proof.Proofs

open Sys2Proof Sys2Proof.Machine Sys2Proof.Laws

/-! ### The relations -/

/-- A weighing from `s` to `t` (R152): of the alarm table it moves sources that are not QUIET among the other states, and the
store is as it was. -/
structure Weighed (s t : State) : Prop where
  store : t.store = s.store
  service : t.alarm.service = s.alarm.service
  length : t.alarm.entries.length = s.alarm.entries.length
  quiet : ∀ j, (alarmEntry s.alarm j).state = .quiet → alarmEntry t.alarm j = alarmEntry s.alarm j
  marked : ∀ j, (alarmEntry s.alarm j).state ≠ .quiet → (alarmEntry t.alarm j).state ≠ .quiet

/-- From `s` to `t` no source but those of `l` has left QUIET, none has entered it, and the write queue has grown at its end
alone (R138, R168). -/
structure RaisedOnly (l : List Nat) (s t : State) : Prop where
  queue : s.store.queue <+: t.store.queue
  length : t.alarm.entries.length = s.alarm.entries.length
  quiet : ∀ j, j ∉ l → (alarmEntry s.alarm j).state = .quiet → alarmEntry t.alarm j = alarmEntry s.alarm j
  marked : ∀ j, (alarmEntry s.alarm j).state ≠ .quiet → (alarmEntry t.alarm j).state ≠ .quiet

theorem Weighed.of_eq {s t : State} (ha : t.alarm = s.alarm) (hs : t.store = s.store) : Weighed s t :=
  ⟨hs, by rw [ha], by rw [ha], fun j _ => by rw [ha], fun j h => by rwa [ha]⟩

theorem Weighed.trans {s t u : State} (h : Weighed s t) (h' : Weighed t u) : Weighed s u where
  store := h'.store.trans h.store
  service := h'.service.trans h.service
  length := h'.length.trans h.length
  quiet j hj := by
    have e := h.quiet j hj
    exact (h'.quiet j (by rw [e]; exact hj)).trans e
  marked j hj := h'.marked j (h.marked j hj)

theorem Weighed.raisedOnly {s t : State} (h : Weighed s t) (l : List Nat) : RaisedOnly l s t :=
  ⟨by rw [h.store], h.length, fun j _ => h.quiet j, h.marked⟩

theorem RaisedOnly.of_eq {l : List Nat} {s t : State} (ha : t.alarm = s.alarm) (hs : t.store = s.store) : RaisedOnly l s t :=
  (Weighed.of_eq ha hs).raisedOnly l

theorem RaisedOnly.trans {l : List Nat} {s t u : State} (h : RaisedOnly l s t) (h' : RaisedOnly l t u) :
    RaisedOnly l s u where
  queue := h.queue.trans h'.queue
  length := h'.length.trans h.length
  quiet j hl hj := by
    have e := h.quiet j hl hj
    exact (h'.quiet j hl (by rw [e]; exact hj)).trans e
  marked j hj := h'.marked j (h.marked j hj)

/-! ### Entries -/

theorem alarmEntry_setEntry_self {i : Nat} {e : AlarmEntry} {s : State} (h : i < s.alarm.entries.length) :
    alarmEntry (setEntry i e s).alarm i = e := by
  simp [alarmEntry, List.getD, h]

theorem alarmEntry_setEntry_other {i j : Nat} (e : AlarmEntry) (s : State) (h : i ≠ j) :
    alarmEntry (setEntry i e s).alarm j = alarmEntry s.alarm j := by
  simp [alarmEntry, List.getD, h]

/-- A source beyond the table has no entry to be marked. -/
theorem lt_length_of_marked {i : Nat} {s : State} (h : (alarmEntry s.alarm i).state ≠ .quiet) : i < s.alarm.entries.length := by
  by_contra hi
  exact h (by simp [alarmEntry, List.getD, List.getElem?_eq_none (by omega : s.alarm.entries.length ≤ i)])

/-- A marked source given another marked entry. -/
theorem weighed_setEntry {i : Nat} {e : AlarmEntry} {s : State} (hb : (alarmEntry s.alarm i).state ≠ .quiet)
    (he : e.state ≠ .quiet) : Weighed s (setEntry i e s) where
  store := rfl
  service := rfl
  length := by simp
  quiet j hj := alarmEntry_setEntry_other e s (by rintro rfl; exact hb hj)
  marked j hj := by
    by_cases hij : i = j
    · subst hij
      rwa [alarmEntry_setEntry_self (lt_length_of_marked hb)]
    · rwa [alarmEntry_setEntry_other e s hij]

/-- A source of the list given a marked entry. -/
theorem raisedOnly_setEntry {i : Nat} {l : List Nat} {e : AlarmEntry} {s : State} (hl : i ∈ l) (he : e.state ≠ .quiet) :
    RaisedOnly l s (setEntry i e s) where
  queue := List.prefix_refl _
  length := by simp
  quiet j hj _ := alarmEntry_setEntry_other e s (by rintro rfl; exact hj hl)
  marked j hj := by
    by_cases hij : i = j
    · subst hij
      rwa [alarmEntry_setEntry_self (lt_length_of_marked hj)]
    · rwa [alarmEntry_setEntry_other e s hij]

/-- A move of the report unit leads from a marked entry to a marked one (R142). -/
theorem moveEntry_marked {m : AlarmMove} {e f : AlarmEntry} (h : moveEntry m e = some f) : e.state ≠ .quiet ∧ f.state ≠ .quiet := by
  unfold moveEntry at h
  split at h
  case h_5 he => split at h <;> simp_all; simp [← h]
  all_goals simp_all
  all_goals simp [← h]

theorem moveSource_weighed {m : AlarmMove} {i : Nat} {s t : State} (h : moveSource m i s = some t) : Weighed s t := by
  unfold moveSource at h
  rw [Option.map_eq_some_iff] at h
  obtain ⟨e, he, rfl⟩ := h
  obtain ⟨hb, hm⟩ := moveEntry_marked he
  exact weighed_setEntry hb hm

/-! ### The weighing (R152 to R157) -/

theorem gatherBatch_weighed (l : List Nat) (s : State) : Weighed s (gatherBatch l s).1 := by
  induction l generalizing s with
  | nil => exact .of_eq rfl rfl
  | cons i rest ih =>
    simp only [gatherBatch]
    split
    · exact ih s
    · rename_i t h
      exact (moveSource_weighed h).trans (ih t)

theorem reportGranted_weighed (s : State) : Weighed s (reportGranted s).1 := by
  unfold reportGranted
  split
  · exact .of_eq rfl rfl
  · have hg := gatherBatch_weighed (batchOrder s) s
    simp only
    split
    · exact hg.trans (.of_eq rfl rfl)
    · refine hg.trans (.of_eq ?_ ?_) <;> (unfold settleCentre; split <;> rfl)

theorem grantReport_weighed (s : State) : Weighed s (grantReport s) := by
  have h : Weighed s (reportGranted (setOwner .report s)).1 :=
    (Weighed.of_eq (by simp) (by simp)).trans (reportGranted_weighed _)
  unfold grantReport
  split <;> rename_i e <;> rw [e] at h <;> exact h.trans (.of_eq (by simp) (by simp))

theorem makeReportClaim_weighed (s : State) : Weighed s (makeReportClaim s) := by
  unfold makeReportClaim
  simp only
  split
  · exact .trans (t := { s with report := { s.report with state := .claimed } }) (.of_eq rfl rfl) (grantReport_weighed _)
  all_goals exact .of_eq rfl rfl

theorem weighAct_weighed (s : State) : Weighed s (weighAct s) := by
  unfold weighAct
  repeat' split
  case h_1.isTrue => exact makeReportClaim_weighed s
  all_goals exact .of_eq rfl rfl

theorem weigh_weighed (s : State) : Weighed s (weigh s) := by
  unfold weigh
  split
  · exact .of_eq rfl rfl
  · exact (Weighed.of_eq (by simp) (by simp)).trans (weighAct_weighed _)

theorem tellRaised_weighed (i : Nat) (s : State) : Weighed s (tellRaised i s) := by
  unfold tellRaised
  split
  · exact .of_eq rfl rfl
  · cases h : moveSource .resumed i s with
    | none => exact weigh_weighed s
    | some t => exact (moveSource_weighed h).trans (weigh_weighed t)

/-- The service state depends on which sources are marked and on their setups alone (R141). -/
theorem derivedService_congr {s t : State} (hc : t.cfg = s.cfg)
    (hq : ∀ j, (alarmEntry t.alarm j).state = .quiet ↔ (alarmEntry s.alarm j).state = .quiet) :
    derivedService t = derivedService s := by
  have he : ∀ e, effectiveSources t e = effectiveSources s e := by
    intro e
    refine List.filter_congr fun j _ => ?_
    have hj : ((alarmEntry t.alarm j).state != .quiet) = ((alarmEntry s.alarm j).state != .quiet) := by
      rw [Bool.eq_iff_iff]
      simp [hq j]
    rw [hj, hc]
  simp only [derivedService, he]

theorem Weighed.quiet_iff {s t : State} (h : Weighed s t) (j : Nat) :
    (alarmEntry t.alarm j).state = .quiet ↔ (alarmEntry s.alarm j).state = .quiet := by
  refine ⟨fun ht => ?_, fun hs => by rw [h.quiet j hs]; exact hs⟩
  by_contra hs
  exact h.marked j hs ht

@[simp] theorem deriveService_entries (s : State) : (deriveService s).alarm.entries = s.alarm.entries := by
  unfold deriveService
  split <;> simp

@[simp] theorem alarmEntry_deriveService (j : Nat) (s : State) : alarmEntry (deriveService s).alarm j = alarmEntry s.alarm j := by
  simp [alarmEntry]

theorem postNotice_raisedOnly (l : List Nat) (k : NoticeKind) (fs : List Byte) (s : State) :
    RaisedOnly l s (postNotice k fs s) := .of_eq (by simp) (by simp)

theorem deriveService_raisedOnly (l : List Nat) (s : State) : RaisedOnly l s (deriveService s) :=
  ⟨by simp, by simp, fun j _ _ => by simp, fun j h => by simpa using h⟩

theorem derivedService_deriveService (s : State) : derivedService (deriveService s) = derivedService s :=
  derivedService_congr (by simp) fun j => by simp

/-- Deriving the service state afresh makes it the derived one (R141). -/
theorem deriveService_service (s : State) : (deriveService s).alarm.service = derivedService s := by
  unfold deriveService
  split
  · rename_i h
    exact h.symm
  · simp

/-- A weighing keeps the service state the derived one. -/
theorem weigh_deriveService_service (s : State) :
    (weigh (deriveService s)).alarm.service = derivedService (weigh (deriveService s)) := by
  have hw := weigh_weighed (deriveService s)
  have hcfg : (weigh (deriveService s)).cfg = (deriveService s).cfg := (weigh_same (deriveService s)).2.2.1
  rw [hw.service, derivedService_congr hcfg hw.quiet_iff, derivedService_deriveService, deriveService_service]

/-! ### Postings to the rings -/

/-- A ring record joins the queue as its newest operation (R168). -/
theorem postRing_queue {r : Ring} {rec : Record} {st st' : Store} {p : Place} (h : postRing r rec st = some (st', p)) :
    st'.queue = st.queue ++ [.record p rec] := by
  unfold postRing enqueue at h
  split at h
  · simp at h
  split at h
  · simp at h
  simp only at h
  split at h
  · simp at h
  rename_i g _ st1 hst1
  split at hst1
  · obtain rfl := Option.some.inj hst1
    split at h <;> (simp only [Option.some.injEq, Prod.mk.injEq] at h; obtain ⟨rfl, rfl⟩ := h; simp)
  · simp at hst1

theorem postRecord_queue {r : Ring} {rec : Record} {s t : State} {p : Place} (h : postRecord r rec s = some (t, p)) :
    t.store.queue = s.store.queue ++ [.record p rec] := by
  unfold postRecord at h
  split at h
  · simp at h
  · rename_i st place e
    simp only at h
    split at h <;> (simp only [Option.some.injEq, Prod.mk.injEq] at h; obtain ⟨rfl, rfl⟩ := h; simpa using postRing_queue e)

theorem postRecord_alarm {r : Ring} {rec : Record} {s t : State} {p : Place} (h : postRecord r rec s = some (t, p)) :
    t.alarm = s.alarm := by
  unfold postRecord at h
  split at h
  · simp at h
  · simp only at h
    split at h <;> (simp only [Option.some.injEq, Prod.mk.injEq] at h; obtain ⟨rfl, -⟩ := h; simp)

/-- A posting is refused exactly where the ring refuses the record (R173). -/
theorem postRecord_none_iff {r : Ring} {rec : Record} {s : State} : postRecord r rec s = none ↔ postRing r rec s.store = none := by
  unfold postRecord
  cases h : postRing r rec s.store with
  | none => simp
  | some x => simp only; split <;> simp

theorem postRecord_raisedOnly (l : List Nat) {r : Ring} {rec : Record} {s t : State} {p : Place}
    (h : postRecord r rec s = some (t, p)) : RaisedOnly l s t where
  queue := by rw [postRecord_queue h]; exact List.prefix_append _ _
  length := by rw [postRecord_alarm h]
  quiet j _ _ := by rw [postRecord_alarm h]
  marked j hj := by rwa [postRecord_alarm h]

/-! ### Raisings (R138 to R141) -/

theorem raiseEntry_marked (time : Option DateTime) (e : AlarmEntry) : (raiseEntry time e).state ≠ .quiet := by
  unfold raiseEntry
  split <;> simp_all

/-- A raising touches its own source, which it marks, and those that a lost record raises (R138, R139). -/
theorem raiseWith_raisedOnly {lost : State → State} {i : Nat} {l : List Nat} (hi : i ∈ l)
    (hlost : ∀ s, RaisedOnly l s (lost s)) (o : Origin) (s : State) :
    RaisedOnly l s (raiseWith lost i o s)
      ∧ (i < s.alarm.entries.length → (alarmEntry (raiseWith lost i o s).alarm i).state ≠ .quiet) := by
  have hm := raiseEntry_marked (timeOfDay s) (alarmEntry s.alarm i)
  unfold raiseWith
  simp only
  generalize raiseEntry (timeOfDay s) (alarmEntry s.alarm i) = e at hm ⊢
  suffices key : ∀ u, RaisedOnly l (setEntry i e s) u →
      RaisedOnly l s u ∧ (i < s.alarm.entries.length → (alarmEntry u.alarm i).state ≠ .quiet) by
    refine key _ (.trans ?_ ((tellRaised_weighed i _).raisedOnly l))
    split
    on_goal 1 => refine .trans (.trans ?_ (postNotice_raisedOnly l _ _ _)) (deriveService_raisedOnly l _)
    on_goal 2 => refine .trans ?_ (postNotice_raisedOnly l _ _ _)
    all_goals
      split
      · rename_i hp
        exact (postRecord_raisedOnly l hp).trans (raisedOnly_setEntry hi hm)
      · exact .trans (raisedOnly_setEntry (e := { e with latest := none }) hi hm) (hlost _)
  intro u hu
  refine ⟨(raisedOnly_setEntry hi hm).trans hu, fun h => hu.marked i ?_⟩
  rwa [alarmEntry_setEntry_self h]

theorem raiseStore_raisedOnly {l : List Nat} (hl : srcStore ∈ l) (s : State) : RaisedOnly l s (raiseStore s) :=
  (raiseWith_raisedOnly hl (fun _ => .of_eq rfl rfl) _ s).1

theorem raiseNow_marks (i : Nat) (o : Origin) (s : State) :
    RaisedOnly [i, srcStore] s (raiseNow i o s)
      ∧ (i < s.alarm.entries.length → (alarmEntry (raiseNow i o s).alarm i).state ≠ .quiet) := by
  unfold raiseNow
  split
  · exact raiseWith_raisedOnly (by simp) (fun _ => .of_eq rfl rfl) o s
  · exact raiseWith_raisedOnly (by simp) (raiseStore_raisedOnly (by simp)) o s

/-! ### Clears (R144, R145) -/

/-- What a clear leaves: its source QUIET with nothing in its entry, the service state derived, the write queue grown at its
end alone, and the table as long as it was. -/
theorem clearSource_clears (i : Nat) (o : Origin) (s : State) :
    s.store.queue <+: (clearSource i o s).store.queue
      ∧ (clearSource i o s).alarm.entries.length = s.alarm.entries.length
      ∧ (clearSource i o s).alarm.service = derivedService (clearSource i o s)
      ∧ (i ≠ srcStore → i < s.alarm.entries.length → alarmEntry (clearSource i o s).alarm i = {}) := by
  have hentries : (if i < 8 then clearSensor i (setEntry i {} s) else setEntry i {} s).alarm.entries
      = s.alarm.entries.set i {} := by split <;> rfl
  have hstore : (if i < 8 then clearSensor i (setEntry i {} s) else setEntry i {} s).store = s.store := by split <;> rfl
  unfold clearSource
  simp only
  generalize (if i < 8 then clearSensor i (setEntry i {} s) else setEntry i {} s) = t at hentries hstore ⊢
  suffices key : ∀ u, RaisedOnly [srcStore] t (weigh (deriveService u)) →
      s.store.queue <+: (weigh (deriveService u)).store.queue
        ∧ (weigh (deriveService u)).alarm.entries.length = s.alarm.entries.length
        ∧ (weigh (deriveService u)).alarm.service = derivedService (weigh (deriveService u))
        ∧ (i ≠ srcStore → i < s.alarm.entries.length → alarmEntry (weigh (deriveService u)).alarm i = {}) by
    refine key _ ?_
    refine .trans ?_ ((weigh_weighed _).raisedOnly _)
    refine .trans ?_ (deriveService_raisedOnly _ _)
    refine .trans ?_ (postNotice_raisedOnly _ _ _ _)
    split
    · rename_i hp
      exact postRecord_raisedOnly _ hp
    · split
      · exact .of_eq rfl rfl
      · exact raiseStore_raisedOnly (by simp) t
  intro u hu
  refine ⟨hstore ▸ hu.queue, ?_, weigh_deriveService_service u, fun hi hlt => ?_⟩
  · rw [hu.length, hentries, List.length_set]
  · have he : alarmEntry t.alarm i = {} := by simp [alarmEntry, List.getD, hentries, hlt]
    rw [hu.quiet i (by simpa using hi) (by rw [he]), he]

theorem autoClear_length (i : Nat) (s : State) : (autoClear i s).alarm.entries.length = s.alarm.entries.length := by
  obtain ⟨-, hl, -⟩ := clearSource_clears i .automatic s
  unfold autoClear
  split <;> simp [hl]

/-! ### The store's waiting work keeps the table's length -/

theorem askStoreClear_length (s : State) : (askStoreClear s).alarm.entries.length = s.alarm.entries.length := by
  unfold askStoreClear
  split
  · exact autoClear_length _ s
  · rfl

theorem doWork_length (w : WaitingWork) (s : State) : (doWork w s).alarm.entries.length = s.alarm.entries.length := by
  cases w with
  | mark p => rfl
  | ringErase r =>
    simp only [doWork, queueRingErase]
    split
    · rw [askStoreClear_length, postNotice_alarm]
    · rfl
  | saveErase => rfl
  | overflow =>
    simp only [doWork, postOverflow]
    split
    · rfl
    · rename_i t p h
      rw [askStoreClear_length]
      exact congrArg (·.entries.length) (postRecord_alarm h)

theorem settleWork_length (n : Nat) (s : State) : (settleWork n s).alarm.entries.length = s.alarm.entries.length := by
  induction n generalizing s with
  | zero => rfl
  | succ n ih =>
    simp only [settleWork]
    split
    · rfl
    · rw [ih, doWork_length]

/-- A raised source is not QUIET, whatever work of the store went ahead (R138). -/
theorem raise_marks {i : Nat} {s : State} (o : Origin) (hlen : s.alarm.entries.length = 16) (hi : i < 16) :
    (alarmEntry (raise i o s).alarm i).state ≠ .quiet :=
  (raiseNow_marks i o (settleWaiting s)).2 (by rwa [settleWaiting, settleWork_length, hlen])

end Sys2Proof.Proofs
end

section
/-! PROOFS. The levels of the cash box, and the owners of the configuration requests. -/

namespace Sys2Proof.Proofs

open Sys2Proof Sys2Proof.Machine Sys2Proof.Laws

/-! ### Notices write the ports alone -/

theorem postNotice_eq (k : NoticeKind) (fs : List Byte) (s : State) :
    postNotice k fs s = { s with ports := (postNotice k fs s).ports } := by
  unfold postNotice offerAll
  simp only
  split <;> rfl

theorem postNotice_ports_congr (k : NoticeKind) (fs : List Byte) {s t : State} (hp : s.ports = t.ports)
    (ht : s.tariff = t.tariff) : (postNotice k fs s).ports = (postNotice k fs t).ports := by
  simp only [postNotice, offerAll, noticeTime, hp, ht]
  split <;> rfl

theorem offer_fetch_none {ns : List Notice} {bit : ClassBits} {v : PortState} (h : v.fetch = none) :
    (offer ns bit v).fetch = none := by
  unfold offer
  repeat' split
  all_goals simp [h]

theorem offer_sent (ns : List Notice) (bit : ClassBits) (v : PortState) : (offer ns bit v).sent = v.sent := by
  unfold offer
  repeat' split
  all_goals rfl

theorem postNotice_fetch_none {k : NoticeKind} {fs : List Byte} {s : State} {p : Port}
    (h : (portOf s.ports p).fetch = none) : (portOf (postNotice k fs s).ports p).fetch = none := by
  unfold postNotice offerAll
  simp only
  split <;> cases p <;> first | exact h | exact offer_fetch_none h

theorem postNotice_sent (k : NoticeKind) (fs : List Byte) (s : State) (p : Port) :
    (portOf (postNotice k fs s).ports p).sent = (portOf s.ports p).sent := by
  unfold postNotice offerAll
  simp only
  split <;> cases p <;> first | rfl | exact offer_sent _ _ _

/-- The answer fills the slot; what a taken frame left in the port's other fields it finds there already. -/
theorem answerPort_eq_answeredWith {p : Port} {code : ResultCode} {fields : List Byte} {s : State}
    (hfetch : (portOf s.ports p).fetch = none) (hsent : (portOf s.ports p).sent = .ofRequest) :
    answerPort p (some (code, fields)) s = answeredWith p code fields s := by
  simp only [answerPort, updatePort, answeredWith, ← hfetch, ← hsent]

/-! ### The levels of the box (R15) -/

/-- BOX_NEAR is due: the near level is reached and not yet told of. -/
abbrev nearDue (s : State) : Prop := s.coin.nearPosted = false ∧ nearLevel s.cfg.capacity ≤ s.coin.tally.coins

theorem checkNear_due {s : State} (h : nearDue s) :
    checkNear s = postNotice .boxNear (byte2 s.coin.tally.coins ++ byte4 s.coin.tally.value)
      { s with coin := { s.coin with nearPosted := true } } := by
  simp [checkNear, h.1, h.2]

theorem checkNear_not_due {s : State} (h : ¬ nearDue s) : checkNear s = s := by
  unfold checkNear
  rw [if_neg]
  simpa [nearDue] using h

/-- Looking at the near level writes the near-posted flag, and BOX_NEAR into the notices. -/
theorem checkNear_eq (s : State) : checkNear s = { s with
    coin := { s.coin with nearPosted := s.coin.nearPosted || decide (nearDue s) }
    ports := if nearDue s then (postNotice .boxNear (byte2 s.coin.tally.coins ++ byte4 s.coin.tally.value) s).ports
      else s.ports } := by
  by_cases h : nearDue s
  · rw [checkNear_due h, postNotice_eq, decide_eq_true h, Bool.or_true, if_pos h,
      postNotice_ports_congr _ _ (t := s) rfl rfl]
    rfl
  · rw [checkNear_not_due h, decide_eq_false h, Bool.or_false, if_neg h]

@[simp] theorem checkNear_cfg (s : State) : (checkNear s).cfg = s.cfg := by rw [checkNear_eq]
@[simp] theorem checkNear_tally (s : State) : (checkNear s).coin.tally = s.coin.tally := by rw [checkNear_eq]
@[simp] theorem checkNear_alarm (s : State) : (checkNear s).alarm = s.alarm := by rw [checkNear_eq]

/-- Where the near level is reached the flag is set afterwards. -/
theorem nearPosted_or_due {s : State} (h : nearLevel s.cfg.capacity ≤ s.coin.tally.coins) :
    (s.coin.nearPosted || decide (nearDue s)) = true := by
  rw [Bool.or_eq_true, decide_eq_true_iff]
  by_cases hp : s.coin.nearPosted = false
  · exact .inr ⟨hp, h⟩
  · exact .inl (by simpa using hp)

/-- Both levels where the tally has come to stand at the capacity. -/
theorem checkLevels_full {s : State} {wasBelow : Bool} (h : wasBelow = true ∧ s.cfg.capacity ≤ s.coin.tally.coins) :
    checkFull wasBelow (checkNear s) = raise srcBoxFull .coinUnit (checkNear s) := by
  simp [checkFull, h.1, h.2]

/-- Both levels where it has not. -/
theorem checkLevels_not_full {s : State} {wasBelow : Bool} (h : ¬ (wasBelow = true ∧ s.cfg.capacity ≤ s.coin.tally.coins)) :
    checkFull wasBelow (checkNear s) = checkNear s := by
  unfold checkFull
  rw [if_neg]
  simpa using h

/-- Looking at both levels writes the near-posted flag, and besides what a raising may write. -/
theorem checkLevels_same (wasBelow : Bool) (s : State) :
    SameOutsideAlarm { s with coin := { s.coin with nearPosted := s.coin.nearPosted || decide (nearDue s) } }
      (checkFull wasBelow (checkNear s)) := by
  have hnear : SameOutsideAlarm
      { s with coin := { s.coin with nearPosted := s.coin.nearPosted || decide (nearDue s) } } (checkNear s) := by
    rw [checkNear_eq]
    exact same_refl _
  unfold checkFull
  split
  · exact same_trans hnear (raise_same _ _ _)
  · exact hnear

theorem checkLevels_marks {s : State} {wasBelow : Bool} (h : wasBelow = true ∧ s.cfg.capacity ≤ s.coin.tally.coins)
    (hlen : s.alarm.entries.length = 16) : (alarmEntry (checkFull wasBelow (checkNear s)).alarm srcBoxFull).state ≠ .quiet := by
  rw [checkLevels_full h]
  exact raise_marks .coinUnit (by simpa using hlen) (by decide)

/-! ### The number plan (R48) -/

/-- No other entry has the digits. -/
theorem all_eraseIdx_iff {plan : List PlanEntry} {entry : Nat} {ds : Digits} (hds : ds ≠ []) :
    (plan.eraseIdx entry).all (fun e => e.digits != ds) = true ↔ ∀ j, j ≠ entry → (plan.getD j {}).digits ≠ ds := by
  simp only [List.all_eq_true, bne_iff_ne, List.mem_eraseIdx_iff_getElem?]
  constructor
  · intro h j hj
    rw [List.getD_eq_getElem?_getD]
    cases he : plan[j]? with
    | none => exact fun h0 => hds h0.symm
    | some e => exact h e ⟨j, hj, he⟩
  · rintro h e ⟨j, hj, he⟩
    simpa [List.getD_eq_getElem?_getD, he] using h j hj

theorem classOfNumber_le {n : Nat} {c : CallClass} (h : classOfNumber n = some c) : n ≤ 7 := by
  by_contra hn
  obtain ⟨m, rfl⟩ := Nat.exists_eq_add_of_lt (Nat.lt_of_not_le hn)
  simp [classOfNumber, show 7 + m + 1 = m + 8 by omega] at h

/-- Where digits are written the checks 2 to 5 of WRITE_PLAN are these (R48; log 36). -/
theorem planFieldsValid_prefix {entry : Nat} {f : PlanFields} {plan : List PlanEntry} (hd : f.digits ≠ []) :
    planFieldsValid entry f plan = true ↔
      (entry ≤ 47 ∧ f.digits.length ≤ 10 ∧ (∀ d ∈ f.digits, d ≤ 11))
        ∧ (1 ≤ f.minLen ∧ f.minLen ≤ 24 ∧ f.minLen ≤ f.maxLen ∧ f.maxLen ≤ 24 ∧ f.digits.length ≤ f.maxLen)
        ∧ (f.cls ≤ 7 ∧ f.barred ≠ none ∧ f.emergency ≠ none ∧ f.noCoin ≠ none ∧ f.dialAtMin ≠ none)
        ∧ ∀ j, j ≠ entry → (plan.getD j {}).digits ≠ f.digits := by
  rw [← all_eraseIdx_iff hd]
  simp only [planFieldsValid, Bool.and_eq_true, Bool.or_eq_true, beq_iff_eq, hd, false_or, decide_eq_true_eq,
    Option.isSome_iff_ne_none, List.all_eq_true, Nat.lt_succ_iff]
  tauto

theorem planFieldsValid_shape {entry : Nat} {f : PlanFields} {plan : List PlanEntry}
    (h : planFieldsValid entry f plan = true) : entry ≤ 47 ∧ f.digits.length ≤ 10 ∧ ∀ d ∈ f.digits, d ≤ 11 := by
  simp only [planFieldsValid, Bool.and_eq_true, decide_eq_true_eq, List.all_eq_true] at h
  obtain ⟨⟨⟨he, hl⟩, hd⟩, -⟩ := h
  exact ⟨by omega, hl, hd⟩

/-- A plan entry without digits is valid for any entry, whatever the other fields are. -/
theorem planFieldsValid_empty {entry : Nat} {f : PlanFields} {plan : List PlanEntry} (he : entry ≤ 47) (hd : f.digits = []) :
    planFieldsValid entry f plan = true := by
  simp [planFieldsValid, hd]
  omega

/-! ### The owners of the configuration requests -/

variable {s : State}

theorem writeCoin_range {k v : Nat} (h : k < 1 ∨ 6 < k ∨ 65535 < v) : writeCoin k v s = (s, refuseRange) := by
  unfold writeCoin
  rw [if_pos]
  simpa [or_assoc] using h

theorem writeCoin_inRange {k v : Nat} (h1 : 1 ≤ k) (h6 : k ≤ 6) (hv : v ≤ 65535) :
    writeCoin k v s = if s.call.state ≠ .idle then (s, refuseState)
      else ({ s with cfg := { s.cfg with coinValues := s.cfg.coinValues.set (k - 1) v } }, replyOk []) := by
  unfold writeCoin
  rw [if_neg]
  simp only [Bool.or_eq_true, decide_eq_true_eq]
  omega

theorem writePlan_inCall {entry : Nat} {f : PlanFields} (h : s.call.state = .collecting ∨ s.call.state = .waitCoins) :
    writePlan entry f s = (s, refuseState) := if_pos h

theorem writePlan_invalid {entry : Nat} {f : PlanFields} (hc : s.call.state ≠ .collecting) (hw : s.call.state ≠ .waitCoins)
    (h : ¬ planFieldsValid entry f s.cfg.plan = true) : writePlan entry f s = (s, refuseRange) := by
  simp [writePlan, hc, hw, h]

theorem writePlan_valid {entry : Nat} {f : PlanFields} (hc : s.call.state ≠ .collecting) (hw : s.call.state ≠ .waitCoins)
    (h : planFieldsValid entry f s.cfg.plan = true) :
    writePlan entry f s = ({ s with cfg := { s.cfg with plan := s.cfg.plan.set entry (planEntryOf f) } }, replyOk []) := by
  simp [writePlan, hc, hw, h]

theorem writeInterDigit_range {n : Nat} (h : n < 2 ∨ 30 < n) : writeInterDigit n s = (s, refuseRange) :=
  if_pos (by simpa using h)

theorem writeInterDigit_inRange {n : Nat} (h2 : 2 ≤ n) (h30 : n ≤ 30) :
    writeInterDigit n s = ({ s with cfg := { s.cfg with interDigit := n } }, replyOk []) := by
  simp [writeInterDigit, Nat.not_lt.2 h2, Nat.not_lt.2 h30]

theorem writeRing_range {n : Nat} (h : n < 30 ∨ 300 < n) : writeRing n s = (s, refuseRange) :=
  if_pos (by simpa using h)

theorem writeRing_inRange {n : Nat} (h30 : 30 ≤ n) (h300 : n ≤ 300) :
    writeRing n s = ({ s with cfg := { s.cfg with ring := n } }, replyOk []) := by
  simp [writeRing, Nat.not_lt.2 h30, Nat.not_lt.2 h300]

theorem writeCapacity_range {n : Nat} (h : n < 100 ∨ 3000 < n) : writeCapacity n s = (s, refuseRange) :=
  if_pos (by simpa using h)

theorem writeCapacity_inRange {n : Nat} (h100 : 100 ≤ n) (h3000 : n ≤ 3000) :
    writeCapacity n s = (checkFull (decide (s.coin.tally.coins < s.cfg.capacity))
      (checkNear { s with cfg := { s.cfg with capacity := n } }), replyOk []) := by
  simp [writeCapacity, Nat.not_lt.2 h100, Nat.not_lt.2 h3000]

theorem writeCode_range {code : Digits} (h : code.length ≠ 8 ∨ ¬ ∀ d ∈ code, d ≤ 9) : writeCode code s = (s, refuseRange) := by
  unfold writeCode
  rw [if_neg]
  simp only [List.all_eq_true, decide_eq_true_eq]
  tauto

theorem writeCode_inRange {code : Digits} (hl : code.length = 8) (hd : ∀ d ∈ code, d ≤ 9) :
    writeCode code s = ({ s with cfg := { s.cfg with code := code } }, replyOk []) :=
  if_pos ⟨hl, by simpa using hd⟩

end Sys2Proof.Proofs
end

section
/-! PROOFS. The configuration requests (O47). -/

namespace Sys2Proof.Proofs

open Sys2Proof Sys2Proof.Machine Sys2Proof.Laws

/-! ### The box capacity (R15) -/

theorem nearLevel_le {n : Nat} (h : 100 ≤ n) : nearLevel n ≤ n := by
  unfold nearLevel
  omega

/-- A capacity that brings no notice and no alarm. -/
theorem writeCapacity_plain {n : Nat} {s : State} (h100 : 100 ≤ n) (h3000 : n ≤ 3000)
    (hnear : ¬ nearDue { s with cfg := { s.cfg with capacity := n } })
    (hfull : ¬ (s.coin.tally.coins < s.cfg.capacity ∧ n ≤ s.coin.tally.coins)) :
    writeCapacity n s = ({ s with cfg := { s.cfg with capacity := n } }, replyOk []) := by
  rw [writeCapacity_inRange h100 h3000, checkLevels_not_full (by simpa using hfull), checkNear_not_due hnear]

/-- A capacity whose near level the tally stands at, below the capacity itself or above the old one. -/
theorem writeCapacity_near {n : Nat} {s : State} (h100 : 100 ≤ n) (h3000 : n ≤ 3000)
    (hnear : nearDue { s with cfg := { s.cfg with capacity := n } })
    (hfull : ¬ (s.coin.tally.coins < s.cfg.capacity ∧ n ≤ s.coin.tally.coins)) :
    writeCapacity n s = (postNotice .boxNear (byte2 s.coin.tally.coins ++ byte4 s.coin.tally.value)
      { s with cfg := { s.cfg with capacity := n }, coin := { s.coin with nearPosted := true } }, replyOk []) := by
  rw [writeCapacity_inRange h100 h3000, checkLevels_not_full (by simpa using hfull), checkNear_due hnear]

/-- A capacity that the tally, below the old one, stands at raises BOX_FULL, its near level being reached. -/
theorem writeCapacity_full {n : Nat} {s : State} (h100 : 100 ≤ n) (h3000 : n ≤ 3000)
    (hfull : s.coin.tally.coins < s.cfg.capacity ∧ n ≤ s.coin.tally.coins) (hlen : s.alarm.entries.length = 16) :
    (writeCapacity n s).2 = replyOk []
      ∧ SameOutsideAlarm { s with cfg := { s.cfg with capacity := n }, coin := { s.coin with nearPosted := true } }
          (writeCapacity n s).1
      ∧ (alarmEntry (writeCapacity n s).1.alarm srcBoxFull).state ≠ .quiet := by
  have hflag := nearPosted_or_due (s := { s with cfg := { s.cfg with capacity := n } })
    ((nearLevel_le h100).trans hfull.2)
  have hsame := checkLevels_same (decide (s.coin.tally.coins < s.cfg.capacity))
    { s with cfg := { s.cfg with capacity := n } }
  rw [hflag] at hsame
  rw [writeCapacity_inRange h100 h3000]
  exact ⟨rfl, hsame, checkLevels_marks (by simpa using hfull) hlen⟩

/-- Settles O47: each owner's answer, by what its checks say of the value. -/
theorem configurationIsWritten : Obligations.ConfigurationIsWritten := by
  intro k v entry n f code s h hf written outOfRange refused
  have answered {q : Request} {owner : State → State × Reply} {t : State} {result : ResultCode}
      (hp : permitted q .line = true) (ho : owner (frameTaken .line s) = (frameTaken .line t, some (result, []))) :
      (Host.Outcome.next (takeRequest q .line owner s) : Host.Outcome State Fault Refusal)
        = .next (answeredWith .line result [] t) := request_answered h hf hp ho
  refine ⟨fun hr => answered rfl (writeCoin_range hr), ?_, fun hc => answered rfl (writePlan_inCall hc), ?_,
    fun hr => answered rfl (writeInterDigit_range hr), fun h2 h30 => answered rfl (writeInterDigit_inRange h2 h30),
    fun hr => answered rfl (writeRing_range hr), fun h30 h300 => answered rfl (writeRing_inRange h30 h300),
    fun hr => answered rfl (writeCapacity_range hr), ?_, ?_,
    fun hr => answered rfl (writeCode_range hr), fun hl hd => answered rfl (writeCode_inRange hl hd)⟩
  · intro h1 h6 hv
    constructor <;> intro hc <;> refine answered rfl ((writeCoin_inRange h1 h6 hv).trans ?_)
    · exact if_pos hc
    · exact if_neg (not_not.2 hc)
  · intro hc hw
    have invalid (hi : ¬ planFieldsValid entry f s.cfg.plan = true) : exec (.writePlan .line entry f) s = outOfRange :=
      answered rfl (writePlan_invalid hc hw hi)
    have valid (hv : planFieldsValid entry f s.cfg.plan = true) : exec (.writePlan .line entry f) s
        = written { s.cfg with plan := s.cfg.plan.set entry (planEntryOf f) } := answered rfl (writePlan_valid hc hw hv)
    refine ⟨fun hshape => invalid fun hv => ?_, fun hd hfield => invalid fun hv => ?_,
      fun hd j hj hsame => invalid fun hv => ?_, fun he hd => ?_, ?_⟩
    · obtain ⟨he, hl, hds⟩ := planFieldsValid_shape hv
      rcases hshape with hx | hx | hx
      · omega
      · omega
      · exact hx hds
    · obtain ⟨-, ⟨hm1, hm24, hmm, hx24, hlen⟩, ⟨hcls, hb, he, hn, hdial⟩, -⟩ := (planFieldsValid_prefix hd).1 hv
      rcases hfield with hx | hx | hx | hx | hx | hx | hx | hx | hx | hx
      all_goals first | omega | exact absurd hx ‹_›
    · exact ((planFieldsValid_prefix hd).1 hv).2.2.2 j hj hsame
    · rw [valid (planFieldsValid_empty he hd), planEntryOf, if_pos hd]
    · intro he hd hl hds hm1 hm24 hmm hx24 hlen hother cls hcls barred hb emergency hem noCoin hn dialAtMin hdial
      have hv : planFieldsValid entry f s.cfg.plan = true := (planFieldsValid_prefix hd).2
        ⟨⟨he, hl, hds⟩, ⟨hm1, hm24, hmm, hx24, hlen⟩,
          ⟨classOfNumber_le hcls, by simp [hb], by simp [hem], by simp [hn], by simp [hdial]⟩, hother⟩
      rw [valid hv, planEntryOf, if_neg hd]
      simp [hcls, hb, hem, hn, hdial]
  · intro h100 h3000 hbelow
    have hl := nearLevel_le h100
    have hlow : s.coin.tally.coins < nearLevel n := hbelow
    exact answered rfl (writeCapacity_plain h100 h3000 (fun hn => absurd hn.2 (Nat.not_le.2 hlow))
      (fun hfull => by have := hfull.2; change n ≤ s.coin.tally.coins at this; omega))
  · intro h100 h3000 hreached
    refine ⟨fun hfull hposted => ?_, fun hfull hposted => ?_, fun hfull hlen => ?_⟩
    · exact answered rfl (writeCapacity_plain h100 h3000 (fun hn => absurd (hposted.symm.trans hn.1) (by decide)) hfull)
    · change Host.Outcome.next (takeRequest .writeSetting .line (writeCapacity n) s) = _
      rw [takeRequest_frameTaken h hf rfl,
        writeCapacity_near (s := frameTaken .line s) h100 h3000 ⟨hposted, hreached⟩ hfull]
      exact congrArg _ (answerPort_eq_answeredWith (postNotice_fetch_none rfl) (postNotice_sent _ _ _ _))
    · obtain ⟨hreply, ⟨-, -, hcfg, hcoin, haccount, -, hcall, htariff, hsupply, harray⟩, hmarked⟩ :=
        writeCapacity_full (s := frameTaken .line s) h100 h3000 hfull hlen
      refine ⟨answerPort .line (replyOk []) (writeCapacity n (frameTaken .line s)).1, ?_, hcfg, hcoin, hmarked,
        answerPort_slot _ _ _ _, haccount, hcall, htariff, hsupply, harray⟩
      rw [← hreply]
      exact congrArg _ (takeRequest_frameTaken h hf rfl)

end Sys2Proof.Proofs
end

section
/-! PROOFS. The inhibit and the coin flights: accept pulses (O28) and the coin unit's expiries (O29). -/

namespace Sys2Proof.Proofs

open Sys2Proof Sys2Proof.Machine Sys2Proof.Laws

/-! ### The master inhibit (R16) -/

/-- The call takes coins. -/
theorem coinTaking_iff (s : State) : coinTaking s.call = true ↔
    (s.call.state = .collecting ∨ s.call.state = .waitCoins ∨ s.call.state = .waitLine ∨ s.call.state = .connecting
      ∨ s.call.state = .alerting ∨ s.call.state = .connected ∨ s.call.state = .warning
      ∨ (s.call.state = .afterCall ∧ callTimerRuns .followOn s = true)) := by
  unfold coinTaking callTimerRuns
  cases s.call.state
  case afterCall =>
    rcases s.call.timer with _ | ⟨timer, due⟩
    · simp
    · cases timer <;> simp
  all_goals simp

theorem masterInhibit_released_iff (s : State) : masterInhibit s = false ↔
    coinTaking s.call = true ∧ s.alarm.service = .inService ∧ s.supply.state = .normal
      ∧ s.account.d + s.account.k + s.cfg.coinValues.foldl max 0 ≤ 65535 := by
  simp [masterInhibit, roomForCoin, and_assoc]

/-! ### Accept pulses and lost flights (R3, R6) -/

theorem loseFlight_first {s : State} (h : s.coin.flightLoss = 0) :
    loseFlight s = { s with coin := { s.coin with flightLoss := 1 } } := if_pos h

theorem loseFlight_second {s : State} (h : s.coin.flightLoss ≠ 0) :
    loseFlight s = raise srcCoinJam .coinUnit { s with coin := { s.coin with flightLoss := 0 } } := if_neg h

/-- A lost flight changes the run of losses, and besides what a raising may change. -/
theorem loseFlight_same (s : State) : SameOutsideAlarm
    { s with coin := { s.coin with flightLoss := if s.coin.flightLoss = 0 then 1 else 0 } } (loseFlight s) := by
  by_cases h : s.coin.flightLoss = 0
  · rw [loseFlight_first h, if_pos h]
    exact same_refl _
  · rw [loseFlight_second h, if_neg h]
    exact raise_same _ _ _

theorem acceptPulse_ignored {k : Nat} {s : State} (h : masterInhibit s = true ∨ channelValue s.cfg k = 0) :
    acceptPulse k s = s := if_pos (by simpa [channelInhibit] using h)

theorem acceptPulse_taken {k : Nat} {s : State} (hm : masterInhibit s = false) (hk : channelValue s.cfg k ≠ 0) :
    acceptPulse k s = if s.coin.flight.isSome then loseFlight s else startFlight k s :=
  if_neg (by simp [channelInhibit, hm, hk])

/-- Settles O28: the pulse by inhibit and channel, then by the flight and the losses before it. -/
theorem acceptPulseStartsAFlight : Obligations.AcceptPulseStartsAFlight := by
  intro k s ha
  have runs : exec (.acceptPulse k) s = .next (acceptPulse k s) := congrArg _ (whenAwake_awake ha)
  refine ⟨?_, fun hi => ?_, fun hm hk => ⟨fun hf => ?_, fun hf hl => ?_, fun hf hl => ?_⟩⟩
  · rw [masterInhibit_released_iff, coinTaking_iff]
  · rw [runs, acceptPulse_ignored hi]
  · rw [runs, acceptPulse_taken hm hk, hf]
    rfl
  all_goals rw [runs, acceptPulse_taken hm hk, if_pos (Option.isSome_iff_ne_none.2 hf)]
  · rw [loseFlight_first hl]
  · rw [loseFlight_second hl]

/-! ### The expiries (R6, R20, R23, R36) -/

theorem flightWindowEnds_none {s : State} (h : s.coin.flight = none) : flightWindowEnds s = s := by
  simp [flightWindowEnds, h]

theorem flightWindowEnds_some {s : State} (h : s.coin.flight ≠ none) :
    flightWindowEnds s = leaveFlightStage (loseFlight { s with coin := { s.coin with flight := none } }) :=
  if_neg (by simpa using h)

/-- Settles O29: a lost flight, and where a settlement waited for it the stages after it. -/
theorem coinTimersEnd : Obligations.CoinTimersEnd := by
  intro s ha
  have runs : exec .flightWindowExpiry s = .next (flightWindowEnds s) := congrArg _ (whenAwake_awake ha)
  have hlost := loseFlight_same { s with coin := { s.coin with flight := none } }
  refine ⟨fun hf => ?_, fun hf hstage => ?_, fun r hr hf => ?_, fun ht => ?_, fun ht => ?_,
    congrArg _ (whenAwake_awake ha), congrArg _ (whenAwake_awake ha)⟩
  · rw [runs, flightWindowEnds_none hf]
  · have stays : leaveFlightStage (loseFlight { s with coin := { s.coin with flight := none } })
        = loseFlight { s with coin := { s.coin with flight := none } } := by
      refine leaveFlightStage_stays (.inl fun r hr => hstage r ?_)
      obtain ⟨-, -, -, -, haccount, -⟩ := hlost
      rwa [haccount] at hr
    rw [runs, flightWindowEnds_some hf, stays]
    exact ⟨fun hl => congrArg _ (loseFlight_first hl), fun hl => congrArg _ (loseFlight_second hl)⟩
  · intro coin lost
    have hl : loseFlight { s with coin := { s.coin with flight := none } } = lost := by
      by_cases hz : s.coin.flightLoss = 0
      · simp [lost, coin, hz, loseFlight_first]
      · simp [lost, coin, hz, loseFlight_second]
    rw [hl] at hlost
    obtain ⟨-, -, -, hcoin, haccount, -⟩ := hlost
    obtain ⟨hchecked, hframe⟩ := leaveFlightStage_checked (s := lost) (r := r) (by rw [haccount]; exact hr) (by rw [hcoin])
    rw [haccount, hcoin] at hchecked
    exact ⟨leaveFlightStage lost, by rw [runs, flightWindowEnds_some hf, hl], hchecked, hframe⟩
  all_goals
    change Host.Outcome.next (whenAwake _ s) = _
    rw [whenAwake_awake ha]
  · exact congrArg _ (if_pos (Option.isSome_iff_ne_none.2 ht))
  · simp [ht]

end Sys2Proof.Proofs
end

section
/-! PROOFS. The escrow gate: the return chute (O33), the gate's work and its test (O34), the ends of its windows (O35). -/

namespace Sys2Proof.Proofs

open Sys2Proof Sys2Proof.Machine Sys2Proof.Laws

/-! ### What the end of an operation may change -/

/-- From `s` to `t` the account, the coin unit, the call, the line, the tariff unit and the ports alone may change. -/
def OnlyAccountSide (s t : State) : Prop :=
  t = { s with account := t.account, coin := t.coin, call := t.call, line := t.line, tariff := t.tariff, ports := t.ports }

theorem OnlyAccountSide.of_callSide {s t : State} (h : OnlyCallSide s t) : OnlyAccountSide s t := by
  unfold OnlyAccountSide
  rw [h]

theorem OnlyAccountSide.trans {s t u : State} (h : OnlyAccountSide s t) (h' : OnlyAccountSide t u) : OnlyAccountSide s u := by
  unfold OnlyAccountSide at h h' ⊢
  rw [h', h]

theorem OnlyAccountSide.frame {s t : State} (h : OnlyAccountSide s t) : t.cfg = s.cfg ∧ t.supply = s.supply
    ∧ t.analyser = s.analyser ∧ t.alarm = s.alarm ∧ t.store = s.store := by
  refine ⟨?_, ?_, ?_, ?_, ?_⟩ <;> rw [h]

theorem reportCredit_accountSide (s : State) : OnlyAccountSide s (reportCredit s) := .of_callSide (reportCredit_callSide s)

theorem collected_checked (v : Nat) (s : State) : CollectionsChecked
      { s.account with e := s.account.e - v, b := s.account.b + v, n := s.account.n - 1 } s.coin (collected v s)
    ∧ OnlyAccountSide s (collected v s) :=
  collectEnded_checked (fun a => { a with e := a.e - v, b := a.b + v }) s

theorem collectedUnconfirmed_checked (v : Nat) (s : State) : CollectionsChecked
      { s.account with e := s.account.e - v, b := s.account.b + v, j := s.account.j + v, n := s.account.n - 1 }
      s.coin (collectedUnconfirmed v s)
    ∧ OnlyAccountSide s (collectedUnconfirmed v s) :=
  collectEnded_checked (fun a => { a with e := a.e - v, b := a.b + v, j := a.j + v }) s

/-- What is checked is the account and the coin unit alone. -/
theorem collectionsChecked_congr {a : Account} {c : CoinUnit} {t u : State} (h : CollectionsChecked a c t)
    (ha : u.account = t.account) (hc : u.coin = t.coin) : CollectionsChecked a c u := by
  unfold CollectionsChecked at h ⊢
  rwa [ha, hc]

/-! ### The return chute (R10, R13, R23, R197) -/

theorem confirmRefund_eq {s : State} {x : EscrowCoin} {rest : List EscrowCoin} (h : s.coin.escrow = x :: rest) :
    confirmRefund s = reportCredit { s with
      coin := { s.coin with escrow := rest, gateOp := none, refundRun := 0 }
      account := { s.account with e := s.account.e - x.value, r := s.account.r + x.value } } := by
  simp [confirmRefund, refunded, releaseGate, h]

theorem returnChute_gateOp {s : State} {g : GateOp} (h : s.coin.gateOp = some g) :
    returnChute s = if g.motion = .refund then confirmRefund s else s := by
  simp [returnChute, h]

theorem returnChute_gateTest {s : State} (h : s.coin.gateOp = none) (ht : s.coin.gateTest ≠ none) :
    returnChute s = endGateTest 0 s := by
  obtain ⟨due, hdue⟩ := Option.ne_none_iff_exists'.1 ht
  simp [returnChute, h, hdue]

/-- With no operation and no test the chute counts a flushed coin, the first of its cycle (R197; log 16). -/
theorem returnChute_flushed {s : State} {r : Recovery} (h : s.coin.gateOp = none) (ht : s.coin.gateTest = none)
    (hr : s.supply.recovery = some r) (hopen : r.flushUntil ≠ none) (hcounted : r.counted = false) :
    returnChute s = { s with
      supply := { s.supply with recovery := some { r with counted := true, flushed := r.flushed + 1 } } } := by
  simp [returnChute, h, ht, hr, Option.isSome_iff_ne_none.2 hopen, countFlushed, hcounted, setRecovery]

theorem returnChute_idle {s : State} (h : s.coin.gateOp = none) (ht : s.coin.gateTest = none)
    (hidle : ∀ r, s.supply.recovery = some r → r.flushUntil = none ∨ r.counted = true) : returnChute s = s := by
  cases hr : s.supply.recovery with
  | none => simp [returnChute, h, ht, hr]
  | some r => rcases hidle r hr with hi | hi <;> simp [returnChute, h, ht, hr, hi, countFlushed]

/-- Settles O33: by what waits at the chute, a gate operation before a gate test before a flush. -/
theorem returnChuteConfirms : Obligations.ReturnChuteConfirms := by
  intro s ha
  have runs : exec .returnChuteEvent s = .next (returnChute s) := congrArg _ (whenAwake_awake ha)
  refine ⟨fun g hg hm x rest hx hw hstopped => ?_, fun g hg hm => ?_, fun hg ht => ?_, fun hg ht =>
    ⟨fun r hr hopen hcounted => ?_, fun hidle => ?_⟩⟩
  · rw [runs, returnChute_gateOp hg, if_pos hm, confirmRefund_eq hx]
    exact congrArg _ (reportCredit_idle hw hstopped)
  · rw [runs, returnChute_gateOp hg, if_neg hm]
  · rw [runs, returnChute_gateTest hg ht]
    rfl
  · rw [runs, returnChute_flushed hg ht hr hopen hcounted]
  · rw [runs, returnChute_idle hg ht hidle]

/-! ### The gate's work (R8, R9, R30) -/

theorem takeGateWork_collect {s : State} (h : .collect ∈ s.coin.gateQueue) :
    takeGateWork s =
      let t := { s with coin := { s.coin with gateQueue := s.coin.gateQueue.erase .collect } }
      if s.coin.escrow = [] then noEscrowCoin t else driveGate .collect t :=
  if_pos (by simpa using h)

theorem takeGateWork_refundAll {s : State} (hc : .collect ∉ s.coin.gateQueue) (h : .refundAll ∈ s.coin.gateQueue) :
    takeGateWork s =
      if s.coin.escrow = [] then { s with coin := { s.coin with gateQueue := s.coin.gateQueue.erase .refundAll } }
      else driveGate .refund s :=
  (if_neg (by simpa using hc)).trans (if_pos (by simpa using h))

theorem takeGateWork_nothing {s : State} (h : s.coin.gateQueue = []) : takeGateWork s = s := by
  simp [takeGateWork, h]

theorem driveGate_eq {m : Motion} {s : State} {x : EscrowCoin} {rest : List EscrowCoin} (h : s.coin.escrow = x :: rest) :
    driveGate m s = { s with coin := { s.coin with
      escrow := { x with motion := m } :: rest
      gateOp := some { motion := m, second := false, since := s.now, ticket := s.coin.tickets }
      tickets := s.coin.tickets + 1 } } := by
  simp [driveGate, h]

/-- No coin is left to collect, and the check posts nothing. -/
theorem shortfall_noCoin {s : State} (h : s.coin.escrow = []) : shortfall s = s := by
  simp [shortfall, shortfallFor, h]

theorem enterRefund_stays {s : State} (h : (∀ r, s.account.phase ≠ .settling .collect r) ∨ s.account.n ≠ 0) :
    enterRefund s = s := by
  unfold enterRefund
  split
  · rename_i r hr
    rcases h with h | h
    · exact absurd hr (h r)
    · exact if_neg h
  · rfl

theorem enterRefund_enters {s : State} {r : Bool} (h : s.account.phase = .settling .collect r) (hn : s.account.n = 0) :
    enterRefund s = { s with
      account := { s.account with phase := .settling .refund r }
      coin := { s.coin with gateQueue :=
        if .refundAll ∈ s.coin.gateQueue then s.coin.gateQueue else s.coin.gateQueue ++ [.refundAll] } } := by
  by_cases hq : .refundAll ∈ s.coin.gateQueue <;> simp [enterRefund, h, hn, postRefundAll, hq]

/-- A COLLECT entry without a coin: n falls by one, and the settlement whose n is then 0 goes on (R30, R36). -/
theorem noEscrowCoin_idle {s : State} (h : s.coin.escrow = []) (hw : s.call.state ≠ .waitCoins)
    (hm : s.tariff.meter.state = .stopped) :
    noEscrowCoin s = enterRefund { s with account := { s.account with n := s.account.n - 1 } } := by
  have hs : shortfall { s with account := { s.account with n := s.account.n - 1 } }
      = { s with account := { s.account with n := s.account.n - 1 } } := shortfall_noCoin h
  obtain ⟨-, he⟩ := enterRefund_shortfall_checked { s with account := { s.account with n := s.account.n - 1 } }
  rw [hs] at he
  change reportCredit (enterRefund (shortfall { s with account := { s.account with n := s.account.n - 1 } })) = _
  rw [hs]
  exact reportCredit_idle (by rw [he]; exact hw) (by rw [he]; exact hm)

theorem gateTestBarred_iff (s : State) : gateTestBarred s = true ↔
    (s.call.state ≠ .idle ∨ s.coin.escrow ≠ [] ∨ s.coin.gateOp ≠ none ∨ s.coin.gateQueue ≠ [] ∨ s.supply.state = .warn) := by
  simp [gateTestBarred, or_assoc, Option.isSome_iff_ne_none]

/-- Settles O34: the work by the queue's entries and the list; the test by what bars it. -/
theorem gateTakesItsWorkAndItsTest : Obligations.GateTakesItsWorkAndItsTest := by
  refine ⟨fun s ha => ?_, fun s h hf => ⟨fun hbar => ?_, fun hidle hescrow hop hqueue hnormal => ⟨fun ht => ?_, fun ht => ?_⟩⟩⟩
  · have runs : exec .gateOperationStart s = .next (if gateMayStart s then takeGateWork s else s) :=
      congrArg _ (whenAwake_awake ha)
    refine ⟨fun hno => ?_, fun hfree hnormal => ?_⟩
    · rw [runs]
      rcases hno with h | h | h
      · simp [gateMayStart, h]
      · simp [gateMayStart, h]
      · simp [takeGateWork_nothing h]
    · rw [runs, if_pos (by simp [gateMayStart, hfree, hnormal])]
      refine ⟨fun x rest hx => ?_, fun hempty hc hr => ?_, fun hempty hc hw hm => ⟨fun hstays => ?_, fun r hr hn => ?_⟩⟩
      · have hne : s.coin.escrow ≠ [] := by simp [hx]
        refine ⟨fun hc => ?_, fun hc hr => ?_⟩
        · rw [takeGateWork_collect hc]
          simp only [if_neg hne]
          exact congrArg _ (driveGate_eq hx)
        · rw [takeGateWork_refundAll hc hr, if_neg hne]
          exact congrArg _ (driveGate_eq hx)
      · rw [takeGateWork_refundAll hc hr, if_pos hempty]
      all_goals
        rw [takeGateWork_collect hc]
        simp only [if_pos hempty]
        refine congrArg _ (.trans (noEscrowCoin_idle (by exact hempty) (by exact hw) (by exact hm)) ?_)
      · refine enterRefund_stays (hstays.imp (fun h r => h r) fun h => ?_)
        show s.account.n - 1 ≠ 0
        omega
      · have hzero : s.account.n - 1 = 0 := by omega
        refine .trans (enterRefund_enters (r := r) (by exact hr) (by exact hzero)) ?_
        simp only [hzero]
  · exact request_answered h hf rfl (if_pos ((gateTestBarred_iff _).2 hbar))
  all_goals
    have hfree : ¬ gateTestBarred (frameTaken .service s) = true := by
      simp [gateTestBarred_iff, frameTaken, hidle, hescrow, hop, hqueue, hnormal]
    refine request_answered h hf rfl ((if_neg hfree).trans ?_)
  · exact if_pos (Option.isSome_iff_ne_none.2 ht)
  · exact if_neg (by simp [frameTaken, ht])

/-! ### The ends of the windows (R11, R12, R30, R31) -/

theorem jamCollect_eq {s : State} {x : EscrowCoin} {rest : List EscrowCoin} (h : s.coin.escrow = x :: rest) :
    jamCollect s = raise srcCoinJam .coinUnit (collectedUnconfirmed x.value { s with coin := { s.coin with
      escrow := rest, gateOp := none, tally := { s.coin.tally with jam := min 65535 (s.coin.tally.jam + 1) } } }) := by
  simp [jamCollect, releaseGate, h, cap16]

theorem loseRefund_eq {s : State} {x : EscrowCoin} {rest : List EscrowCoin} (h : s.coin.escrow = x :: rest) :
    loseRefund s = countRefundRun (reportCredit { s with
      coin := { s.coin with escrow := rest, gateOp := none }
      account := { s.account with
        e := s.account.e - x.value, r := s.account.r + x.value
        unconfirmed := min 255 (s.account.unconfirmed + 1) } }) := by
  simp [loseRefund, refundedUnconfirmed, releaseGate, h]

/-- The run of unconfirmed refunds, with what its second raises (R12). -/
theorem countRefundRun_same (s : State) : SameOutsideAlarm
    { s with coin := { s.coin with refundRun := if s.coin.refundRun = 0 then 1 else 0 } } (countRefundRun s) := by
  unfold countRefundRun
  split
  · exact same_refl _
  · exact raise_same _ _ _

theorem gateWindowEnds_collect {g : GateOp} {s : State} (h : g.second = true) (hm : g.motion = .collect) :
    gateWindowEnds g s = jamCollect s := by
  simp [gateWindowEnds, h, hm]

theorem gateWindowEnds_refund {g : GateOp} {s : State} (h : g.second = true) (hm : g.motion = .refund) :
    gateWindowEnds g s = loseRefund s := by
  simp [gateWindowEnds, h, hm]

/-- Settles O35: a first window drives again; a second ends the operation unconfirmed, by its direction. -/
theorem gateWindowsRunOut : Obligations.GateWindowsRunOut := by
  intro s ha hlen
  have runs (g : GateOp) (hg : s.coin.gateOp = some g) : exec .gateWindowExpiry s = .next (gateWindowEnds g s) := by
    change Host.Outcome.next (whenAwake _ s) = _
    rw [whenAwake_awake ha, hg]
  refine ⟨fun hg => ?_, fun g hg hfirst => ?_, fun g hg hsecond x rest hx => ⟨fun hm => ?_, fun hm => ?_⟩⟩
  · change Host.Outcome.next (whenAwake _ s) = _
    rw [whenAwake_awake ha, hg]
  · rw [runs g hg]
    simp [gateWindowEnds, hfirst]
  · rw [runs g hg, gateWindowEnds_collect hsecond hm, jamCollect_eq hx]
    generalize hu : ({ s with coin := { s.coin with
      escrow := rest, gateOp := none, tally := { s.coin.tally with jam := min 65535 (s.coin.tally.jam + 1) } } } : State) = u
    obtain ⟨hchecked, hside⟩ := collectedUnconfirmed_checked x.value u
    obtain ⟨hucfg, husupply, huanalyser, hualarm, hustore⟩ := hside.frame
    obtain ⟨-, -, hcfg, hcoin, haccount, hanalyser, -, -, hsupply, harray⟩ :=
      raise_same srcCoinJam .coinUnit (collectedUnconfirmed x.value u)
    have hmarks := raise_marks (i := srcCoinJam) .coinUnit (s := collectedUnconfirmed x.value u)
      (by rw [hualarm, ← hu]; exact hlen) (by decide)
    subst hu
    exact ⟨_, rfl, collectionsChecked_congr hchecked haccount hcoin, hmarks, hcfg.trans hucfg, hsupply.trans husupply,
      hanalyser.trans huanalyser, harray.trans (congrArg Store.array hustore)⟩
  · rw [runs g hg, gateWindowEnds_refund hsecond hm, loseRefund_eq hx]
    generalize hu : ({ s with
      coin := { s.coin with escrow := rest, gateOp := none }
      account := { s.account with
        e := s.account.e - x.value, r := s.account.r + x.value
        unconfirmed := min 255 (s.account.unconfirmed + 1) } } : State) = u
    have hra := callSide_account (reportCredit_callSide u)
    have hrc := callSide_coin (reportCredit_callSide u)
    obtain ⟨hrcfg, hrsupply, hranalyser, hralarm, hrstore⟩ := (reportCredit_accountSide u).frame
    obtain ⟨-, -, hcfg, hcoin, haccount, hanalyser, -, -, hsupply, harray⟩ := countRefundRun_same (reportCredit u)
    have hrun : (reportCredit u).coin.refundRun = s.coin.refundRun := by rw [hrc, ← hu]
    rw [hrun, hrc] at hcoin
    refine ⟨_, rfl, hcoin.trans (by rw [← hu]), haccount.trans (hra.trans (by rw [← hu])), fun hz => ?_, fun hz => ?_,
      hcfg.trans (hrcfg.trans (by rw [← hu])), hsupply.trans (hrsupply.trans (by rw [← hu])),
      hanalyser.trans (hranalyser.trans (by rw [← hu])), harray.trans ?_⟩
    · rw [countRefundRun, if_neg (hrun ▸ hz)]
      exact raise_marks _ (by rw [hralarm, ← hu]; exact hlen) (by decide)
    · rw [countRefundRun, if_pos (hrun ▸ hz)]
      exact ⟨hralarm.trans (by rw [← hu]), hrstore.trans (by rw [← hu])⟩
    · rw [hrstore, ← hu]

end Sys2Proof.Proofs
end

section
/-! PROOFS. Stray passes and rejects (O31). -/

namespace Sys2Proof.Proofs

open Sys2Proof Sys2Proof.Machine Sys2Proof.Laws

/-! ### Stray passes (R18, R29) -/

theorem escrowEntry_stray {s : State} (h : ∀ f, s.coin.flight = some f → f.kind = .overflow) : escrowEntry s = strayPass s := by
  unfold escrowEntry
  split
  · rename_i f hf
    exact if_neg (by rw [h f hf]; decide)
  · rfl

/-- A coin is pulled back exactly where it is the last credited one, the newest of the list, not in motion, and credited no
more than 1.5 s ago. -/
theorem pulledBack_eq_some_iff {s : State} {x : EscrowCoin} : pulledBack s = some x ↔
    ∃ l, s.coin.lastCredited = some l ∧ s.coin.escrow.getLast? = some x ∧ s.now ≤ l.instant + 15 ∧ x.id = l.id
      ∧ x.motion = .no := by
  unfold pulledBack
  split
  · rename_i l y hl hy
    simp only [hl, hy, Option.some.injEq, exists_eq_left']
    split
    · rename_i hc
      constructor
      · rintro ⟨rfl⟩
        exact ⟨rfl, hc⟩
      · rintro ⟨rfl, -⟩
        rfl
    · rename_i hc
      constructor
      · simp
      · rintro ⟨rfl, h⟩
        exact absurd h hc
  · rename_i hno
    constructor
    · simp
    · rintro ⟨l, hl, hx, -⟩
      exact (hno l x hl hx).elim

theorem strayPass_nothing {s : State} (h : pulledBack s = none) :
    strayPass s = raise srcStringFraud .coinUnit { s with coin := { s.coin with lastCredited := none } } := by
  simp [strayPass, h]

theorem strayPass_pulledBack {s : State} {x : EscrowCoin} (h : pulledBack s = some x) :
    strayPass s = raise srcStringFraud .coinUnit
      (withdrawCoin x { s with coin := { s.coin with lastCredited := none } }) := by
  simp [strayPass, h]

/-- A withdrawal takes the newest coin from the list and its value from the account. -/
theorem withdrawCoin_frame (x : EscrowCoin) (s : State) :
    (withdrawCoin x s).coin = { s.coin with escrow := s.coin.escrow.dropLast }
      ∧ (withdrawCoin x s).account = withdraw x.value s.account ∧ OnlyAccountSide s (withdrawCoin x s) := by
  have h : OnlyCallSide { s with
      coin := { s.coin with escrow := s.coin.escrow.dropLast }, account := withdraw x.value s.account } (withdrawCoin x s) :=
    callSide_trans (postNotice_callSide _ _ _) (reportCredit_callSide _)
  exact ⟨callSide_coin h, callSide_account h, .trans (t := { s with
      coin := { s.coin with escrow := s.coin.escrow.dropLast }, account := withdraw x.value s.account }) rfl (.of_callSide h)⟩

/-! ### Rejects (R17) -/

/-- The reject history with the place for one more time. -/
def keptRejects (c : CoinUnit) : List Nat := if 8 ≤ c.rejects.length then c.rejects.tail else c.rejects

theorem recordReject_eq (s : State) : recordReject s =
    if (keptRejects s.coin).length = 7 ∧ s.now ≤ (keptRejects s.coin).headD s.now + 600 then
      raise srcSlugStorm .coinUnit { s with coin := { s.coin with rejects := [] } }
    else { s with coin := { s.coin with rejects := keptRejects s.coin ++ [s.now] } } := by
  have hhead : (keptRejects s.coin ++ [s.now]).headD 0 = (keptRejects s.coin).headD s.now := by
    cases keptRejects s.coin <;> rfl
  have hcond : ((keptRejects s.coin ++ [s.now]).length = 8 ∧ s.now ≤ (keptRejects s.coin ++ [s.now]).headD 0 + 600)
      ↔ ((keptRejects s.coin).length = 7 ∧ s.now ≤ (keptRejects s.coin).headD s.now + 600) := by
    rw [hhead]
    simp
  exact if_congr hcond rfl rfl

/-- Settles O31: a stray pass by the coin it may pull back; a reject by the history it completes or not. -/
theorem strayPassesAndRejectsRaise : Obligations.StrayPassesAndRejectsRaise := by
  refine ⟨fun s ha hkind hlen => ?_, fun s ha => ?_⟩
  · have runs : exec .escrowEntryEvent s = .next (strayPass s) :=
      congrArg _ ((whenAwake_awake ha).trans (escrowEntry_stray hkind))
    have hnone (h : ∀ x, pulledBack s ≠ some x) : pulledBack s = none := Option.eq_none_iff_forall_ne_some.2 h
    refine ⟨fun hl => ?_, fun l hl hno => ?_, fun l hl x hx hnow hid hm => ?_⟩
    · rw [runs, strayPass_nothing (hnone fun x hx => ?_), ← hl]
      obtain ⟨l, hl', -⟩ := pulledBack_eq_some_iff.1 hx
      simp [hl] at hl'
    · rw [runs, strayPass_nothing (hnone fun x hx => ?_)]
      obtain ⟨l', hl', hlast, hnow, hid, hm⟩ := pulledBack_eq_some_iff.1 hx
      obtain rfl : l = l' := Option.some.inj (hl.symm.trans hl')
      rcases hno with h | h | h
      · omega
      · simp [h] at hlast
      · rcases h x hlast with h | h
        · exact h hid
        · exact h hm
    · rw [runs, strayPass_pulledBack (pulledBack_eq_some_iff.2 ⟨l, hl, hx, hnow, hid, hm⟩)]
      obtain ⟨hwcoin, hwaccount, hside⟩ := withdrawCoin_frame x { s with coin := { s.coin with lastCredited := none } }
      obtain ⟨hwcfg, hwsupply, hwanalyser, hwalarm, hwstore⟩ := hside.frame
      obtain ⟨-, -, hcfg, hcoin, haccount, hanalyser, -, -, hsupply, harray⟩ := raise_same srcStringFraud .coinUnit
        (withdrawCoin x { s with coin := { s.coin with lastCredited := none } })
      exact ⟨_, rfl, hcoin.trans hwcoin, haccount.trans hwaccount, raise_marks _ (by rw [hwalarm]; exact hlen) (by decide),
        hcfg.trans hwcfg, hsupply.trans hwsupply, hanalyser.trans hwanalyser, harray.trans (congrArg Store.array hwstore)⟩
  · intro kept
    have runs : exec .rejectPulse s = .next (recordReject s) := congrArg _ (whenAwake_awake ha)
    refine ⟨fun hno => ?_, fun hl hnow => ?_⟩
    · rw [runs, recordReject_eq, if_neg]
      · rfl
      · rintro ⟨hl, hnow⟩
        change kept.length = 7 at hl
        change s.now ≤ kept.headD s.now + 600 at hnow
        omega
    · rw [runs, recordReject_eq, if_pos ⟨hl, hnow⟩]

end Sys2Proof.Proofs
end

section
/-! PROOFS. Credits: what a report of the credit does to the call and to the notices, and the escrow sensor (O30). -/

namespace Sys2Proof.Proofs

open Sys2Proof Sys2Proof.Machine Sys2Proof.Laws

/-! ### Notices are queued behind those that stand -/

/-- From `s` to `t` the notice queue of each port has grown at its end alone. -/
def NoticesGrow (s t : State) : Prop := ∀ p, (portOf s.ports p).queue <+: (portOf t.ports p).queue

theorem NoticesGrow.of_eq {s t : State} (h : t.ports = s.ports) : NoticesGrow s t := fun p => by rw [h]

theorem NoticesGrow.trans {s t u : State} (h : NoticesGrow s t) (h' : NoticesGrow t u) : NoticesGrow s u :=
  fun p => (h p).trans (h' p)

theorem offer_queue_grows (ns : List Notice) (bit : ClassBits) (v : PortState) : v.queue <+: (offer ns bit v).queue := by
  unfold offer
  repeat' split
  · exact List.prefix_refl _
  · exact List.prefix_append _ _
  · exact List.prefix_refl _

theorem postNotice_grows (k : NoticeKind) (fs : List Byte) (s : State) : NoticesGrow s (postNotice k fs s) := by
  intro p
  unfold postNotice offerAll
  simp only
  split <;> cases p <;> first | exact List.prefix_refl _ | exact offer_queue_grows _ _ _

theorem setCallState_grows (x : CallState) (s : State) : NoticesGrow s (setCallState x s) := by
  unfold setCallState
  simp only
  split
  · exact .of_eq rfl
  · exact .trans (t := { s with call := { s.call with state := x } }) (.of_eq rfl) (postNotice_grows _ _ _)

theorem setOwner_grows (o : Owner) (s : State) : NoticesGrow s (setOwner o s) := by
  unfold setOwner
  split
  · exact .of_eq rfl
  · exact .trans (t := { s with line := { s.line with owner := o } }) (.of_eq rfl) (postNotice_grows _ _ _)

theorem grantCustomer_grows (s : State) : NoticesGrow s (grantCustomer s) := by
  have h : NoticesGrow s (stopCallTimer (setOwner .customer s)) := (setOwner_grows _ s).trans (.of_eq rfl)
  unfold grantCustomer
  simp only
  split
  · exact h
  · exact h.trans (.trans (.of_eq (postOrder_ports _ _ _)) (setCallState_grows _ _))

theorem makeCustomerClaim_grows (e : Bool) (s : State) : NoticesGrow s (makeCustomerClaim e s) := by
  have hp : NoticesGrow s (startPreemption e s) := .of_eq (postOrder_ports _ _ _)
  unfold makeCustomerClaim
  repeat' split
  all_goals first
    | exact grantCustomer_grows s
    | exact hp
    | exact .of_eq rfl

theorem enterWaitLine_grows (s : State) : NoticesGrow s (enterWaitLine s) :=
  (setCallState_grows .waitLine s).trans
    (.trans (t := startCallTimer .lineWait Config.lineWait (setCallState .waitLine s)) (.of_eq rfl)
      (makeCustomerClaim_grows _ _))

theorem sendWarning_grows (amount : Nat) (s : State) : NoticesGrow s (sendWarning amount s) := by
  unfold sendWarning
  simp only
  refine .trans (t := setWarned true s) (.of_eq rfl) (.trans ?_ (postNotice_grows _ _ _))
  split
  · exact setCallState_grows _ _
  · exact .of_eq rfl

theorem sendOk_grows (s : State) : NoticesGrow s (sendOk s) := by
  unfold sendOk
  simp only
  refine .trans (t := setWarned false s) (.of_eq rfl) (.trans ?_ (postNotice_grows _ _ _))
  split
  · exact setCallState_grows _ _
  · exact .of_eq rfl

theorem reportToTariff_grows (s : State) : NoticesGrow s (reportToTariff s) := by
  unfold reportToTariff judge
  repeat' split
  all_goals first
    | exact sendWarning_grows _ s
    | exact sendOk_grows s
    | exact .of_eq rfl

/-! ### The report of the credit to the call (R32, R66) -/

theorem reportToCall_otherState {s : State} (h : s.call.state ≠ .waitCoins) : reportToCall s = s := by
  unfold reportToCall
  split
  · rename_i hw _
    exact absurd hw h
  · rfl

theorem reportToCall_waitCoins {s : State} {a : Acceptance} (h : s.call.state = .waitCoins)
    (ha : s.call.acceptance = some a) :
    reportToCall s = if a.deposit ≤ available s.account then enterWaitLine (stopCallTimer s) else s := by
  simp only [reportToCall, h, ha]

theorem reportToCall_grows (s : State) : NoticesGrow s (reportToCall s) := by
  unfold reportToCall
  split
  · split
    · exact .trans (t := stopCallTimer s) (.of_eq rfl) (enterWaitLine_grows _)
    · exact .of_eq rfl
  · exact .of_eq rfl

theorem reportCredit_grows (s : State) : NoticesGrow s (reportCredit s) :=
  (reportToCall_grows s).trans (reportToTariff_grows _)

theorem setCallState_call (x : CallState) (s : State) : (setCallState x s).call = { s.call with state := x } := by
  unfold setCallState
  simp only
  split <;> simp

/-- The claim of a call that waits for the line leaves it there, or is granted at once (R67). -/
theorem makeCustomerClaim_state {e : Bool} {s : State} (h : s.call.state = .waitLine) :
    (makeCustomerClaim e s).call.state = .waitLine ∨ (makeCustomerClaim e s).call.state = .connecting := by
  have hp : (startPreemption e s).call.state = .waitLine := by simp [startPreemption, h]
  have hg : (grantCustomer s).call.state = .waitLine ∨ (grantCustomer s).call.state = .connecting := by
    unfold grantCustomer
    simp only
    split
    · exact .inl (by simp [h])
    · exact .inr (by rw [setCallState_call])
  unfold makeCustomerClaim
  repeat' split
  all_goals first
    | exact hg
    | exact .inl hp
    | exact .inl h

theorem enterWaitLine_state (s : State) :
    (enterWaitLine s).call.state = .waitLine ∨ (enterWaitLine s).call.state = .connecting :=
  makeCustomerClaim_state (by simp [startCallTimer, setCallState_call])

/-- The tariff unit's answer to a report reaches a call that is answered alone (R72). -/
theorem reportToTariff_call {s : State} (hc : s.call.state ≠ .connected) (hw : s.call.state ≠ .warning) :
    (reportToTariff s).call = s.call ∧ (reportToTariff s).line = s.line := by
  unfold reportToTariff judge
  repeat' split
  all_goals first
    | exact ⟨rfl, rfl⟩
    | simp [sendWarning, hc]
    | simp [sendOk, hw]

/-! ### A credit and the FLIGHT stage (R28, R36) -/

theorem leaveFlightStage_accountSide (s : State) : OnlyAccountSide s (leaveFlightStage s)
    ∧ leaveFlightStage s = { s with account := (leaveFlightStage s).account, coin := (leaveFlightStage s).coin } := by
  by_cases h : (∀ r, s.account.phase ≠ .settling .flight r) ∨ s.coin.flight ≠ none
  · rw [leaveFlightStage_stays h]
    exact ⟨rfl, rfl⟩
  · push Not at h
    obtain ⟨⟨r, hr⟩, hf⟩ := h
    obtain ⟨-, he⟩ := leaveFlightStage_checked hr hf
    exact ⟨by unfold OnlyAccountSide; rw [he], he⟩

/-- What a credit leaves of the account and the coin unit of `u`, in which the coin stands and no flight is in progress. -/
theorem credit_settles {u : State} (hf : u.coin.flight = none) :
    ((∀ r, u.account.phase ≠ .settling .flight r) →
      (leaveFlightStage (reportCredit u)).coin = u.coin ∧ (leaveFlightStage (reportCredit u)).account = u.account)
    ∧ (∀ r, u.account.phase = .settling .flight r →
      CollectionsChecked { u.account with phase := .settling .collect r } u.coin (leaveFlightStage (reportCredit u))) := by
  have ha := callSide_account (reportCredit_callSide u)
  have hc := callSide_coin (reportCredit_callSide u)
  refine ⟨fun h => ?_, fun r hr => ?_⟩
  · rw [leaveFlightStage_stays (.inl (by rwa [ha]))]
    exact ⟨hc, ha⟩
  · obtain ⟨hchecked, -⟩ := leaveFlightStage_checked (s := reportCredit u) (r := r) (by rw [ha, hr]) (by rw [hc, hf])
    rwa [ha, hc] at hchecked

theorem openForCredit_eq (a : Account) : openForCredit a = if a.phase = .idle then { phase := .opened false } else a := by
  unfold openForCredit
  split <;> rename_i h <;> simp [h]

/-- The credit of an IDLE account opens it; the stage of one that settles stays. -/
theorem openForCredit_settling_iff (a : Account) (stage : SettleStage) (r : Bool) :
    (openForCredit a).phase = .settling stage r ↔ a.phase = .settling stage r := by
  unfold openForCredit
  split <;> rename_i h <;> simp [h]

/-- Settles O30: the credit stands in `noticed` with its notice; the report of it and the settlement come after. -/
theorem escrowEntryCreditsTheCoin : Obligations.EscrowEntryCreditsTheCoin := by
  intro f s ha hf hkind credited coin account noticed
  have hcredited : creditEscrow f.value s.account = account := by simp only [creditEscrow, openForCredit_eq]; rfl
  have hstage (r : Bool) : account.phase = .settling .flight r ↔ s.account.phase = .settling .flight r := by
    rw [← hcredited]
    exact openForCredit_settling_iff s.account .flight r
  have hcoin : noticed.coin = coin := by simp [noticed]
  have haccount : noticed.account = account := by simp [noticed]
  have hcall : noticed.call = s.call := by simp [noticed]
  have hline : noticed.line = s.line := by simp [noticed]
  have hside : OnlyAccountSide s noticed :=
    .trans (t := { s with coin := coin, account := account }) rfl (.of_callSide (postNotice_callSide _ _ _))
  have runs : exec .escrowEntryEvent s = .next (leaveFlightStage (reportCredit noticed)) := by
    refine congrArg _ ((whenAwake_awake ha).trans ?_)
    simp only [escrowEntry, hf, hkind, if_true, confirmEscrow, hcredited]
    rfl
  obtain ⟨hstays, hchecked⟩ := credit_settles (u := noticed) (by rw [hcoin])
  obtain ⟨hleaves, hleft⟩ := leaveFlightStage_accountSide (reportCredit noticed)
  have htcall : (leaveFlightStage (reportCredit noticed)).call = (reportCredit noticed).call := by rw [hleft]
  have htline : (leaveFlightStage (reportCredit noticed)).line = (reportCredit noticed).line := by rw [hleft]
  have htports : (leaveFlightStage (reportCredit noticed)).ports = (reportCredit noticed).ports := by rw [hleft]
  rw [hcoin, haccount] at hstays hchecked
  refine ⟨_, runs, fun h => hstays fun r hr => h r ((hstage r).1 hr), fun r hr => hchecked r ((hstage r).2 hr),
    fun hw hm => ?_, fun p => ?_, fun hw hc hwarning => ?_, fun a haccepted hw => ⟨fun hle => ?_, fun hlt => ?_⟩, ?_⟩
  · rw [reportCredit_idle (by rwa [hcall]) (by simpa [noticed] using hm)] at hleft ⊢
    exact hleft
  · rw [htports]
    exact reportCredit_grows noticed p
  · rw [htcall, htline, reportCredit, reportToCall_otherState (by rwa [hcall])]
    obtain ⟨h1, h2⟩ := reportToTariff_call (s := noticed) (by rwa [hcall]) (by rwa [hcall])
    exact ⟨h1.trans hcall, h2.trans hline⟩
  · rw [htcall, reportCredit, reportToCall_waitCoins (by rwa [hcall]) (by rwa [hcall]), haccount, if_pos hle]
    have hstate := enterWaitLine_state (stopCallTimer noticed)
    obtain ⟨h1, -⟩ := reportToTariff_call (s := enterWaitLine (stopCallTimer noticed))
      (by rcases hstate with h | h <;> simp [h]) (by rcases hstate with h | h <;> simp [h])
    rwa [h1]
  · rw [htcall, htline, reportCredit, reportToCall_waitCoins (by rwa [hcall]) (by rwa [hcall]), haccount,
      if_neg (Nat.not_le.2 hlt)]
    obtain ⟨h1, h2⟩ := reportToTariff_call (s := noticed) (by simp [hcall, hw]) (by simp [hcall, hw])
    exact ⟨h1.trans hcall, h2.trans hline⟩
  · exact hside.trans ((reportCredit_accountSide noticed).trans hleaves)

end Sys2Proof.Proofs
end

section
/-! PROOFS. The cash box: counting a coin, and the box-entry sensor (O32). -/

namespace Sys2Proof.Proofs

open Sys2Proof Sys2Proof.Machine Sys2Proof.Laws

/-! ### A coin counted into the tally (R14, R15) -/

/-- The state with the coin counted, before the levels are looked at. -/
abbrev counted (channel value : Nat) (s : State) : State :=
  { s with coin := { s.coin with tally := countCoin channel value s.coin.tally } }

/-- The coin unit once the coin is counted and the near level looked at. -/
abbrev banked (channel value : Nat) (s : State) : CoinUnit :=
  { s.coin with
    tally := countCoin channel value s.coin.tally
    nearPosted := s.coin.nearPosted || decide (nearDue (counted channel value s)) }

/-- The coin brings the tally from below the capacity to it. -/
abbrev fills (channel value : Nat) (s : State) : Prop :=
  s.coin.tally.coins < s.cfg.capacity ∧ s.cfg.capacity ≤ (countCoin channel value s.coin.tally).coins

theorem bankCoin_same (channel value : Nat) (s : State) :
    SameOutsideAlarm { s with coin := banked channel value s } (bankCoin channel value s) :=
  checkLevels_same (decide (s.coin.tally.coins < s.cfg.capacity)) (counted channel value s)

theorem bankCoin_marks {channel value : Nat} {s : State} (h : fills channel value s) (hlen : s.alarm.entries.length = 16) :
    (alarmEntry (bankCoin channel value s).alarm srcBoxFull).state ≠ .quiet :=
  checkLevels_marks (s := counted channel value s) (by simpa using h) hlen

/-- Where the coin does not fill the box it changes the coin unit and the notices alone. -/
theorem bankCoin_not_full {channel value : Nat} {s : State} (h : ¬ fills channel value s) :
    bankCoin channel value s = { s with
      coin := banked channel value s
      ports := if nearDue (counted channel value s) then
          (postNotice .boxNear (byte2 (countCoin channel value s.coin.tally).coins
            ++ byte4 (countCoin channel value s.coin.tally).value) s).ports
        else s.ports } := by
  have e : bankCoin channel value s = checkNear (counted channel value s) :=
    checkLevels_not_full (s := counted channel value s) (by simpa using h)
  rw [e, checkNear_eq, postNotice_ports_congr _ _ (s := counted channel value s) (t := s) rfl rfl]

theorem countCoin_counts {channel value : Nat} {t : Tally} (h : channel - 1 < t.counts.length) (k : Nat) :
    (countCoin channel value t).counts.getD k 0
      = if k = channel - 1 then min 65535 (t.counts.getD k 0 + 1) else t.counts.getD k 0 := by
  simp only [countCoin, List.getD_eq_getElem?_getD, List.getElem?_set]
  split
  · rename_i hk
    subst hk
    simp [h, cap16]
  · rename_i hk
    rw [if_neg (Ne.symm hk)]

/-! ### What a check of the collections leaves of the account and the coin unit -/

theorem collectionsChecked_coin {a : Account} {c : CoinUnit} {t : State} (h : CollectionsChecked a c t) :
    t.coin = { c with gateQueue := t.coin.gateQueue } := by
  obtain ⟨k, -, henters, hstays⟩ := h
  by_cases hr : (∀ r, a.phase ≠ .settling .collect r) ∨ a.n + k ≠ 0
  · obtain ⟨-, hc⟩ := hstays hr
    rw [hc]
  · push Not at hr
    obtain ⟨⟨r, hphase⟩, hn⟩ := hr
    obtain ⟨-, hc⟩ := henters r hphase hn
    rw [hc]

theorem collectionsChecked_available {a : Account} {c : CoinUnit} {t : State} (h : CollectionsChecked a c t) :
    available t.account = available a := by
  obtain ⟨k, -, henters, hstays⟩ := h
  by_cases hr : (∀ r, a.phase ≠ .settling .collect r) ∨ a.n + k ≠ 0
  · obtain ⟨ha, -⟩ := hstays hr
    rw [ha]
    rfl
  · push Not at hr
    obtain ⟨⟨r, hphase⟩, hn⟩ := hr
    obtain ⟨ha, -⟩ := henters r hphase hn
    rw [ha]
    rfl

/-- A collection that ends while the call takes no notice of it. -/
theorem collected_idle {v : Nat} {s : State} (hw : s.call.state ≠ .waitCoins) (hm : s.tariff.meter.state = .stopped) :
    collected v s = { s with account := (collected v s).account, coin := (collected v s).coin } := by
  generalize hu : ({ s with account := { s.account with
    e := s.account.e - v, b := s.account.b + v, n := s.account.n - 1 } } : State) = u
  have e : collected v s = reportCredit (enterRefund (shortfall u)) := by rw [← hu]; rfl
  obtain ⟨-, hframe⟩ := enterRefund_shortfall_checked u
  have hidle : reportCredit (enterRefund (shortfall u)) = enterRefund (shortfall u) :=
    reportCredit_idle (by rw [hframe, ← hu]; exact hw) (by rw [hframe, ← hu]; exact hm)
  rw [e, hidle, hframe, ← hu]

/-! ### The box-entry sensor (R13) -/

theorem collectWait_eq {c : CoinUnit} {g : GateOp} (hg : c.gateOp = some g) (hm : g.motion = .collect) :
    collectWait c = some g.ticket := by simp [collectWait, hg, hm]

theorem collectWait_none {c : CoinUnit} (h : ∀ g, c.gateOp = some g → g.motion ≠ .collect) : collectWait c = none := by
  unfold collectWait
  split
  · rename_i g hg
    exact if_neg (h g hg)
  · rfl

theorem overflowFlight_eq {c : CoinUnit} {f : Flight} (hf : c.flight = some f) (hk : f.kind = .overflow) :
    overflowFlight c = some f := by simp [overflowFlight, hf, hk]

theorem overflowFlight_none {c : CoinUnit} (h : ∀ f, c.flight = some f → f.kind = .escrow) : overflowFlight c = none := by
  unfold overflowFlight
  split
  · rename_i f hf
    exact if_neg (by rw [h f hf]; decide)
  · rfl

/-- The collection began to wait first. -/
theorem boxEntry_collect {s : State} {g : GateOp} (hg : s.coin.gateOp = some g) (hm : g.motion = .collect)
    (hf : ∀ f, s.coin.flight = some f → f.kind = .escrow ∨ g.ticket < f.ticket) : boxEntry s = confirmCollect s := by
  unfold boxEntry
  rw [collectWait_eq hg hm]
  cases ho : overflowFlight s.coin with
  | none => rfl
  | some f =>
    have hflight : s.coin.flight = some f ∧ f.kind = .overflow := by
      unfold overflowFlight at ho
      split at ho
      · split at ho <;> simp_all
      · simp at ho
    obtain ⟨hsome, hkind⟩ := hflight
    refine if_pos ((hf f hsome).resolve_left ?_)
    rw [hkind]
    decide

/-- The OVERFLOW flight began to wait first. -/
theorem boxEntry_overflow {s : State} {f : Flight} (hf : s.coin.flight = some f) (hk : f.kind = .overflow)
    (hg : ∀ g, s.coin.gateOp = some g → g.motion = .collect → f.ticket ≤ g.ticket) : boxEntry s = confirmOverflow f s := by
  unfold boxEntry
  rw [overflowFlight_eq hf hk]
  by_cases hwait : ∃ g, s.coin.gateOp = some g ∧ g.motion = .collect
  · obtain ⟨g, hsome, hm⟩ := hwait
    rw [collectWait_eq hsome hm]
    exact if_neg (Nat.not_lt.2 (hg g hsome hm))
  · rw [collectWait_none fun g hsome hm => hwait ⟨g, hsome, hm⟩]

theorem confirmCollect_eq {s : State} {x : EscrowCoin} {rest : List EscrowCoin} (h : s.coin.escrow = x :: rest) :
    confirmCollect s = collected x.value
      (bankCoin x.channel x.value { s with coin := { s.coin with gateOp := none, escrow := rest } }) := by
  simp [confirmCollect, releaseGate, h]

/-- A confirmed collection, stated of the state in which the coin has left the list. -/
theorem collected_bankCoin (channel value : Nat) (u : State) :
    let near := nearDue (counted channel value u)
    let t := collected value (bankCoin channel value u)
    t.coin.nearPosted = (u.coin.nearPosted || decide near)
    ∧ (fills channel value u → u.alarm.entries.length = 16 → (alarmEntry t.alarm srcBoxFull).state ≠ .quiet)
    ∧ (¬ fills channel value u → u.call.state ≠ .waitCoins → u.tariff.meter.state = .stopped → t = { u with
        coin := t.coin, account := t.account
        ports := if near then
            (postNotice .boxNear (byte2 (countCoin channel value u.coin.tally).coins
              ++ byte4 (countCoin channel value u.coin.tally).value) u).ports
          else u.ports })
    ∧ CollectionsChecked
        { u.account with e := u.account.e - value, b := u.account.b + value, n := u.account.n - 1 }
        (banked channel value u) t
    ∧ t.cfg = u.cfg ∧ t.supply = u.supply ∧ t.analyser = u.analyser ∧ t.store.array = u.store.array := by
  intro near t
  obtain ⟨-, -, hcfg, hcoin, haccount, hanalyser, -, -, hsupply, harray⟩ := bankCoin_same channel value u
  obtain ⟨hchecked, hside⟩ := collected_checked value (bankCoin channel value u)
  obtain ⟨htcfg, htsupply, htanalyser, htalarm, htstore⟩ := hside.frame
  rw [hcoin, haccount] at hchecked
  refine ⟨?_, fun hfull hlen => ?_, fun hfull hw hm => ?_, hchecked, htcfg.trans hcfg, htsupply.trans hsupply,
    htanalyser.trans hanalyser, (congrArg Store.array htstore).trans harray⟩
  · exact congrArg CoinUnit.nearPosted (collectionsChecked_coin hchecked)
  · rw [show t.alarm = _ from htalarm]
    exact bankCoin_marks hfull hlen
  · have hb := bankCoin_not_full hfull
    have ht := collected_idle (v := value) (s := bankCoin channel value u) (by rw [hb]; exact hw) (by rw [hb]; exact hm)
    simp only [t]
    rw [hb] at ht ⊢
    exact ht

/-- The state once an OVERFLOW flight is confirmed, `u` being the state in which it is over and its coin credited. -/
abbrev overflowCredited (f : Flight) (u : State) : State :=
  leaveFlightStage (reportCredit (postCredited f.channel f.value .overflow (bankCoin f.channel f.value u)))

/-- The account, the coin unit and the alarm table after it, with what is left as it was. -/
theorem overflowCredited_settles {f : Flight} {u : State} (hf : u.coin.flight = none) :
    let t := overflowCredited f u
    (fills f.channel f.value u → u.alarm.entries.length = 16 → (alarmEntry t.alarm srcBoxFull).state ≠ .quiet)
    ∧ ((∀ r, u.account.phase ≠ .settling .flight r) → t.coin = banked f.channel f.value u ∧ t.account = u.account)
    ∧ (∀ r, u.account.phase = .settling .flight r →
        CollectionsChecked { u.account with phase := .settling .collect r } (banked f.channel f.value u) t)
    ∧ t.cfg = u.cfg ∧ t.supply = u.supply ∧ t.analyser = u.analyser ∧ t.store.array = u.store.array := by
  unfold overflowCredited
  obtain ⟨-, -, hcfg, hcoin, haccount, hanalyser, -, -, hsupply, harray⟩ := bankCoin_same f.channel f.value u
  generalize hv : postCredited f.channel f.value .overflow (bankCoin f.channel f.value u) = v
  have hnotice : OnlyCallSide (bankCoin f.channel f.value u) v := hv ▸ postNotice_callSide _ _ _
  have hvcoin : v.coin = banked f.channel f.value u := (callSide_coin hnotice).trans hcoin
  have hvaccount : v.account = u.account := (callSide_account hnotice).trans haccount
  obtain ⟨hstays, hchecked⟩ := credit_settles (u := v) (by rw [hvcoin]; exact hf)
  rw [hvcoin, hvaccount] at hstays hchecked
  obtain ⟨htcfg, htsupply, htanalyser, htalarm, htstore⟩ := OnlyAccountSide.frame (.trans (.of_callSide hnotice)
    ((reportCredit_accountSide v).trans (leaveFlightStage_accountSide (reportCredit v)).1))
  refine ⟨fun hfull hlen => ?_, hstays, hchecked, htcfg.trans hcfg, htsupply.trans hsupply, htanalyser.trans hanalyser,
    (congrArg Store.array htstore).trans harray⟩
  rw [htalarm]
  exact bankCoin_marks hfull hlen

/-- The flag and the credit after it. -/
theorem overflowCredited_figures {f : Flight} {u : State} (hf : u.coin.flight = none) :
    (overflowCredited f u).coin.nearPosted = (banked f.channel f.value u).nearPosted
      ∧ available (overflowCredited f u).account = available u.account := by
  obtain ⟨-, hstays, hchecked, -⟩ := overflowCredited_settles (f := f) hf
  by_cases h : ∃ r, u.account.phase = .settling .flight r
  · obtain ⟨r, hr⟩ := h
    exact ⟨by rw [collectionsChecked_coin (hchecked r hr)], (collectionsChecked_available (hchecked r hr)).trans rfl⟩
  · obtain ⟨hc, ha⟩ := hstays fun r hr => h ⟨r, hr⟩
    exact ⟨congrArg CoinUnit.nearPosted hc, congrArg available ha⟩

/-- Its notices where the coin does not fill the box and the call takes no notice of the credit: BOX_NEAR, where it is due,
and COIN_CREDITED behind it, as from any state `s` with the ports and the clock of `u`. -/
theorem overflowCredited_quiet {f : Flight} {s u : State} (hf : u.coin.flight = none) (hports : s.ports = u.ports)
    (htariff : s.tariff = u.tariff) (hfull : ¬ fills f.channel f.value u) (hw : u.call.state ≠ .waitCoins)
    (hm : u.tariff.meter.state = .stopped) :
    overflowCredited f u = { u with
      coin := (overflowCredited f u).coin
      account := (overflowCredited f u).account
      ports := (postNotice .coinCredited
        (byte1 f.channel ++ byte2 f.value ++ byte1 1 ++ byte2 (available (overflowCredited f u).account))
        (if nearDue (counted f.channel f.value u) then
            postNotice .boxNear (byte2 (countCoin f.channel f.value u.coin.tally).coins
              ++ byte4 (countCoin f.channel f.value u.coin.tally).value) s
          else s)).ports } := by
  have hb := bankCoin_not_full hfull
  obtain ⟨-, havailable⟩ := overflowCredited_figures (f := f) hf
  have hbports : (bankCoin f.channel f.value u).ports = (if nearDue (counted f.channel f.value u) then
      postNotice .boxNear (byte2 (countCoin f.channel f.value u.coin.tally).coins
        ++ byte4 (countCoin f.channel f.value u.coin.tally).value) s else s).ports := by
    rw [hb, apply_ite State.ports, postNotice_ports_congr _ _ hports htariff, hports]
  have hbtariff : (bankCoin f.channel f.value u).tariff = (if nearDue (counted f.channel f.value u) then
      postNotice .boxNear (byte2 (countCoin f.channel f.value u.coin.tally).coins
        ++ byte4 (countCoin f.channel f.value u.coin.tally).value) s else s).tariff := by
    rw [hb, apply_ite State.tariff, postNotice_tariff, ite_self, htariff]
  have hbaccount : (bankCoin f.channel f.value u).account = u.account := by rw [hb]
  generalize hv : postCredited f.channel f.value .overflow (bankCoin f.channel f.value u) = v
  have hvframe : v = { u with coin := v.coin, account := v.account, ports := v.ports } := by
    rw [← hv, postCredited, postNotice_eq, hb]
  have hidle : reportCredit v = v := reportCredit_idle (by rw [hvframe]; exact hw) (by rw [hvframe]; exact hm)
  have ht : overflowCredited f u = leaveFlightStage v := by rw [← hidle, ← hv]
  have hleft := (leaveFlightStage_accountSide v).2
  rw [← ht, hvframe] at hleft
  rw [havailable, ← hbaccount, ← postNotice_ports_congr _ _ hbports hbtariff]
  have hvports : v.ports = (postNotice .coinCredited (byte1 f.channel ++ byte2 f.value ++ byte1 1
      ++ byte2 (available (bankCoin f.channel f.value u).account)) (bankCoin f.channel f.value u)).ports := by rw [← hv]; rfl
  rw [← hvports]
  exact hleft

/-- Settles O32: what began to wait first is confirmed; each confirmation is stated above of the state that the coin has
left, and the counting of the tally by channel. -/
theorem boxEntryBanksTheCoin : Obligations.BoxEntryBanksTheCoin := by
  refine ⟨fun s ha => ?_, fun channel value t h1 h6 hlen => ?_⟩
  · have runs : exec .boxEntryEvent s = .next (boxEntry s) := congrArg _ (whenAwake_awake ha)
    refine ⟨fun g hg hm x rest hx hfirst => ?_, fun f hf hk hfirst => ?_, fun hg hf => ?_⟩
    · have e := (boxEntry_collect hg hm hfirst).trans (confirmCollect_eq hx)
      exact ⟨_, runs.trans (congrArg _ e),
        collected_bankCoin x.channel x.value { s with coin := { s.coin with gateOp := none, escrow := rest } }⟩
    · intro tally near full credited account coin
      have hcredited : creditBox f.value s.account = account := by simp only [creditBox, openForCredit_eq]; rfl
      have hstage (r : Bool) : account.phase = .settling .flight r ↔ s.account.phase = .settling .flight r := by
        rw [← hcredited]
        exact openForCredit_settling_iff s.account .flight r
      generalize hu : ({ s with coin := { s.coin with flight := none, flightLoss := 0 }, account := account } : State) = u
      have hflight : u.coin.flight = none := by rw [← hu]
      have e : boxEntry s = overflowCredited f u :=
        (boxEntry_overflow hf hk hfirst).trans (by rw [← hu, ← hcredited]; rfl)
      obtain ⟨hmarks, hstays, hchecked, hframe⟩ := overflowCredited_settles (f := f) hflight
      obtain ⟨hnear, -⟩ := overflowCredited_figures (f := f) hflight
      have hquiet := overflowCredited_quiet (f := f) (s := s) hflight (by rw [← hu]) (by rw [← hu])
      subst hu
      exact ⟨_, runs.trans (congrArg _ e), hnear, hmarks, hquiet, fun h => hstays fun r hr => h r ((hstage r).1 hr),
        fun r hr => hchecked r ((hstage r).2 hr), hframe⟩
    · rw [runs, boxEntry, collectWait_none hg, overflowFlight_none hf]
  · have hc : channel - 1 < t.counts.length := by omega
    refine ⟨rfl, rfl, ?_, fun k hk => ?_, rfl⟩
    · rw [countCoin_counts hc, if_pos rfl]
    · rw [countCoin_counts hc, if_neg hk]

end Sys2Proof.Proofs
end

section
/-! PROOFS. Collecting the box (O36). -/

namespace Sys2Proof.Proofs

open Sys2Proof Sys2Proof.Machine Sys2Proof.Laws

/-! ### OPEN_COLLECTION (R19, R133) -/

theorem codeShape_iff (code : Digits) : codeShape code = true ↔ code.length = 8 ∧ ∀ d ∈ code, d ≤ 11 := by
  simp [codeShape]

theorem openCollection_range {code : Digits} {s : State} (h : ¬ codeShape code = true) :
    openCollection code s = (s, refuseRange) := if_pos (by simpa using h)

theorem openCollection_locked {code : Digits} {s : State} (h : codeShape code = true) (hl : s.coin.lockoutUntil ≠ none) :
    openCollection code s = (s, refuseState) :=
  (if_neg (by simpa using h)).trans (if_pos (Option.isSome_iff_ne_none.2 hl))

theorem openCollection_compares {code : Digits} {s : State} (h : codeShape code = true) (hl : s.coin.lockoutUntil = none) :
    openCollection code s = compareCode code s :=
  (if_neg (by simpa using h)).trans (if_neg (by simp [hl]))

/-- A window that was closed begins with the box door's history empty. -/
theorem openWindow_eq (s : State) : openWindow s = { s with
    coin := { s.coin with windowUntil := some (s.now + 6000), wrongCodes := 0 }
    alarm := if s.coin.windowUntil.isSome then s.alarm
      else { s.alarm with sensors := s.alarm.sensors.set 0 { sensorState s.alarm 0 with hits := [] } } } := by
  unfold openWindow
  split <;> rfl

theorem compareCode_right {code : Digits} {s : State} (h : code = s.cfg.code) :
    compareCode code s = (openWindow s, replyOk (byte1 0 ++ byte2 6000)) := if_pos h

theorem compareCode_wrong {code : Digits} {s : State} (h : code ≠ s.cfg.code) (hn : s.coin.wrongCodes < 2) :
    compareCode code s = ({ s with coin := { s.coin with wrongCodes := s.coin.wrongCodes + 1 } }, replyOk (byte1 1)) :=
  (if_neg h).trans (if_pos (by omega))

theorem compareCode_third {code : Digits} {s : State} (h : code ≠ s.cfg.code) (hn : 2 ≤ s.coin.wrongCodes) :
    compareCode code s = (raise srcBoxDoor .coinUnit
      { s with coin := { s.coin with wrongCodes := 0, lockoutUntil := some (s.now + 9000) } }, replyOk (byte1 2)) :=
  (if_neg h).trans (if_neg (by omega))

/-! ### CLOSE_COLLECTION (R21, R145) -/

theorem closeCollection_closed {s : State} (h : s.coin.windowUntil = none) : closeCollection s = (s, refuseState) :=
  if_pos (by simp [h])

theorem closeCollection_refused {s : State} (h : s.coin.windowUntil ≠ none) (hw : nextWork s.store = none)
    (hp : postRecord .call (collectionRecord s) s = none) : closeCollection s = (s, refuseBusy) := by
  simp [closeCollection, h, settleWaiting_none hw, hp]

theorem closeCollection_posted {s t : State} {place : Place} (h : s.coin.windowUntil ≠ none) (hw : nextWork s.store = none)
    (hp : postRecord .call (collectionRecord s) s = some (t, place)) :
    closeCollection s = (closeWindow t, replyOk (tallyBytes s.coin.tally)) := by
  simp [closeCollection, h, settleWaiting_none hw, hp]

/-- The coin unit with the tally, the near-posted flag and the window started afresh. -/
abbrev emptied (c : CoinUnit) : CoinUnit := { c with tally := {}, nearPosted := false, windowUntil := none }

theorem autoClear_queue (i : Nat) (s : State) : s.store.queue <+: (autoClear i s).store.queue := by
  obtain ⟨hq, -⟩ := clearSource_clears i .automatic s
  unfold autoClear
  split
  · exact List.prefix_refl _
  · exact hq
  · exact hq
  · exact List.prefix_refl _

theorem autoClear_clears {i : Nat} {s : State}
    (h : (alarmEntry s.alarm i).state = .raised ∨ (alarmEntry s.alarm i).state = .reported) :
    autoClear i s = clearSource i .automatic s := by
  rcases h with h | h <;> simp only [autoClear, h]

/-- The alarm table after an automatic clear, by the state of its source (R145). -/
theorem autoClear_alarm (i : Nat) (s : State) :
    ((alarmEntry s.alarm i).state = .quiet → (autoClear i s).alarm = s.alarm)
    ∧ ((alarmEntry s.alarm i).state = .reporting → (autoClear i s).alarm = { s.alarm with
        entries := s.alarm.entries.set i { alarmEntry s.alarm i with clearPending := true } })
    ∧ ((alarmEntry s.alarm i).state = .raised ∨ (alarmEntry s.alarm i).state = .reported → i ≠ srcStore →
        i < s.alarm.entries.length →
        alarmEntry (autoClear i s).alarm i = {} ∧ (autoClear i s).alarm.service = derivedService (autoClear i s)) := by
  refine ⟨fun h => ?_, fun h => ?_, fun h hi hlt => ?_⟩
  · simp only [autoClear, h]
  · simp only [autoClear, h]
    rfl
  · obtain ⟨-, -, hservice, hentry⟩ := clearSource_clears i .automatic s
    rw [autoClear_clears h]
    exact ⟨hentry hi hlt, hservice⟩

/-- Closing the window from `s`, in which the record stands in the queue. -/
theorem closeWindow_same (s : State) : SameOutsideAlarm { s with coin := emptied s.coin } (closeWindow s) :=
  autoClear_same _ _

/-- What becomes of BOX_FULL as the window closes, from a state whose alarm table is that of `s`. -/
theorem closeWindow_alarm {s u : State} (h : u.alarm = s.alarm) :
    ((alarmEntry s.alarm srcBoxFull).state = .quiet → (closeWindow u).alarm = s.alarm)
    ∧ ((alarmEntry s.alarm srcBoxFull).state = .reporting → (closeWindow u).alarm = { s.alarm with
        entries := s.alarm.entries.set srcBoxFull { alarmEntry s.alarm srcBoxFull with clearPending := true } })
    ∧ ((alarmEntry s.alarm srcBoxFull).state = .raised ∨ (alarmEntry s.alarm srcBoxFull).state = .reported →
        s.alarm.entries.length = 16 →
        alarmEntry (closeWindow u).alarm srcBoxFull = {}
          ∧ (closeWindow u).alarm.service = derivedService (closeWindow u)) := by
  rw [← h]
  obtain ⟨hquiet, hreporting, hmarked⟩ := autoClear_alarm srcBoxFull { u with coin := emptied u.coin }
  exact ⟨hquiet, hreporting, fun hm hlen => hmarked hm (by decide) (hlen ▸ by decide)⟩

/-- A record in the queue stays there while the window closes. -/
theorem closeWindow_keeps {s : State} {op : StoreOp} (h : op ∈ s.store.queue) : op ∈ (closeWindow s).store.queue :=
  (autoClear_queue srcBoxFull { s with coin := emptied s.coin }).subset h

/-! ### Both requests -/

/-- OPEN_COLLECTION with a code of the right shape while no lockout runs. -/
theorem openCollection_outcomes {code : Digits} {s : State} (h : Running s) (hf : SlotFree .service s)
    (hshape : codeShape code = true) (hlock : s.coin.lockoutUntil = none) :
    (code = s.cfg.code → exec (.openCollection .service code) s
      = .next (answeredWith .service .ok (byte1 0 ++ byte2 6000) (openWindow s)))
    ∧ (code ≠ s.cfg.code → s.coin.wrongCodes < 2 → exec (.openCollection .service code) s = .next
        (answeredWith .service .ok (byte1 1) { s with coin := { s.coin with wrongCodes := s.coin.wrongCodes + 1 } }))
    ∧ (code ≠ s.cfg.code → 2 ≤ s.coin.wrongCodes → exec (.openCollection .service code) s = .next
        (answerPort .service (replyOk (byte1 2)) (raise srcBoxDoor .coinUnit { frameTaken .service s with
          coin := { s.coin with wrongCodes := 0, lockoutUntil := some (s.now + 9000) } }))) := by
  have compares := openCollection_compares (s := frameTaken .service s) hshape hlock
  refine ⟨fun hc => ?_, fun hc hn => ?_, fun hc hn => ?_⟩
  · refine request_answered h hf rfl 
      (compares.trans ((compareCode_right (s := frameTaken .service s) hc).trans ?_))
    rw [openWindow_eq, openWindow_eq]
    rfl
  · exact request_answered h hf rfl (compares.trans (compareCode_wrong hc hn))
  · change Host.Outcome.next (takeRequest .openCollection .service (openCollection code) s) = _
    rw [takeRequest_frameTaken h hf rfl, compares, compareCode_third (s := frameTaken .service s) hc hn]
    rfl

/-- CLOSE_COLLECTION once its record is posted, from the state `u` that the posting left. -/
theorem closeCollection_answers {s u : State} {place : Place} (h : Running s) (hf : SlotFree .service s)
    (hopen : s.coin.windowUntil ≠ none) (hw : nextWork s.store = none)
    (hp : postRecord .call (collectionRecord s) (frameTaken .service s) = some (u, place)) :
    exec (.closeCollection .service) s
      = .next (answerPort .service (replyOk (tallyBytes s.coin.tally)) (closeWindow u)) := by
  change Host.Outcome.next (takeRequest .closeCollection .service closeCollection s) = _
  rw [takeRequest_frameTaken h hf rfl, closeCollection_posted (s := frameTaken .service s) hopen hw hp]
  rfl

/-- Settles O36: the code by shape, lockout and comparison; the closing by window and by what the store takes. -/
theorem collectionsOpenAndClose : Obligations.CollectionsOpenAndClose := by
  refine ⟨fun code s h hf hshape => ?_, fun code s h hf hl hd => ⟨fun hlock => ?_, fun hlock => ?_⟩, fun s h hf => ?_⟩
  · refine request_answered h hf rfl (openCollection_range fun hs => ?_)
    obtain ⟨hl, hd⟩ := (codeShape_iff code).1 hs
    exact hshape.elim (fun h => h hl) fun h => h hd
  · exact request_answered h hf rfl (openCollection_locked ((codeShape_iff code).2 ⟨hl, by simpa using hd⟩) hlock)
  · obtain ⟨hright, hwrong, hthird⟩ :=
      openCollection_outcomes h hf ((codeShape_iff code).2 ⟨hl, by simpa using hd⟩) hlock
    refine ⟨fun hc => ⟨_, hright hc, ?_, ?_, fun ho => ?_, fun ho => ?_, ?_⟩, hwrong, fun hc hn hlen => ?_⟩
    · rw [openWindow_eq]
      rfl
    · rw [answeredWith, portOf_setPort_self]
    · rw [openWindow_eq]
      exact if_pos (Option.isSome_iff_ne_none.2 ho)
    · rw [openWindow_eq]
      exact if_neg (by simp [ho])
    · rw [openWindow_eq]
      rfl
    · have ht := hthird hc hn
      generalize hv : ({ frameTaken .service s with
        coin := { s.coin with wrongCodes := 0, lockoutUntil := some (s.now + 9000) } } : State) = v at ht
      obtain ⟨-, -, hcfg, hcoin, haccount, -, hcall, -⟩ := raise_same srcBoxDoor .coinUnit v
      have hmarks := raise_marks (i := srcBoxDoor) (s := v) .coinUnit (by rw [← hv]; exact hlen) (by decide)
      generalize raise srcBoxDoor .coinUnit v = u at ht hcfg hcoin haccount hcall hmarks
      subst hv
      exact ⟨_, ht, hcoin, answerPort_slot _ _ _ _, hmarks, haccount, hcall, hcfg⟩
  · intro record full
    have hrecord : postRecord .call record (frameTaken .service s) = none ↔ postRing .call record s.store = none :=
      postRecord_none_iff
    refine ⟨fun hclosed => request_answered h hf rfl (closeCollection_closed hclosed), fun hopen hw =>
      ⟨fun hrefused => ?_, fun htaken => ?_⟩⟩
    · exact request_answered h hf rfl (closeCollection_refused (s := frameTaken .service s) hopen hw (hrecord.2 hrefused))
    · obtain ⟨⟨u, place⟩, hp⟩ := Option.ne_none_iff_exists'.1 (mt hrecord.1 htaken)
      obtain ⟨-, -, hucfg, hucoin, huaccount, huanalyser, hucall, hutariff, husupply, huarray⟩ := postRecord_same hp
      obtain ⟨hquiet, hreporting, hmarked⟩ := closeWindow_alarm (s := frameTaken .service s) (postRecord_alarm hp)
      have hqueued : .record place record ∈ u.store.queue := by
        rw [postRecord_queue hp]
        simp
      obtain ⟨-, -, hcfg, hcoin, haccount, hanalyser, hcall, htariff, hsupply, harray⟩ := closeWindow_same u
      refine ⟨_, closeCollection_answers h hf hopen hw hp, hcoin.trans (congrArg emptied hucoin), answerPort_slot _ _ _ _,
        List.any_eq_true.2 ⟨_, closeWindow_keeps hqueued, by simp⟩, hquiet, hreporting, hmarked,
        haccount.trans huaccount, hcall.trans hucall, hcfg.trans hucfg, htariff.trans hutariff,
        hanalyser.trans huanalyser, hsupply.trans husupply, harray.trans huarray⟩

end Sys2Proof.Proofs
end

section
/-! PROOFS. The money laws as one invariant, and what leaves it as it is (O6). -/

namespace Sys2Proof.Proofs

open Sys2Proof Sys2Proof.Machine Sys2Proof.Laws

/-! ### The invariant -/

/-- COLLECTs claimed by a gate queue and an operation in flight (R8). -/
def claims (q : List GateWork) (o : Option GateOp) : Nat :=
  q.count .collect + if o.map (·.motion) = some .collect then 1 else 0

theorem collectsClaimed_eq_claims (c : CoinUnit) : collectsClaimed c = claims c.gateQueue c.gateOp := by
  rw [collectsClaimed_eq, claims, List.count_eq_length_filter]

/-- The laws of an account, an escrow list, a gate queue and an operation, before the shortfall check has run
(R25, R27, R31, R33). -/
structure MoneyOwed (a : Account) (l : List EscrowCoin) (q : List GateWork) (o : Option GateOp) : Prop where
  sum : a.d + a.k = a.e + a.b + a.r
  escrow : a.e = escrowValue l
  idle : a.phase = .idle → a = {} ∧ l = []
  covered : a.c ≤ a.b + a.e
  motion : ∀ g, o = some g → g.motion ≠ .no ∧ l.head?.map (·.motion) = some g.motion
  claimed : a.n = claims q o
  refunds : .refundAll ∈ q ∨ (∃ g, o = some g ∧ g.motion = .refund) → ∃ r, a.phase = .settling .refund r
  banked : ∀ r, a.phase = .settling .refund r → a.c ≤ a.b

/-- The laws with C covered by banked and committed coins (R34). -/
structure MoneyHeld (a : Account) (l : List EscrowCoin) (q : List GateWork) (o : Option GateOp) : Prop
    extends MoneyOwed a l q o where
  committed : a.c ≤ a.b + escrowValue (l.take a.n)

/-- The laws of a state whose recovery, if it runs, is past its scan. -/
structure MoneySound (s : State) : Prop where
  held : MoneyHeld s.account s.coin.escrow s.coin.gateQueue s.coin.gateOp
  saves : SavesBalanced s.store
  scanned : recoveryPending s = false

theorem moneyLaws_iff (s : State) : MoneyLaws s ↔
    MoneyHeld s.account s.coin.escrow s.coin.gateQueue s.coin.gateOp ∧ SavesBalanced s.store
      ∧ (recoveryPending s = true → s.account.phase = .idle) := by
  constructor
  · rintro ⟨⟨hsum, hescrow, hidle⟩, hcovered, hcommitted, ⟨hmotion, hclaimed⟩, ⟨hrefunds, hbanked⟩, hsaves,
      hpending⟩
    exact ⟨{ sum := hsum, escrow := hescrow, idle := hidle, covered := hcovered, motion := hmotion
             claimed := hclaimed.trans (collectsClaimed_eq_claims _), refunds := fun h => hrefunds (by simpa using h)
             banked := hbanked, committed := hcommitted }, hsaves, hpending⟩
  · rintro ⟨h, hsaves, hpending⟩
    exact ⟨⟨h.sum, h.escrow, h.idle⟩, h.covered, h.committed,
      ⟨h.motion, h.claimed.trans (collectsClaimed_eq_claims _).symm⟩, ⟨fun hr => h.refunds (by simpa using hr), h.banked⟩,
      hsaves, hpending⟩

theorem MoneySound.laws {s : State} (h : MoneySound s) : MoneyLaws s :=
  (moneyLaws_iff s).2 ⟨h.held, h.saves, fun hp => absurd (h.scanned.symm.trans hp) (by decide)⟩

theorem MoneySound.of_laws {s : State} (h : MoneyLaws s) (hs : recoveryPending s = false) : MoneySound s :=
  have ⟨hheld, hsaves, _⟩ := (moneyLaws_iff s).1 h
  ⟨hheld, hsaves, hs⟩

theorem recoveryPending_congr {s t : State} (h : t.supply.recovery = s.supply.recovery) :
    recoveryPending t = recoveryPending s := by
  simp only [recoveryPending, h]

/-- The part of the state that a money move writes apart, the laws are those of the account and the gate. -/
theorem MoneySound.moved {s t : State} (h : MoneySound s)
    (held : MoneyHeld t.account t.coin.escrow t.coin.gateQueue t.coin.gateOp) (store : t.store = s.store)
    (supply : t.supply = s.supply) : MoneySound t :=
  ⟨held, by rw [store]; exact h.saves, by rw [recoveryPending_congr (congrArg _ supply)]; exact h.scanned⟩

/-! ### What moves no money -/

/-- From `s` to `t` no money moves: the account and the gate stay, no save record that is not balanced comes in, and
recovery does not go back to its scan. -/
structure Calm (s t : State) : Prop where
  account : t.account = s.account
  escrow : t.coin.escrow = s.coin.escrow
  queue : t.coin.gateQueue = s.coin.gateQueue
  op : t.coin.gateOp = s.coin.gateOp
  saves : SavesBalanced s.store → SavesBalanced t.store
  scanned : recoveryPending s = false → recoveryPending t = false

/-- What the money laws read of a state. -/
def moneyView (s : State) :=
  ((s.account, s.coin.escrow, s.coin.gateQueue, s.coin.gateOp),
    (s.store.array.cells, s.store.queue, s.store.reserved, s.store.program, s.store.nextSave), s.supply.recovery)

/-- A record update that the laws do not read leaves the view as it is by definition. -/
theorem Calm.of_view {s t : State} (h : moneyView t = moneyView s) : Calm s t := by
  simp only [moneyView, Prod.mk.injEq] at h
  obtain ⟨⟨haccount, hescrow, hqueue, hop⟩, ⟨hcells, hwrites, hreserved, hprogram, hnext⟩, hrecovery⟩ := h
  refine ⟨haccount, hescrow, hqueue, hop, fun hs => ?_, fun hs => (recoveryPending_congr hrecovery).trans hs⟩
  unfold SavesBalanced
  rwa [hcells, hwrites, hreserved, hprogram, hnext]

theorem Calm.refl (s : State) : Calm s s := .of_view rfl

theorem Calm.trans {s t u : State} (h : Calm s t) (h' : Calm t u) : Calm s u where
  account := h'.account.trans h.account
  escrow := h'.escrow.trans h.escrow
  queue := h'.queue.trans h.queue
  op := h'.op.trans h.op
  saves hs := h'.saves (h.saves hs)
  scanned hs := h'.scanned (h.scanned hs)

theorem Calm.held {s t : State} (h : Calm s t) (hs : MoneyHeld s.account s.coin.escrow s.coin.gateQueue s.coin.gateOp) :
    MoneyHeld t.account t.coin.escrow t.coin.gateQueue t.coin.gateOp := by
  rwa [h.account, h.escrow, h.queue, h.op]

theorem Calm.sound {s t : State} (h : Calm s t) (hs : MoneySound s) : MoneySound t :=
  ⟨h.held hs.held, h.saves hs.saves, h.scanned hs.scanned⟩

theorem MoneySound.of_view {s t : State} (hs : MoneySound s) (h : moneyView t = moneyView s) : MoneySound t :=
  (Calm.of_view h).sound hs

theorem Calm.laws {s t : State} (h : Calm s t) (hs : MoneyLaws s) : MoneyLaws t := by
  obtain ⟨hheld, hsaves, hpending⟩ := (moneyLaws_iff s).1 hs
  refine (moneyLaws_iff t).2 ⟨h.held hheld, h.saves hsaves, fun hp => ?_⟩
  rw [h.account]
  refine hpending ?_
  by_contra hn
  exact absurd (h.scanned (by simpa using hn)) (by simp [hp])

/-- The four blocks of the money laws stand as they were. -/
theorem Calm.of_eq {s t : State} (account : t.account = s.account) (coin : t.coin = s.coin) (store : t.store = s.store)
    (supply : t.supply = s.supply) : Calm s t where
  account := account
  escrow := by rw [coin]
  queue := by rw [coin]
  op := by rw [coin]
  saves := by rw [store]; exact id
  scanned := by rw [recoveryPending_congr (congrArg _ supply)]; exact id

/-- What raises, clears or weighs, with its effect on the store's save records. -/
theorem Calm.of_same {s t : State} (h : SameOutsideAlarm s t) (saves : SavesBalanced s.store → SavesBalanced t.store) :
    Calm s t := by
  obtain ⟨-, -, -, hcoin, haccount, -, -, -, hsupply, -⟩ := h
  exact ⟨haccount, by rw [hcoin], by rw [hcoin], by rw [hcoin], saves,
    by rw [recoveryPending_congr (congrArg _ hsupply)]; exact id⟩

theorem Calm.of_callSide {s t : State} (h : OnlyCallSide s t) : Calm s t :=
  .of_eq (by rw [h]) (by rw [h]) (by rw [h]) (by rw [h])

/-! ### The save records that the store holds (R41, R189) -/

variable {st st' : Store}

theorem enqueued_saves {op : StoreOp} (hop : OpBalanced op) (h : SavesBalanced st) :
    SavesBalanced { st with queue := st.queue ++ [op] } := by
  obtain ⟨hcells, hqueue, hreserved, hprogram, hnext⟩ := h
  refine ⟨hcells, fun x hx => ?_, hreserved, hprogram, hnext⟩
  rcases List.mem_append.1 hx with hx | hx
  · exact hqueue x hx
  · rwa [List.mem_singleton.1 hx]

theorem setRing_saves (r : Ring) (v : RingState) (h : SavesBalanced st) : SavesBalanced (setRing r v st) := by
  cases r <;> exact h

theorem enqueue_saves {op : StoreOp} (hop : OpBalanced op) (h : SavesBalanced st) (he : enqueue op st = some st') :
    SavesBalanced st' := by
  unfold enqueue at he
  split at he
  · obtain rfl := Option.some.inj he
    exact enqueued_saves hop h
  · simp at he

/-- A ring record that is no save record. -/
theorem postRing_saves {r : Ring} {rec : Record} {p : Place} (hrec : ∀ p, OpBalanced (.record p rec)) (h : SavesBalanced st)
    (hp : postRing r rec st = some (st', p)) : SavesBalanced st' := by
  unfold postRing at hp
  split at hp
  · simp at hp
  split at hp
  · simp at hp
  simp only at hp
  split at hp
  · simp at hp
  rename_i g _ st1 he
  have h1 : SavesBalanced st1 := enqueue_saves (hrec _) h he
  split at hp <;> (simp only [Option.some.injEq, Prod.mk.injEq] at hp; obtain ⟨rfl, -⟩ := hp)
  · exact setRing_saves _ _ (setRing_saves _ _ h1)
  · exact setRing_saves _ _ h1

theorem postRecord_saves {r : Ring} {rec : Record} {s t : State} {p : Place} (hrec : ∀ p, OpBalanced (.record p rec))
    (hp : postRecord r rec s = some (t, p)) (h : SavesBalanced s.store) : SavesBalanced t.store := by
  unfold postRecord at hp
  split at hp
  · simp at hp
  rename_i st place e
  have h1 := postRing_saves hrec h e
  simp only at hp
  split at hp <;> (simp only [Option.some.injEq, Prod.mk.injEq] at hp; obtain ⟨rfl, -⟩ := hp)
  · simpa using h1
  · exact h1

theorem alarmRecord_plain (cleared : Bool) (i : Nat) (o : Origin) (count : Nat) (s : State) (p : Place) :
    OpBalanced (.record p (alarmRecord cleared i o count s)) := trivial

/-! ### Raisings, clears and the store's waiting work post no save record -/

variable {s : State}

theorem raiseWith_saves {lost : State → State} (hl : ∀ s, SavesBalanced s.store → SavesBalanced (lost s).store) (i : Nat)
    (o : Origin) (h : SavesBalanced s.store) : SavesBalanced (raiseWith lost i o s).store := by
  unfold raiseWith
  simp only
  rw [(tellRaised_weighed i _).store]
  split
  all_goals
    simp only [deriveService_store, postNotice_store]
    split
    · rename_i t p hp
      have ht : SavesBalanced t.store := postRecord_saves (alarmRecord_plain _ _ _ _ _) hp h
      exact ht
    · exact hl _ h

theorem raiseStore_saves (h : SavesBalanced s.store) : SavesBalanced (raiseStore s).store :=
  raiseWith_saves (fun _ => id) _ _ h

theorem raiseNow_saves (i : Nat) (o : Origin) (h : SavesBalanced s.store) : SavesBalanced (raiseNow i o s).store := by
  unfold raiseNow
  split
  · exact raiseWith_saves (fun _ => id) _ _ h
  · exact raiseWith_saves (fun _ => raiseStore_saves) _ _ h

theorem clearSource_saves (i : Nat) (o : Origin) (h : SavesBalanced s.store) : SavesBalanced (clearSource i o s).store := by
  have hstore : (if i < 8 then clearSensor i (setEntry i {} s) else setEntry i {} s).store = s.store := by split <;> rfl
  unfold clearSource
  simp only
  rw [(weigh_weighed _).store, deriveService_store, postNotice_store]
  rw [← hstore] at h
  split
  · rename_i hp
    exact postRecord_saves (alarmRecord_plain _ _ _ _ _) hp h
  · split
    · exact h
    · exact raiseStore_saves h

theorem autoClear_saves (i : Nat) (h : SavesBalanced s.store) : SavesBalanced (autoClear i s).store := by
  unfold autoClear
  split
  · exact h
  · exact clearSource_saves i _ h
  · exact clearSource_saves i _ h
  · exact h

theorem askStoreClear_saves (h : SavesBalanced s.store) : SavesBalanced (askStoreClear s).store := by
  unfold askStoreClear
  split
  · exact autoClear_saves _ h
  · exact h

theorem queueRingErase_saves (r : Ring) (h : SavesBalanced s.store) : SavesBalanced (queueRingErase r s).store := by
  have hq : SavesBalanced (queueOwedErase r s.store) := 
    setRing_saves r _ (enqueued_saves (op := .erase _ _) trivial h)
  unfold queueRingErase
  simp only
  split
  · exact askStoreClear_saves (by simpa using hq)
  · exact hq

theorem postOverflow_saves (h : SavesBalanced s.store) : SavesBalanced (postOverflow s).store := by
  unfold postOverflow
  split
  · exact h
  · rename_i t p hp
    have ht : SavesBalanced t.store := postRecord_saves (rec := .overflow _ _) (fun _ => trivial) hp h
    exact askStoreClear_saves (s := { t with store := { t.store with totals := {} } }) ht

theorem doWork_saves (w : WaitingWork) (h : SavesBalanced s.store) : SavesBalanced (doWork w s).store := by
  cases w with
  | mark p => exact enqueued_saves (op := .mark p .resolved) trivial h
  | ringErase r => exact queueRingErase_saves r h
  | saveErase => exact enqueued_saves (op := .erase saveSector 0) trivial h
  | overflow => exact postOverflow_saves h

theorem settleWork_saves (n : Nat) (h : SavesBalanced s.store) : SavesBalanced (settleWork n s).store := by
  induction n generalizing s with
  | zero => exact h
  | succ n ih =>
    simp only [settleWork]
    split
    · exact h
    · exact ih (doWork_saves _ h)

theorem settleWaiting_saves (h : SavesBalanced s.store) : SavesBalanced (settleWaiting s).store := settleWork_saves _ h

theorem raise_saves (i : Nat) (o : Origin) (h : SavesBalanced s.store) : SavesBalanced (raise i o s).store :=
  raiseNow_saves i o (settleWaiting_saves h)

theorem postCallRing_saves {rec : Record} (hrec : ∀ p, OpBalanced (.record p rec)) (h : SavesBalanced s.store) :
    SavesBalanced (postCallRing rec s).store := by
  have hw := settleWaiting_saves h
  unfold postCallRing
  simp only
  split
  · rename_i hp
    exact postRecord_saves hrec hp hw
  · exact raiseStore_saves (s := { settleWaiting s with store :=
      { (settleWaiting s).store with totals := countRecord rec (settleWaiting s).store.totals } }) hw

theorem postReportedMark_saves (p : Option Place) (h : SavesBalanced s.store) :
    SavesBalanced (postReportedMark p s).store := by
  have hw := settleWaiting_saves h
  unfold postReportedMark
  split
  · exact h
  · simp only
    split
    · rename_i he
      exact enqueue_saves (op := .mark _ _) trivial hw he
    · exact raiseStore_saves hw

theorem postResolvedMark_saves (p : Place) (h : SavesBalanced s.store) : SavesBalanced (postResolvedMark p s).store := by
  have hw := settleWaiting_saves h
  unfold postResolvedMark
  simp only
  split
  · rename_i he
    exact enqueue_saves (op := .mark _ _) trivial hw he
  · exact hw

theorem freedPlace_saves (h : SavesBalanced s.store) : SavesBalanced (freedPlace s).store := by
  unfold freedPlace
  split
  case h_1 p _ => exact enqueued_saves (op := .mark p .resolved) trivial h
  case h_2 => exact enqueued_saves (op := .erase saveSector 0) trivial h
  all_goals exact h

/-! ### The shared operations move no money -/

theorem postNotice_calm (k : NoticeKind) (fs : List Byte) (s : State) : Calm s (postNotice k fs s) :=
  .of_callSide (postNotice_callSide k fs s)

theorem setCallState_calm (x : CallState) (s : State) : Calm s (setCallState x s) := .of_callSide (setCallState_callSide x s)

theorem weigh_calm (s : State) : Calm s (weigh s) := .of_same (weigh_same s) fun h => by rwa [(weigh_weighed s).store]

theorem raise_calm (i : Nat) (o : Origin) (s : State) : Calm s (raise i o s) := .of_same (raise_same i o s) (raise_saves i o)

theorem clearSource_calm (i : Nat) (o : Origin) (s : State) : Calm s (clearSource i o s) :=
  .of_same (clearSource_same i o s) (clearSource_saves i o)

theorem autoClear_calm (i : Nat) (s : State) : Calm s (autoClear i s) := .of_same (autoClear_same i s) (autoClear_saves i)

theorem settleWaiting_calm (s : State) : Calm s (settleWaiting s) := .of_same (settleWaiting_same s) settleWaiting_saves

theorem postRecord_calm {r : Ring} {rec : Record} {s t : State} {p : Place} (hrec : ∀ p, OpBalanced (.record p rec))
    (hp : postRecord r rec s = some (t, p)) : Calm s t :=
  .of_same (postRecord_same hp) (postRecord_saves hrec hp)

theorem postCallRing_calm {rec : Record} (hrec : ∀ p, OpBalanced (.record p rec)) (s : State) : Calm s (postCallRing rec s) :=
  .of_same (postCallRing_same rec s) (postCallRing_saves hrec)

theorem postReportedMark_calm (p : Option Place) (s : State) : Calm s (postReportedMark p s) :=
  .of_same (postReportedMark_same p s) (postReportedMark_saves p)

theorem postResolvedMark_calm (p : Place) (s : State) : Calm s (postResolvedMark p s) :=
  .of_same (postResolvedMark_same p s) (postResolvedMark_saves p)

theorem freedPlace_calm (s : State) : Calm s (freedPlace s) := .of_same (freedPlace_same s) freedPlace_saves

theorem setEntry_calm (i : Nat) (e : AlarmEntry) (s : State) : Calm s (setEntry i e s) := .of_view rfl

theorem moveSource_calm {m : AlarmMove} {i : Nat} {s t : State} (h : moveSource m i s = some t) : Calm s t :=
  .of_same (moveSource_same h) fun hs => by rwa [(moveSource_weighed h).store]

theorem reportCredit_calm (s : State) : Calm s (reportCredit s) := .of_callSide (reportCredit_callSide s)

end Sys2Proof.Proofs
end

section
/-! PROOFS. What moves money keeps the money laws: credits, charges, collections, refunds and the stages of a settlement. -/

namespace Sys2Proof.Proofs

open Sys2Proof Sys2Proof.Machine Sys2Proof.Laws

/-! ### Sums -/

@[simp] theorem escrowValue_nil : escrowValue [] = 0 := rfl

@[simp] theorem escrowValue_cons (x : EscrowCoin) (l : List EscrowCoin) : escrowValue (x :: l) = x.value + escrowValue l := rfl

@[simp] theorem escrowValue_append (l m : List EscrowCoin) : escrowValue (l ++ m) = escrowValue l + escrowValue m := by
  simp [escrowValue]

/-! ### The moves of an account and its gate -/

variable {a : Account} {l : List EscrowCoin} {q : List GateWork} {o : Option GateOp}

/-- The account in IDLE. -/
theorem moneyHeld_reset : MoneyHeld {} [] [] none where
  sum := rfl
  escrow := rfl
  idle _ := ⟨rfl, rfl⟩
  covered := Nat.le_refl _
  motion _ h := by cases h
  claimed := rfl
  refunds h := by simp at h
  banked _ h := by cases h
  committed := Nat.le_refl _

theorem MoneyHeld.not_idle (h : MoneyHeld a l q o) (hl : l ≠ []) : a.phase ≠ .idle := fun hp => hl (h.idle hp).2

/-- An IDLE account opens (R26). -/
theorem MoneyHeld.opened (h : MoneyHeld a l q o) (hp : a.phase = .idle) : MoneyHeld { phase := .opened false } l q o := by
  obtain ⟨rfl, rfl⟩ := h.idle hp
  refine { h with idle := ?_, refunds := fun hr => ?_, banked := ?_ }
  · simp
  · obtain ⟨r, hr⟩ := h.refunds hr
    simp at hr
  · simp

theorem MoneyHeld.openForCredit (h : MoneyHeld a l q o) :
    MoneyHeld (openForCredit a) l q o ∧ (Machine.openForCredit a).phase ≠ .idle := by
  rw [openForCredit_eq]
  split
  · rename_i hp
    exact ⟨h.opened hp, by simp⟩
  · rename_i hp
    exact ⟨h, hp⟩

/-- A coin credited to ESCROW joins the list (R28). -/
theorem MoneyHeld.creditEscrow (h : MoneyHeld a l q o) (x : EscrowCoin) :
    MoneyHeld (creditEscrow x.value a) (l ++ [x]) q o := by
  obtain ⟨hopen, hp⟩ := h.openForCredit
  generalize hb : Machine.openForCredit a = b at hopen hp
  simp only [Machine.creditEscrow, hb]
  obtain ⟨⟨hsum, hescrow, -, hcovered, hmotion, hclaimed, hrefunds, hbanked⟩, hcommitted⟩ := hopen
  refine ⟨⟨?_, ?_, fun hi => absurd hi hp, ?_, fun g hg => ?_, hclaimed, hrefunds, hbanked⟩, ?_⟩
  · show b.d + x.value + b.k = b.e + x.value + b.b + b.r
    omega
  · simp [hescrow]
  · show b.c ≤ b.b + (b.e + x.value)
    omega
  · obtain ⟨hno, hhead⟩ := hmotion g hg
    refine ⟨hno, ?_⟩
    cases l with
    | nil => simp at hhead
    | cons y rest => exact hhead
  · show b.c ≤ b.b + escrowValue ((l ++ [x]).take b.n)
    rw [List.take_append, escrowValue_append]
    omega

/-- A coin credited as banked (R28). -/
theorem MoneyHeld.creditBox (h : MoneyHeld a l q o) (v : Nat) : MoneyHeld (creditBox v a) l q o := by
  obtain ⟨hopen, hp⟩ := h.openForCredit
  generalize hb : Machine.openForCredit a = b at hopen hp
  simp only [Machine.creditBox, hb]
  obtain ⟨⟨hsum, hescrow, -, hcovered, hmotion, hclaimed, hrefunds, hbanked⟩, hcommitted⟩ := hopen
  refine ⟨⟨?_, hescrow, fun hi => absurd hi hp, ?_, hmotion, hclaimed, hrefunds, fun r hr => ?_⟩, ?_⟩
  · show b.d + v + b.k = b.e + (b.b + v) + b.r
    omega
  · show b.c ≤ b.b + v + b.e
    omega
  · show b.c ≤ b.b + v
    have := hbanked r hr
    omega
  · show b.c ≤ b.b + v + escrowValue (l.take b.n)
    omega

/-- The newest coin, not in motion, is withdrawn, and charges beyond the money left are written back (R18, R29). -/
theorem MoneyHeld.withdraw (h : MoneyHeld a l q o) {x : EscrowCoin} (hx : l.getLast? = some x) (hm : x.motion = .no) :
    MoneyHeld (withdraw x.value a) l.dropLast q o := by
  obtain ⟨m, rfl⟩ := List.getLast?_eq_some_iff.1 hx
  have hp := h.not_idle (by simp)
  obtain ⟨⟨hsum, hescrow, -, hcovered, hmotion, hclaimed, hrefunds, hbanked⟩, hcommitted⟩ := h
  simp only [escrowValue_append, escrowValue_cons, escrowValue_nil] at hescrow
  have he : a.e - x.value = escrowValue m := by omega
  rw [List.dropLast_concat]
  refine ⟨⟨?_, he, fun hi => absurd hi hp, Nat.min_le_right _ _, fun g hg => ?_, hclaimed, hrefunds, fun r hr => ?_⟩, ?_⟩
  · show a.d - x.value + (a.k - (x.value - a.d)) = a.e - x.value + a.b + a.r
    omega
  · obtain ⟨hno, hhead⟩ := hmotion g hg
    refine ⟨hno, ?_⟩
    cases m with
    | nil =>
      have : x.motion = g.motion := by simpa using hhead
      exact absurd (this.symm.trans hm) hno
    | cons y rest => exact hhead
  · exact (Nat.min_le_left _ _).trans (hbanked r hr)
  · show min a.c (a.b + (a.e - x.value)) ≤ a.b + escrowValue (m.take a.n)
    rw [he]
    rcases Nat.le_total a.n m.length with hn | hn
    · rw [List.take_append_of_le_length hn] at hcommitted
      exact (Nat.min_le_left _ _).trans hcommitted
    · rw [List.take_of_length_le hn]
      exact Nat.min_le_right _ _

/-- The coin in motion is banked: E falls and B rises by it, and one claim is over (R30). -/
theorem MoneyHeld.collected {g : GateOp} {x : EscrowCoin} (h : MoneyHeld a (x :: l) q (some g)) (hm : g.motion = .collect)
    (j : Nat) : MoneyHeld { a with e := a.e - x.value, b := a.b + x.value, j := j, n := a.n - 1 } l q none := by
  have hp := h.not_idle (by simp)
  obtain ⟨⟨hsum, hescrow, -, hcovered, hmotion, hclaimed, hrefunds, hbanked⟩, hcommitted⟩ := h
  rw [escrowValue_cons] at hescrow
  have hn : a.n = claims q none + 1 := by simp [hclaimed, claims, hm]
  rw [hn, List.take_succ_cons, escrowValue_cons] at hcommitted
  refine ⟨⟨?_, ?_, fun hi => absurd hi hp, ?_, fun g hg => (by cases hg), ?_, fun hr => hrefunds ?_, fun r hr => ?_⟩, ?_⟩
  · show a.d + a.k = a.e - x.value + (a.b + x.value) + a.r
    omega
  · show a.e - x.value = escrowValue l
    omega
  · show a.c ≤ a.b + x.value + (a.e - x.value)
    omega
  · show a.n - 1 = claims q none
    omega
  · simpa using hr.imp_right fun h => by simp at h
  · show a.c ≤ a.b + x.value
    have := hbanked r hr
    omega
  · show a.c ≤ a.b + x.value + escrowValue (l.take (a.n - 1))
    rw [hn, Nat.add_sub_cancel]
    omega

/-- The coin in motion is returned: E falls and R rises by it (R31). -/
theorem MoneyHeld.refunded {g : GateOp} {x : EscrowCoin} (h : MoneyHeld a (x :: l) q (some g)) (hm : g.motion = .refund)
    (u : Nat) : MoneyHeld { a with e := a.e - x.value, r := a.r + x.value, unconfirmed := u } l q none := by
  have hp := h.not_idle (by simp)
  obtain ⟨⟨hsum, hescrow, -, hcovered, hmotion, hclaimed, hrefunds, hbanked⟩, hcommitted⟩ := h
  rw [escrowValue_cons] at hescrow
  obtain ⟨r, hr⟩ := hrefunds (.inr ⟨g, rfl, hm⟩)
  have hb := hbanked r hr
  refine ⟨⟨?_, ?_, fun hi => absurd hi hp, ?_, fun g hg => (by cases hg), ?_, fun _ => ⟨r, hr⟩, fun _ _ => hb⟩, ?_⟩
  · show a.d + a.k = a.e - x.value + a.b + (a.r + x.value)
    omega
  · show a.e - x.value = escrowValue l
    omega
  · show a.c ≤ a.b + (a.e - x.value)
    omega
  · simpa [claims, hm] using hclaimed
  · show a.c ≤ a.b + escrowValue (l.take a.n)
    omega

/-- A COLLECT entry's coin is set in motion (R8, R9). -/
theorem MoneyHeld.driveCollect {x : EscrowCoin} (h : MoneyHeld a (x :: l) q none) (hq : .collect ∈ q) {g : GateOp}
    (hm : g.motion = .collect) : MoneyHeld a ({ x with motion := .collect } :: l) (q.erase .collect) (some g) := by
  obtain ⟨⟨hsum, hescrow, hidle, hcovered, hmotion, hclaimed, hrefunds, hbanked⟩, hcommitted⟩ := h
  refine ⟨⟨hsum, hescrow, fun hi => absurd (hidle hi).2 (by simp), hcovered, ?_, ?_, fun hr => hrefunds ?_, hbanked⟩, ?_⟩
  · rintro _ ⟨rfl⟩
    exact ⟨by simp [hm], by simp [hm]⟩
  · have hpos := List.count_pos_iff.2 hq
    simp only [claims] at hclaimed
    simp [claims, hm, hclaimed]
    omega
  · rcases hr with hr | ⟨g', hg', hr⟩
    · exact .inl (List.mem_of_mem_erase hr)
    · rw [← Option.some.inj hg', hm] at hr
      cases hr
  · cases hn : a.n with
    | zero => simpa [hn] using hcommitted
    | succ n => simpa [hn] using hcommitted

/-- The next coin of a REFUND_ALL is set in motion (R8, R9). -/
theorem MoneyHeld.driveRefund {x : EscrowCoin} (h : MoneyHeld a (x :: l) q none) (hq : .refundAll ∈ q) {g : GateOp}
    (hm : g.motion = .refund) : MoneyHeld a ({ x with motion := .refund } :: l) q (some g) := by
  have hstage := h.refunds (.inl hq)
  obtain ⟨⟨hsum, hescrow, hidle, hcovered, hmotion, hclaimed, hrefunds, hbanked⟩, hcommitted⟩ := h
  refine ⟨⟨hsum, hescrow, fun hi => absurd (hidle hi).2 (by simp), hcovered, ?_, ?_, fun _ => hstage, hbanked⟩, ?_⟩
  · rintro _ ⟨rfl⟩
    exact ⟨by simp [hm], by simp [hm]⟩
  · simpa [claims, hm] using hclaimed
  · cases hn : a.n with
    | zero => simpa [hn] using hcommitted
    | succ n => simpa [hn] using hcommitted

/-- A COLLECT entry that finds no coin is over (R8, R30). -/
theorem MoneyHeld.noCoin (h : MoneyHeld a [] q o) (hq : .collect ∈ q) :
    MoneyHeld { a with n := a.n - 1 } [] (q.erase .collect) o := by
  obtain ⟨⟨hsum, hescrow, hidle, hcovered, hmotion, hclaimed, hrefunds, hbanked⟩, hcommitted⟩ := h
  have hpos := List.count_pos_iff.2 hq
  refine ⟨⟨hsum, hescrow, fun hi => ?_, hcovered, hmotion, ?_, fun hr => hrefunds (hr.imp_left List.mem_of_mem_erase),
    hbanked⟩, by simpa using hcommitted⟩
  · have hn : a.n = 0 := by rw [(hidle hi).1]
    simp only [claims] at hclaimed
    omega
  · show a.n - 1 = _
    simp only [claims] at hclaimed ⊢
    rw [List.count_erase_self]
    omega

/-- A REFUND_ALL entry leaves the queue (R8). -/
theorem MoneyHeld.noRefund (h : MoneyHeld a l q o) : MoneyHeld a l (q.erase .refundAll) o := by
  have hn : claims (q.erase .refundAll) o = claims q o := by
    simp only [claims]
    rw [List.count_erase_of_ne (by decide)]
  exact { h with
    claimed := h.claimed.trans hn.symm
    refunds := fun hr => h.refunds (hr.imp_left List.mem_of_mem_erase) }

/-- The account goes from one phase that is not of a refund to another (R36, R39). -/
theorem MoneyHeld.rephase (h : MoneyHeld a l q o) {p : AccountPhase} (hp : p ≠ .idle)
    (ha : ∀ r, a.phase ≠ .settling .refund r) (hr : ∀ r, p ≠ .settling .refund r) : MoneyHeld { a with phase := p } l q o :=
  { h with
    idle := fun hi => absurd hi hp
    refunds := fun hq => have ⟨r, hq⟩ := h.refunds hq; absurd hq (ha r)
    banked := fun r h => absurd h (hr r) }

/-- The settlement enters its REFUND stage once every charge is banked (R36, R37). -/
theorem MoneyHeld.refundStage (h : MoneyHeld a l q o) (hn : a.n = 0) (r : Bool) :
    MoneyHeld { a with phase := .settling .refund r } l (if .refundAll ∈ q then q else q ++ [.refundAll]) o := by
  have hb : a.c ≤ a.b := by simpa [hn] using h.committed
  have hc : claims (if .refundAll ∈ q then q else q ++ [.refundAll]) o = claims q o := by
    split <;> simp [claims]
  exact { h with
    idle := fun hi => by cases hi
    claimed := h.claimed.trans hc.symm
    refunds := fun _ => ⟨r, rfl⟩
    banked := fun _ _ => hb }

/-- A charge that A covers, its collections still owed (R33). -/
theorem MoneyHeld.charged (h : MoneyHeld a l q o) {m : Nat} (hm : m ≤ available a) (hp : a.phase = .opened false) :
    MoneyOwed { a with c := a.c + m } l q o := by
  have hcovered := h.covered
  simp only [available] at hm
  refine { h with idle := fun hi => ?_, covered := ?_, banked := fun r hr => ?_ }
  · cases hp.symm.trans hi
  · show a.c + m ≤ a.b + a.e
    omega
  · cases hp.symm.trans hr

/-- The account after a carry (R40). -/
theorem MoneyHeld.carried (h : MoneyHeld a l q o) (hp : a.phase = .opened true) (hn : a.n = 0) :
    MoneyHeld (carriedAccount a) l q o := by
  have hb : a.c ≤ a.b := by simpa [hn] using h.committed
  refine ⟨⟨?_, h.escrow, fun hi => (by cases hi), Nat.zero_le _, h.motion, ?_, fun hq => ?_, fun r hr => (by cases hr)⟩,
    Nat.zero_le _⟩
  · show 0 + (a.e + a.b - a.c) = a.e + (a.b - a.c) + 0
    omega
  · exact hn.symm.trans h.claimed
  · obtain ⟨r, hr⟩ := h.refunds hq
    cases hp.symm.trans hr

/-- Nothing is left of a settlement that has ended (R37). -/
theorem moneyHeld_settled (hq : .collect ∉ q) : MoneyHeld {} [] (q.filter (· != .refundAll)) none := by
  have : q.filter (· != .refundAll) = [] := by
    rw [List.filter_eq_nil_iff]
    intro w hw
    cases w with
    | collect => exact absurd hw hq
    | refundAll => simp
  rw [this]
  exact moneyHeld_reset

/-! ### The shortfall check and the stages -/

/-- The check leaves C covered by banked and committed coins (R34). -/
theorem shortfall_held {s : State} (h : MoneyOwed s.account s.coin.escrow s.coin.gateQueue s.coin.gateOp) :
    MoneyHeld (shortfall s).account (shortfall s).coin.escrow (shortfall s).coin.gateQueue (shortfall s).coin.gateOp := by
  obtain ⟨k, ⟨hposts, hend⟩, he⟩ := shortfall_posts s
  rw [he]
  have hclaims : claims (s.coin.gateQueue ++ List.replicate k .collect) s.coin.gateOp = s.account.n + k := by
    rw [h.claimed]
    simp only [claims, List.count_append, List.count_replicate_self]
    omega
  refine ⟨{ h with idle := fun hi => ?_, claimed := hclaims.symm, refunds := fun hr => h.refunds (hr.imp_left ?_) }, ?_⟩
  · obtain ⟨ha, hl⟩ := h.idle hi
    have hk : k = 0 := by
      by_contra hk
      have := (hposts 0 (by omega)).2
      simp [hl] at this
    subst hk
    exact ⟨ha, hl⟩
  · simp
  · have hn := (h.claimed.trans (collectsClaimed_eq_claims _).symm).trans (collectsClaimed_eq _)
    rcases hend with hc | hlen
    · exact hc
    · show s.account.c ≤ s.account.b + escrowValue (s.coin.escrow.take (s.account.n + k))
      rw [List.take_of_length_le (hn ▸ hlen), ← h.escrow]
      exact h.covered

theorem enterRefund_held {s : State} (h : MoneyHeld s.account s.coin.escrow s.coin.gateQueue s.coin.gateOp) :
    MoneyHeld (enterRefund s).account (enterRefund s).coin.escrow (enterRefund s).coin.gateQueue (enterRefund s).coin.gateOp := by
  by_cases hr : (∀ r, s.account.phase ≠ .settling .collect r) ∨ s.account.n ≠ 0
  · rwa [enterRefund_stays hr]
  · push Not at hr
    obtain ⟨⟨r, hr⟩, hn⟩ := hr
    rw [enterRefund_enters hr hn]
    exact h.refundStage hn r

end Sys2Proof.Proofs
end

section
/-! PROOFS. The state after reset meets the laws (O9). -/

namespace Sys2Proof.Proofs

open Sys2Proof Sys2Proof.Machine Sys2Proof.Laws

theorem reset_queuesBounded : QueuesBounded State.reset := by
  intro p
  cases p with
  | set => exact Nat.zero_le _
  | line => exact Nat.zero_le _
  | service => exact Nat.zero_le _

/-- A store with no operation in its queue or under way holds the save records of its array alone. -/
theorem array_saves {a : NvArray} (h : ∀ kc ∈ a.cells, ∀ r, kc.2.record = some (.save r) → saveBalanced r)
    (totals : Totals) : SavesBalanced { array := a, totals := totals } := by
  refine ⟨h, ?_, ?_, ?_, ?_⟩
  · intro _ hx
    cases hx
  all_goals
    intro _ hx
    cases hx

theorem reset_savesBalanced : SavesBalanced State.reset.store :=
  array_saves (fun _ hx => absurd hx List.not_mem_nil) {}

theorem reset_moneyLaws : MoneyLaws State.reset :=
  (moneyLaws_iff _).2 ⟨moneyHeld_reset, reset_savesBalanced, fun _ => rfl⟩

theorem reset_lineLaws : LineLaws State.reset := by
  refine ⟨?_, ?_, ?_, ?_⟩
  · simp [SlotLaw, State.reset]
  · simp [ClaimLaw, State.reset]
  · simp [ReportLaw, State.reset]
  · simp [CallLaw, State.reset, holdsLine, callTimerRuns]

/-- Settles O9: nothing is queued, held, owed or claimed after reset, and its array is blank. -/
theorem resetMeetsTheLaws : Obligations.ResetMeetsTheLaws :=
  ⟨reset_arrayCanonical, reset_queuesBounded, reset_moneyLaws, reset_lineLaws⟩

end Sys2Proof.Proofs
end

section
/-! PROOFS. The account unit and the coin unit keep the money laws (R3 to R23, R28 to R37). -/

namespace Sys2Proof.Proofs

open Sys2Proof Sys2Proof.Machine Sys2Proof.Laws

variable {s : State}

/-! ### The account unit -/

theorem shortfall_sound (owed : MoneyOwed s.account s.coin.escrow s.coin.gateQueue s.coin.gateOp)
    (saves : SavesBalanced s.store) (scanned : recoveryPending s = false) : MoneySound (shortfall s) := by
  have held := shortfall_held owed
  obtain ⟨k, -, he⟩ := shortfall_posts s
  rw [he] at held ⊢
  exact ⟨held, saves, scanned⟩

theorem enterRefund_sound (h : MoneySound s) : MoneySound (enterRefund s) := by
  by_cases hr : (∀ r, s.account.phase ≠ .settling .collect r) ∨ s.account.n ≠ 0
  · rwa [enterRefund_stays hr]
  · have held := enterRefund_held h.held
    push Not at hr
    obtain ⟨⟨r, hr⟩, hn⟩ := hr
    rw [enterRefund_enters hr hn] at held ⊢
    exact ⟨held, h.saves, h.scanned⟩

/-- The shortfall check of an account that another phase is given, neither of them of a refund. -/
theorem shortfall_rephased_sound (h : MoneySound s) {p : AccountPhase} (hp : p ≠ .idle)
    (ha : ∀ r, s.account.phase ≠ .settling .refund r) (hr : ∀ r, p ≠ .settling .refund r) :
    MoneySound (shortfall { s with account := { s.account with phase := p } }) :=
  shortfall_sound (s := { s with account := { s.account with phase := p } }) (h.held.rephase hp ha hr).toMoneyOwed h.saves
    h.scanned

theorem leaveFlightStage_sound (h : MoneySound s) : MoneySound (leaveFlightStage s) := by
  unfold leaveFlightStage
  split
  · rename_i r hr
    split
    · exact enterRefund_sound (shortfall_rephased_sound h (by simp) (by simp [hr]) (by simp))
    · exact h
  · exact h

theorem beginCarry_sound (h : MoneySound s) : MoneySound (beginCarry s) := by
  unfold beginCarry
  split
  · rename_i hp
    exact shortfall_rephased_sound h (by simp) (by simp [hp]) (by simp)
  · exact h

theorem chargedAccount_owed (h : MoneySound s) (hp : s.account.phase = .opened false) (m : Nat) :
    MoneyOwed (chargedAccount m s.account) s.coin.escrow s.coin.gateQueue s.coin.gateOp := by
  by_cases hm : m ≤ available s.account
  · simpa [chargedAccount, chargeAnswer, hp, hm] using h.held.charged hm hp
  · simpa [chargedAccount, chargeAnswer, hp, hm] using h.held.charged (Nat.le_refl _) hp

theorem charge_sound (m : Nat) (h : MoneySound s) : MoneySound (charge m s) := by
  unfold charge
  split
  · rename_i hp
    exact shortfall_sound (s := { s with account := chargedAccount m s.account }) (chargedAccount_owed h hp m) h.saves
      h.scanned
  · exact h

theorem reportCredit_sound (h : MoneySound s) : MoneySound (reportCredit s) := (reportCredit_calm s).sound h

theorem collectEnded_sound {f : Account → Account}
    (held : MoneyHeld { f s.account with n := (f s.account).n - 1 } s.coin.escrow s.coin.gateQueue s.coin.gateOp)
    (saves : SavesBalanced s.store) (scanned : recoveryPending s = false) : MoneySound (collectEnded f s) :=
  reportCredit_sound (enterRefund_sound (shortfall_sound
    (s := { s with account := { f s.account with n := (f s.account).n - 1 } }) held.toMoneyOwed saves scanned))

/-! ### Flights -/

theorem loseFlight_calm (s : State) : Calm s (loseFlight s) := by
  unfold loseFlight
  split
  · exact .of_view rfl
  · exact .trans (t := { s with coin := { s.coin with flightLoss := 0 } }) (.of_view rfl) (raise_calm _ _ _)

theorem acceptPulse_calm (k : Nat) (s : State) : Calm s (acceptPulse k s) := by
  unfold acceptPulse
  split
  · exact .refl s
  · split
    · exact loseFlight_calm s
    · exact .of_view rfl

theorem flightWindowEnds_sound (h : MoneySound s) : MoneySound (flightWindowEnds s) := by
  unfold flightWindowEnds
  split
  · exact h
  · exact leaveFlightStage_sound ((loseFlight_calm _).sound (s := { s with coin := { s.coin with flight := none } })
      ⟨h.held, h.saves, h.scanned⟩)

theorem confirmEscrow_sound (f : Flight) (h : MoneySound s) : MoneySound (confirmEscrow f s) := by
  unfold confirmEscrow
  exact leaveFlightStage_sound (reportCredit_sound ((postNotice_calm _ _ _).sound
    ⟨h.held.creditEscrow { channel := f.channel, value := f.value, id := s.coin.coinIds }, h.saves, h.scanned⟩))

theorem checkNear_calm (s : State) : Calm s (checkNear s) := by
  rw [checkNear_eq]
  exact .of_view rfl

theorem checkFull_calm (wasBelow : Bool) (s : State) : Calm s (checkFull wasBelow s) := by
  unfold checkFull
  split
  · exact raise_calm _ _ s
  · exact .refl s

theorem bankCoin_calm (channel value : Nat) (s : State) : Calm s (bankCoin channel value s) :=
  .trans (t := counted channel value s) (.of_view rfl) ((checkNear_calm _).trans (checkFull_calm _ _))

theorem confirmOverflow_sound (f : Flight) (h : MoneySound s) : MoneySound (confirmOverflow f s) := by
  unfold confirmOverflow
  exact leaveFlightStage_sound (reportCredit_sound ((postNotice_calm _ _ _).sound ((bankCoin_calm _ _ _).sound
    ⟨h.held.creditBox f.value, h.saves, h.scanned⟩)))

theorem withdrawCoin_sound {x : EscrowCoin} (h : MoneySound s) (hx : s.coin.escrow.getLast? = some x) (hm : x.motion = .no) :
    MoneySound (withdrawCoin x s) := by
  unfold withdrawCoin
  exact reportCredit_sound ((postNotice_calm _ _ _).sound ⟨h.held.withdraw hx hm, h.saves, h.scanned⟩)

theorem strayPass_sound (h : MoneySound s) : MoneySound (strayPass s) := by
  have hs : MoneySound { s with coin := { s.coin with lastCredited := none } } := ⟨h.held, h.saves, h.scanned⟩
  unfold strayPass
  refine (raise_calm _ _ _).sound ?_
  split
  · rename_i x hx
    obtain ⟨-, -, hlast, -, -, hm⟩ := pulledBack_eq_some_iff.1 hx
    exact withdrawCoin_sound hs hlast hm
  · exact hs

theorem escrowEntry_sound (h : MoneySound s) : MoneySound (escrowEntry s) := by
  unfold escrowEntry
  split
  · split
    · exact confirmEscrow_sound _ h
    · exact strayPass_sound h
  · exact strayPass_sound h

/-! ### The gate -/

/-- A gate operation has the coin in motion at the head of the list. -/
theorem MoneySound.in_motion (h : MoneySound s) {g : GateOp} (hg : s.coin.gateOp = some g) :
    ∃ x rest, s.coin.escrow = x :: rest ∧ g.motion ≠ .no
      ∧ MoneyHeld s.account (x :: rest) s.coin.gateQueue (some g) := by
  have held := h.held
  rw [hg] at held
  obtain ⟨hno, hhead⟩ := held.motion g rfl
  cases hl : s.coin.escrow with
  | nil => simp [hl] at hhead
  | cons x rest => exact ⟨x, rest, rfl, hno, hl ▸ held⟩

theorem confirmCollect_sound (h : MoneySound s) {g : GateOp} (hg : s.coin.gateOp = some g) (hm : g.motion = .collect) :
    MoneySound (confirmCollect s) := by
  obtain ⟨x, rest, hx, -, held⟩ := h.in_motion hg
  rw [confirmCollect_eq hx]
  have calm := bankCoin_calm x.channel x.value { s with coin := { s.coin with gateOp := none, escrow := rest } }
  refine collectEnded_sound ?_ (calm.saves h.saves) (calm.scanned h.scanned)
  rw [calm.account, calm.escrow, calm.queue, calm.op]
  exact held.collected hm s.account.j

theorem jamCollect_sound (h : MoneySound s) {g : GateOp} (hg : s.coin.gateOp = some g) (hm : g.motion = .collect) :
    MoneySound (jamCollect s) := by
  obtain ⟨x, rest, hx, -, held⟩ := h.in_motion hg
  rw [jamCollect_eq hx]
  refine (raise_calm _ _ _).sound (collectEnded_sound ?_ h.saves h.scanned)
  exact held.collected hm (s.account.j + x.value)

theorem confirmRefund_sound (h : MoneySound s) {g : GateOp} (hg : s.coin.gateOp = some g) (hm : g.motion = .refund) :
    MoneySound (confirmRefund s) := by
  obtain ⟨x, rest, hx, -, held⟩ := h.in_motion hg
  rw [confirmRefund_eq hx]
  exact reportCredit_sound ⟨held.refunded hm s.account.unconfirmed, h.saves, h.scanned⟩

theorem countRefundRun_calm (s : State) : Calm s (countRefundRun s) := by
  unfold countRefundRun
  split
  · exact .of_view rfl
  · exact .trans (t := { s with coin := { s.coin with refundRun := 0 } }) (.of_view rfl) (raise_calm _ _ _)

theorem loseRefund_sound (h : MoneySound s) {g : GateOp} (hg : s.coin.gateOp = some g) (hm : g.motion = .refund) :
    MoneySound (loseRefund s) := by
  obtain ⟨x, rest, hx, -, held⟩ := h.in_motion hg
  rw [loseRefund_eq hx]
  exact (countRefundRun_calm _).sound (reportCredit_sound ⟨held.refunded hm _, h.saves, h.scanned⟩)

theorem gateWindowEnds_sound (h : MoneySound s) {g : GateOp} (hg : s.coin.gateOp = some g) :
    MoneySound (gateWindowEnds g s) := by
  obtain ⟨x, rest, hx, hno, held⟩ := h.in_motion hg
  unfold gateWindowEnds
  split
  · refine ⟨?_, h.saves, h.scanned⟩
    have hown := h.held
    rw [hg] at hown
    refine { hown with motion := fun g' hg' => ?_, claimed := hown.claimed.trans (by simp [claims]), refunds := fun hr => ?_ }
    · obtain rfl := Option.some.inj hg'
      exact hown.motion g rfl
    · refine hown.refunds (hr.imp_right fun ⟨g', hg', hr⟩ => ⟨g, rfl, ?_⟩)
      obtain rfl := Option.some.inj hg'
      exact hr
  · split
    · exact jamCollect_sound h hg (by assumption)
    · exact loseRefund_sound h hg (by assumption)
    · exact h

theorem takeGateWork_sound (h : MoneySound s) (hg : s.coin.gateOp = none) : MoneySound (takeGateWork s) := by
  have held := h.held
  by_cases hc : .collect ∈ s.coin.gateQueue
  · rw [takeGateWork_collect hc]
    cases hl : s.coin.escrow with
    | nil =>
      simp only [if_true]
      refine collectEnded_sound ?_ h.saves h.scanned
      rw [hl] at held
      simpa [hl] using held.noCoin hc
    | cons x rest =>
      simp only [reduceCtorEq, if_false]
      rw [driveGate_eq (x := x) (rest := rest) (by exact hl)]
      rw [hl, hg] at held
      exact ⟨held.driveCollect hc rfl, h.saves, h.scanned⟩
  · by_cases hr : .refundAll ∈ s.coin.gateQueue
    · rw [takeGateWork_refundAll hc hr]
      cases hl : s.coin.escrow with
      | nil =>
        rw [if_pos rfl]
        exact ⟨held.noRefund, h.saves, h.scanned⟩
      | cons x rest =>
        rw [if_neg (by simp), driveGate_eq hl]
        rw [hl, hg] at held
        exact ⟨held.driveRefund hr rfl, h.saves, h.scanned⟩
    · unfold takeGateWork
      rwa [if_neg (by simpa using hc), if_neg (by simpa using hr)]

theorem gateStarts_sound (h : MoneySound s) : MoneySound (if gateMayStart s then takeGateWork s else s) := by
  split
  · rename_i hf
    refine takeGateWork_sound h ?_
    simp only [gateMayStart, gateFree, Bool.and_eq_true, Option.isNone_iff_eq_none] at hf
    exact hf.1.1.1
  · exact h

/-- A collection that the box-entry sensor confirms is in flight. -/
theorem collectWait_some {c : CoinUnit} {t : Nat} (h : collectWait c = some t) :
    ∃ g, c.gateOp = some g ∧ g.motion = .collect := by
  unfold collectWait at h
  split at h
  · rename_i g hg
    split at h
    · exact ⟨g, hg, by assumption⟩
    · simp at h
  · simp at h

theorem boxEntry_sound (h : MoneySound s) : MoneySound (boxEntry s) := by
  have collects {t : Nat} (hw : collectWait s.coin = some t) : MoneySound (confirmCollect s) :=
    have ⟨_, hg, hm⟩ := collectWait_some hw
    confirmCollect_sound h hg hm
  unfold boxEntry
  split
  · split
    · exact collects (by assumption)
    · exact confirmOverflow_sound _ h
  · exact collects (by assumption)
  · exact confirmOverflow_sound _ h
  · exact h

theorem endGateTest_calm (outcome : Nat) (s : State) : Calm s (endGateTest outcome s) :=
  .trans (t := { s with coin := { s.coin with gateTest := none } }) (.of_view rfl) (postNotice_calm _ _ _)

/-- A part past its scan goes on in a later phase of its recovery. -/
theorem setRecovery_calm {r : Recovery} (hr : r.phase ≠ .scan) (s : State) : Calm s (setRecovery r s) :=
  ⟨rfl, rfl, rfl, rfl, id, fun _ => by simpa [recoveryPending] using hr⟩

theorem phase_of_scanned {r : Recovery} (h : recoveryPending s = false) (hr : s.supply.recovery = some r) : r.phase ≠ .scan := by
  simpa [recoveryPending, hr] using h

theorem returnChute_sound (h : MoneySound s) : MoneySound (returnChute s) := by
  unfold returnChute
  split
  · split
    · exact confirmRefund_sound h (by assumption) (by assumption)
    · exact h
  · exact (endGateTest_calm 0 s).sound h
  · rename_i r _ _ hr
    have hphase := phase_of_scanned h.scanned hr
    split
    · unfold countFlushed
      split
      · exact h
      · exact (setRecovery_calm (by exact hphase) s).sound h
    · exact h
  · exact h

/-! ### Rejects, the box and its window -/

theorem recordReject_calm (s : State) : Calm s (recordReject s) := by
  rw [recordReject_eq]
  split
  · exact .trans (t := { s with coin := { s.coin with rejects := [] } }) (.of_view rfl) (raise_calm _ _ _)
  · exact .of_view rfl

theorem openCollection_calm (code : Digits) (s : State) : Calm s (openCollection code s).1 := by
  unfold openCollection compareCode
  repeat' split
  · exact .refl s
  · exact .refl s
  · rw [openWindow_eq]
    exact .of_view rfl
  · exact .of_view rfl
  · exact .trans (t := { s with coin := { s.coin with
      wrongCodes := 0, lockoutUntil := some (s.now + Config.collectionLockout) } }) (.of_view rfl)
      (raise_calm srcBoxDoor .coinUnit _)

theorem closeCollection_calm (s : State) : Calm s (closeCollection s).1 := by
  unfold closeCollection
  split
  · exact .refl s
  · simp only
    refine (settleWaiting_calm s).trans ?_
    split
    · exact .refl _
    · rename_i t p hp
      refine (postRecord_calm (rec := collectionRecord _) (fun _ => trivial) hp).trans ?_
      exact .trans (t := { t with coin := emptied t.coin }) (.of_view rfl) (autoClear_calm _ _)

theorem testGate_calm (s : State) : Calm s (testGate s).1 := by
  unfold testGate
  repeat' split
  all_goals exact .of_view rfl

theorem writeCoin_calm (k v : Nat) (s : State) : Calm s (writeCoin k v s).1 := by
  unfold writeCoin
  repeat' split
  all_goals exact .of_view rfl

theorem writeCapacity_calm (n : Nat) (s : State) : Calm s (writeCapacity n s).1 := by
  unfold writeCapacity
  split
  · exact .refl s
  · exact .trans (t := { s with cfg := { s.cfg with capacity := n } }) (.of_view rfl)
      ((checkNear_calm _).trans (checkFull_calm _ _))

theorem writeCode_calm (code : Digits) (s : State) : Calm s (writeCode code s).1 := by
  unfold writeCode
  split <;> exact .of_view rfl

end Sys2Proof.Proofs
end

section
/-! PROOFS. The call, its metering and its line keep the money laws. -/

namespace Sys2Proof.Proofs

open Sys2Proof Sys2Proof.Machine Sys2Proof.Laws

variable {s : State}

/-! ### Clearing and metering (R74, R75, R103 to R111) -/

theorem fixOutcome_calm (o : CallOutcome) (r : Option Reason) (s : State) : Calm s (fixOutcome o r s) :=
  .of_eq (by simp) (by simp) (by simp) (by simp)

theorem postOrder_calm (o : Owner) (b : OrderBody) (s : State) : Calm s (postOrder o b s) :=
  .of_callSide (postOrder_callSide o b s)

theorem stopCallWork_calm (s : State) : Calm s (stopCallWork s) :=
  .trans (t := stopMetering (stopCallTimer s)) (.of_eq (by simp) (by simp) (by simp) (by simp)) (.of_view rfl)

theorem enterClearing_calm (o : CallOutcome) (s : State) : Calm s (enterClearing o s) :=
  (fixOutcome_calm o none s).trans ((stopCallWork_calm _).trans ((postOrder_calm _ _ _).trans (setCallState_calm _ _)))

theorem forcedClear_calm (s : State) : Calm s (forcedClear s) := by
  unfold forcedClear
  simp only
  split
  · exact .trans (t := { s with tariff := { s.tariff with meter := { s.tariff.meter with
      state := .forced, periodUntil := none } } }) (.of_view rfl) (enterClearing_calm _ _)
  · exact .of_view rfl

theorem judge_calm (amount : Nat) (s : State) : Calm s (judge amount s) := .of_callSide (judge_callSide amount s)

theorem setMeter_calm (m : Metering) (s : State) : Calm s (setMeter m s) := .of_view rfl

theorem startStep_calm (first : Bool) (e : TariffEntry) (s : State) : Calm s (startStep first e s) := by
  unfold startStep
  simp only
  split
  · exact (setMeter_calm _ s).trans (.of_callSide (sendOk_callSide _))
  · exact setMeter_calm _ s

theorem setThreshold_calm (s : State) : Calm s (setThreshold s) := (setMeter_calm _ s).trans (judge_calm _ _)

theorem warningPoint_calm (s : State) : Calm s (warningPoint s) := (setMeter_calm _ s).trans (judge_calm _ _)

theorem stepDue_sound (first : Bool) (h : MoneySound s) : MoneySound (stepDue first s) := by
  unfold stepDue
  simp only
  split
  · exact (forcedClear_calm s).sound h
  · split
    · exact (startStep_calm _ _ _).sound (charge_sound _ h)
    · exact (forcedClear_calm _).sound (charge_sound _ h)
    · exact (setMeter_calm _ s).sound h
    · exact (setMeter_calm _ s).sound h

theorem afterConnection_sound (h : MoneySound s) : MoneySound (afterConnection s) := by
  unfold afterConnection
  simp only
  split
  · exact ((setMeter_calm _ s).trans (setThreshold_calm _)).sound h
  · split
    · exact stepDue_sound true h
    · exact (setMeter_calm _ s).sound h

theorem connectionCharge_sound (h : MoneySound s) : MoneySound (connectionCharge s) := by
  unfold connectionCharge
  simp only
  split
  · exact afterConnection_sound h
  split
  · refine (forcedClear_calm _).sound ?_
    split
    · exact h
    · exact charge_sound _ h
  split
  · exact afterConnection_sound (charge_sound _ h)
  · exact (forcedClear_calm _).sound (charge_sound _ h)
  · exact (setMeter_calm _ s).sound h
  · exact (setMeter_calm _ s).sound h

theorem startMetering_sound (row : List TariffEntry) (h : MoneySound s) : MoneySound (startMetering row s) := by
  unfold startMetering
  split
  · exact h
  · exact connectionCharge_sound ((setMeter_calm _ s).sound h)

theorem meterPulse_sound (h : MoneySound s) : MoneySound (meterPulse s) := by
  unfold meterPulse
  split
  · exact h
  simp only
  split
  · exact ((setMeter_calm _ _).trans (setThreshold_calm _)).sound (charge_sound _ h)
  · exact ((setMeter_calm _ _).trans (forcedClear_calm _)).sound (charge_sound _ h)
  · exact (setMeter_calm _ s).sound h
  · exact (setMeter_calm _ s).sound h

theorem answerCall_sound (h : MoneySound s) : MoneySound (answerCall s) := by
  have calm : Calm s { setCallState .connected (stopCallTimer s) with
      call := { (setCallState .connected (stopCallTimer s)).call with
        bandAtAnswer := some (bandInForce (setCallState .connected (stopCallTimer s)))
        connectedSince := some (setCallState .connected (stopCallTimer s)).now, duration := 0 } } :=
    .trans (t := stopCallTimer s) (.of_view rfl) (.trans (setCallState_calm .connected _) (.of_view rfl))
  unfold answerCall
  simp only
  split
  · exact startMetering_sound _ (calm.sound h)
  · exact calm.sound h

/-! ### The number (R44 to R68) -/

theorem stopAnalysis_calm (s : State) : Calm s (stopAnalysis s) := .of_eq (by simp) (by simp) (by simp) (by simp)

theorem enterWaitLine_calm (s : State) : Calm s (enterWaitLine s) := .of_callSide (enterWaitLine_callSide s)

theorem takeAcceptance_calm (a : Acceptance) (s : State) : Calm s (takeAcceptance a s) := by
  unfold takeAcceptance
  split
  · exact enterWaitLine_calm s
  · exact (setCallState_calm .waitCoins s).trans (.of_view rfl)

theorem acceptNumber_calm (e : PlanEntry) (s : State) : Calm s (acceptNumber e s) :=
  .trans (t := { s with
    call := { s.call with acceptance := some (acceptanceOf e s) }
    analyser := { s.analyser with
      state := .decided, timer := none
      decision := some (.accepted (acceptanceOf e s).cls (acceptanceOf e s).metered (acceptanceOf e s).deposit) } }) (.of_view rfl)
    ((postNotice_calm _ _ _).trans (takeAcceptance_calm _ _))

theorem refuseNumber_calm (r : Reason) (s : State) : Calm s (refuseNumber r s) :=
  .trans (t := { s with
    call := { s.call with acceptance := none }
    analyser := { s.analyser with state := .decided, timer := none, decision := some (.refused r) } }) (.of_view rfl)
    ((postNotice_calm _ _ _).trans ((fixOutcome_calm _ _ _).trans (setCallState_calm _ _)))

theorem decideNumber_calm (e : PlanEntry) (s : State) : Calm s (decideNumber e s) := by
  unfold decideNumber
  split
  · exact refuseNumber_calm _ s
  · exact acceptNumber_calm e s

theorem analyseDigit_calm (d : Nat) (s : State) : Calm s (analyseDigit d s) := by
  unfold analyseDigit
  simp only
  refine .trans (t := { s with analyser := { s.analyser with
    buffer := s.analyser.buffer ++ [d], timer := none, decision := none } }) (.of_view rfl) ?_
  split
  · exact refuseNumber_calm _ _
  split
  · exact .of_view rfl
  · split
    · exact decideNumber_calm _ _
    · exact .of_view rfl

theorem interDigitEnds_calm (s : State) : Calm s (interDigitEnds s) := by
  unfold interDigitEnds
  split
  · exact refuseNumber_calm _ s
  · split
    · exact decideNumber_calm _ s
    · exact refuseNumber_calm _ s

theorem postTone_calm (s : State) : Calm s (postTone s) := by
  unfold postTone
  split
  · exact .refl s
  · rename_i rest _
    split
    · exact .trans (t := { s with call := { s.call with afterDial := rest } }) (.of_view rfl) (postOrder_calm _ _ _)
    · exact .refl s

theorem keyForDigit_calm (d : Nat) (s : State) : Calm s (keyForDigit d s).1 := by
  have queues : Calm s (queueDigit d s).1 := by
    unfold queueDigit
    split
    · exact .refl s
    · exact .trans (t := { s with call := { s.call with afterDial := s.call.afterDial ++ [d] } }) (.of_view rfl) (postTone_calm _)
  unfold keyForDigit
  split
  · exact analyseDigit_calm d s
  · exact queues
  · exact queues
  all_goals exact .refl s

theorem abandonNumber_calm (s : State) : Calm s (abandonNumber s) :=
  .trans (t := startAnalysis { stopCallTimer s with call := { (stopCallTimer s).call with acceptance := none } }) (.of_view rfl)
    (setCallState_calm _ _)

theorem keyForCancel_calm (s : State) : Calm s (keyForCancel s).1 := by
  unfold keyForCancel
  split
  · exact .of_view rfl
  · exact abandonNumber_calm s
  · exact .trans (t := withdrawCustomerClaim s) (.of_view rfl) (abandonNumber_calm _)
  all_goals exact .refl s

theorem keyForFollowOn_sound (h : MoneySound s) : MoneySound (keyForFollowOn s).1 := by
  have clears : MoneySound (enterClearing .answered (markFollowOn s)) :=
    (Calm.trans (s := s) (t := markFollowOn s) (.of_view rfl) (enterClearing_calm _ _)).sound h
  unfold keyForFollowOn
  split
  · exact clears
  · exact clears
  · split
    · exact h
    · exact h.of_view (t := markFollowOn s) rfl
  · split
    · exact beginCarry_sound (h.of_view (t := markFollowOn (stopCallTimer s)) rfl)
    · exact h
  all_goals exact h

theorem keyPressed_sound (key : Nat) (h : MoneySound s) : MoneySound (keyPressed key s).1 := by
  unfold keyPressed
  split
  · exact (keyForDigit_calm key s).sound h
  split
  · exact keyForFollowOn_sound h
  split
  · exact (keyForCancel_calm s).sound h
  · exact h

/-! ### The beginning and the end of a call (R64, R76 to R87) -/

theorem openAccount_sound (h : MoneySound s) : MoneySound (openAccount s) := by
  unfold openAccount
  split
  · exact ⟨h.held.opened (by assumption), h.saves, h.scanned⟩
  · exact h

theorem beginCall_sound (h : MoneySound s) : MoneySound (beginCall s) := by
  have calm : Calm (openAccount s) (beginCall s) :=
    .trans (t := startAnalysis { openAccount s with call := { (openAccount s).call with
      startTime := timeOfDay (openAccount s), connectedSince := none, duration := 0, bandAtAnswer := none, steps := 0 } })
      (.of_view rfl) (setCallState_calm _ _)
  exact calm.sound (openAccount_sound h)

theorem postCallRecord_calm (f : Figures) (forfeited : Option Nat) (followOn : Bool) (s : State) :
    Calm s (postCallRecord f forfeited followOn s) := by
  unfold postCallRecord
  split
  · exact postCallRing_calm (rec := .call _) (fun _ => trivial) s
  · exact .refl s

theorem tellCallEnded_calm (s : State) : Calm s (tellCallEnded s) := by
  unfold tellCallEnded
  split <;> exact .of_view rfl

theorem takeHeldOffHook_sound (h : MoneySound s) : MoneySound (takeHeldOffHook s) := by
  unfold takeHeldOffHook
  split
  · exact beginCall_sound (h.of_view (t := { s with call := { s.call with heldOffHook := false } }) rfl)
  · exact h

theorem finishCall_sound (f : Figures) (forfeited : Nat) (h : MoneySound s) : MoneySound (finishCall f forfeited s) := by
  have calm := (postCallRecord_calm f (some forfeited) false s).sound h
  unfold finishCall
  refine takeHeldOffHook_sound ((tellCallEnded_calm _).sound ((setCallState_calm _ _).sound ?_))
  exact ⟨calm.held, calm.saves, calm.scanned⟩

theorem settleAccount_sound (h : MoneySound s) : MoneySound (settleAccount s) := by
  unfold settleAccount
  split
  · exact finishCall_sound _ _ h
  · rename_i hp
    exact leaveFlightStage_sound ⟨h.held.rephase (by simp) (by simp [hp]) (by simp), h.saves, h.scanned⟩
  · exact h

theorem enterSettling_sound (h : MoneySound s) : MoneySound (enterSettling s) :=
  settleAccount_sound ((Calm.trans (s := s) (t := stopCallTimer s) (.of_view rfl) (setCallState_calm _ _)).sound h)

theorem leaveByMarks_sound (h : MoneySound s) : MoneySound (leaveByMarks s) := by
  unfold leaveByMarks
  split
  · exact enterSettling_sound h
  split
  · exact beginCarry_sound ((setCallState_calm _ _).sound h)
  · exact ((setCallState_calm .afterCall s).sound h).of_view rfl

theorem callFailed_sound (h : MoneySound s) : MoneySound (callFailed s) := by
  have fails : MoneySound (leaveByMarks (stopCallWork (fixOutcome .failed none s))) :=
    leaveByMarks_sound (((fixOutcome_calm _ _ _).trans (stopCallWork_calm _)).sound h)
  unfold callFailed
  split
  · exact fails
  · exact fails
  · exact fails
  · exact fails
  · exact leaveByMarks_sound h
  all_goals exact h

theorem releaseDone_sound (h : MoneySound s) : MoneySound (releaseDone s) := by
  unfold releaseDone
  split
  · exact leaveByMarks_sound h
  · exact h

theorem hangUpCall_sound (h : MoneySound s) : MoneySound (hangUpCall s) := by
  have clears (o : CallOutcome) : MoneySound (enterClearing o (markHangUp s)) :=
    (Calm.trans (s := s) (t := markHangUp s) (.of_view rfl) (enterClearing_calm _ _)).sound h
  unfold hangUpCall
  split
  · exact h
  · exact enterSettling_sound (((stopAnalysis_calm s).trans (fixOutcome_calm _ _ _)).sound h)
  · exact enterSettling_sound ((fixOutcome_calm _ _ _).sound h)
  · exact enterSettling_sound ((Calm.trans (s := s) (t := withdrawCustomerClaim s) (.of_view rfl) (fixOutcome_calm _ _ _)).sound h)
  · exact clears _
  · exact clears _
  · exact clears _
  · exact clears _
  · exact h.of_view (t := markHangUp s) rfl
  · exact enterSettling_sound h
  · exact enterSettling_sound h
  · exact h.of_view (t := { s with call := { s.call with heldOffHook := false } }) rfl

theorem endCallForRestart_sound (h : MoneySound s) : MoneySound (endCallForRestart s) := by
  have ordered : MoneySound { s with call := { s.call with restartEnd := true, heldOffHook := false } } :=
    ⟨h.held, h.saves, h.scanned⟩
  unfold endCallForRestart
  split
  · exact h
  · simp only
    split
    · exact (tellCallEnded_calm _).sound ordered
    · exact hangUpCall_sound ordered

/-! ### The account's ends (R37, R40) -/

theorem carryCompletes_sound (h : MoneySound s) (hp : s.account.phase = .opened true) (hn : s.account.n = 0) :
    MoneySound (carryCompletes s) := by
  have carried : MoneySound { s with account := carriedAccount s.account } := ⟨h.held.carried hp hn, h.saves, h.scanned⟩
  have posted := (postCallRecord_calm (figuresOf s.account) none true _).sound carried
  unfold carryCompletes
  refine reportCredit_sound ((setCallState_calm _ _).sound ?_)
  exact ⟨posted.held, posted.saves, posted.scanned⟩

theorem refundsOver_iff (s : State) : refundsOver s = true ↔
    s.coin.gateOp = none ∧ s.coin.escrow = [] ∧ .collect ∉ s.coin.gateQueue
      ∧ (.refundAll ∈ s.coin.gateQueue → gateMayStart s = true) := by
  simp [refundsOver, and_assoc, or_iff_not_imp_left]

theorem settlementEnds_sound (h : MoneySound s) : MoneySound (settlementEnds s) := by
  unfold settlementEnds
  split
  · split
    · rename_i hover
      obtain ⟨hop, hlist, hcollect, -⟩ := (refundsOver_iff s).1 hover
      have ended : MoneySound { s with
          account := {}, coin := { s.coin with gateQueue := s.coin.gateQueue.filter (· != .refundAll) } } := by
        refine ⟨?_, h.saves, h.scanned⟩
        show MoneyHeld {} s.coin.escrow (s.coin.gateQueue.filter (· != .refundAll)) s.coin.gateOp
        rw [hop, hlist]
        exact moneyHeld_settled hcollect
      unfold settled
      simp only
      split
      · split
        · exact (setRecovery_calm (by simp) _).sound ended
        · exact ended
      · exact finishCall_sound _ _ ended
    · exact h
  · exact h

/-! ### The line (R113 to R128) -/

theorem setOwner_calm (o : Owner) (s : State) : Calm s (setOwner o s) := .of_callSide (setOwner_callSide o s)

theorem freeLine_calm (s : State) : Calm s (freeLine s) := .trans (t := emptySlot s) (.of_view rfl) (setOwner_calm _ _)

theorem grantCustomer_calm (s : State) : Calm s (grantCustomer s) := .of_callSide (grantCustomer_callSide s)

theorem grantWaitingCustomer_calm (s : State) : Calm s (grantWaitingCustomer s) :=
  .trans (t := { s with line := { s.line with waitingCustomer := none } }) (.of_view rfl) (grantCustomer_calm _)

theorem grantReport_calm (s : State) : Calm s (grantReport s) :=
  .of_same (grantReport_same s) fun h => by rwa [(grantReport_weighed s).store]

theorem grantWaitingReport_calm (s : State) : Calm s (grantWaitingReport s) := by
  unfold grantWaitingReport
  simp only
  refine .trans (t := { s with line := { s.line with waitingReport := none } }) (.of_view rfl) ((grantReport_calm _).trans ?_)
  split
  · exact grantWaitingCustomer_calm _
  · exact .refl _

theorem arbiter_calm (s : State) : Calm s (arbiter s) := by
  unfold arbiter
  split
  · exact grantWaitingCustomer_calm s
  · exact grantWaitingReport_calm s
  · exact grantWaitingCustomer_calm s
  · exact grantWaitingCustomer_calm s
  · exact grantWaitingReport_calm s
  · exact .refl s

theorem handOn_calm (s : State) : Calm s (handOn s) := by
  unfold handOn
  split
  · exact .trans (t := { s with line := { s.line with preempting := none } }) (.of_view rfl) (grantCustomer_calm _)
  · exact arbiter_calm s

theorem endCentreSession_calm (c : CentreCause) (s : State) : Calm s (endCentreSession c s) :=
  .trans (t := { s with line := { s.line with centreUntil := none } }) (.of_view rfl) (postNotice_calm _ _ _)

theorem leaveReporting_calm (m : AlarmMove) (i : Nat) (s : State) : Calm s (leaveReporting m i s) := by
  unfold leaveReporting
  split
  · exact .refl s
  · rename_i t h
    split
    · exact (moveSource_calm h).trans (clearSource_calm _ _ _)
    · exact moveSource_calm h

theorem deliverItem_calm (i : BatchItem) (s : State) : Calm s (deliverItem i s) := by
  refine (leaveReporting_calm .delivered i.source s).trans ?_
  unfold deliverItem
  simp only
  cases h : moveSource .resumed i.source (leaveReporting .delivered i.source s) with
  | none => exact .refl _
  | some t => exact moveSource_calm h

theorem forItems_calm {f : BatchItem → State → State} (hf : ∀ i s, Calm s (f i s)) (l : List BatchItem) (s : State) :
    Calm s (forItems f l s) := by
  induction l generalizing s with
  | nil => exact .refl s
  | cons i rest ih => exact (hf i s).trans (ih _)

theorem postReportEnded_calm (o : ReportOutcome) (dialled : Centre) (items backoff : Nat) (s : State) :
    Calm s (postReportEnded o dialled items backoff s) := postNotice_calm _ _ _

theorem setReport_calm (r : Report) (s : State) : Calm s { s with report := r } := .of_view rfl

theorem reportDelivered_calm (s : State) : Calm s (reportDelivered s) := by
  have items := (forItems_calm deliverItem_calm s.report.batch s).trans
    (forItems_calm (fun i => postReportedMark_calm i.place) s.report.batch _)
  unfold reportDelivered
  simp only
  generalize forItems (fun i => postReportedMark i.place) s.report.batch (forItems deliverItem s.report.batch s) = u
    at items ⊢
  exact ((items.trans (setReport_calm _ u)).trans (postReportEnded_calm _ _ _ _ _)).trans (setReport_calm _ _)

theorem returnItems_calm (l : List BatchItem) (s : State) : Calm s (forItems returnItem l s) :=
  forItems_calm (fun i => leaveReporting_calm .returned i.source) l s

theorem reportFailed_calm (o : ReportOutcome) (s : State) : Calm s (reportFailed o s) := by
  have items := returnItems_calm s.report.batch s
  unfold reportFailed
  simp only
  generalize forItems returnItem s.report.batch s = u at items ⊢
  exact ((items.trans (setReport_calm _ u)).trans (postReportEnded_calm _ _ _ _ _)).trans (setReport_calm _ _)

theorem reportAborted_calm (s : State) : Calm s (reportAborted s) := by
  have items := returnItems_calm s.report.batch s
  unfold reportAborted
  simp only
  generalize forItems returnItem s.report.batch s = u at items ⊢
  exact (items.trans (postReportEnded_calm _ _ _ _ _)).trans (setReport_calm _ _)

theorem reportEnded_calm (o : ReportOutcome) (s : State) : Calm s (reportEnded o s) := by
  unfold reportEnded
  refine (settleWaiting_calm s).trans ?_
  cases o with
  | delivered => exact reportDelivered_calm _
  | aborted => exact reportAborted_calm _
  | noAnswer | busy | failed => exact reportFailed_calm _ _

theorem tellFailed_sound (o : Owner) (c : CentreCause) (h : MoneySound s) : MoneySound (tellFailed o c s) := by
  cases o with
  | customer => exact callFailed_sound h
  | report => exact (reportEnded_calm .failed s).sound h
  | centre => exact (endCentreSession_calm c s).sound h
  | nobody => exact h

theorem weighAfter_calm (o : Owner) (s : State) : Calm s (weighAfter o s) := by
  unfold weighAfter
  split
  · exact weigh_calm s
  · exact .refl s

theorem failOwnership_sound (c : CentreCause) (h : MoneySound s) : MoneySound (failOwnership c s) := by
  unfold failOwnership
  simp only
  split
  · exact h
  · exact ((handOn_calm _).trans (weighAfter_calm _ _)).sound (tellFailed_sound _ c ((freeLine_calm s).sound h))

theorem abortDone_calm (atLimit : Bool) (s : State) : Calm s (abortDone atLimit s) := by
  unfold abortDone
  simp only
  refine .trans (.trans (freeLine_calm s) ?_) ((handOn_calm _).trans (weighAfter_calm _ _))
  split
  · exact reportEnded_calm _ _
  · exact endCentreSession_calm _ _
  · exact .refl _
  · exact .refl _

theorem connectDone_calm (o : OrderOutcome) (s : State) : Calm s (connectDone o s) := by
  unfold connectDone
  split
  · exact .refl s
  split
  · exact (setCallState_calm .alerting s).trans (.of_view rfl)
  · exact enterClearing_calm _ s

theorem endOrder_sound (body : OrderBody) (o : OrderOutcome) (h : MoneySound s) : MoneySound (endOrder body o s) := by
  have emptied : MoneySound (emptySlot s) := ⟨h.held, h.saves, h.scanned⟩
  cases body with
  | connect => exact (connectDone_calm o _).sound emptied
  | tone => exact (postTone_calm _).sound emptied
  | release => exact (arbiter_calm _).sound (releaseDone_sound ((freeLine_calm s).sound h))
  | report =>
    exact ((reportEnded_calm _ _).trans ((arbiter_calm _).trans (weigh_calm _))).sound ((freeLine_calm s).sound h)
  | abort atLimit => exact (abortDone_calm atLimit s).sound h

theorem completeOrder_sound (kind : OrderKind) (number : Nat) (outcome : OrderOutcome) (h : MoneySound s) :
    MoneySound (completeOrder kind number outcome s).1 := by
  unfold completeOrder
  split
  · exact h
  split
  · exact h
  · exact endOrder_sound _ _ h

theorem orderDone_sound (kind : Option OrderKind) (number : Nat) (outcome : Option OrderOutcome) (h : MoneySound s) :
    MoneySound (orderDone kind number outcome s).1 := by
  unfold orderDone
  split
  · split
    · exact completeOrder_sound _ _ _ h
    · exact h
  · exact h

theorem callEvent_sound (fits : CallState → Bool) {effect : State → State} (he : MoneySound s → MoneySound (effect s))
    (h : MoneySound s) : MoneySound (callEvent fits effect s).1 := by
  unfold callEvent
  split
  · exact he h
  · exact h

theorem lineLost_sound (h : MoneySound s) : MoneySound (lineLost s) := by
  have raised := (raise_calm srcLineFault .lineAllocator s).sound h
  unfold lineLost
  split
  · exact raised
  · exact failOwnership_sound _ raised

theorem orderLimitEnds_sound (h : MoneySound s) : MoneySound (orderLimitEnds s) := by
  unfold orderLimitEnds
  split
  · exact h
  · exact failOwnership_sound _ ((raise_calm _ _ s).sound h)

theorem claimCentre_calm (s : State) : Calm s (claimCentre s).1 := by
  unfold claimCentre
  split
  · exact .trans (t := { s with line := { s.line with centreUntil := some (s.now + Config.centreSession) } }) (.of_view rfl)
      (setOwner_calm .centre _)
  · exact .refl s

theorem endCentre_calm (s : State) : Calm s (endCentre s).1 := by
  unfold endCentre
  split
  · exact (freeLine_calm s).trans ((endCentreSession_calm .ended _).trans (handOn_calm _))
  · exact .refl s

theorem centreSessionEnds_calm (s : State) : Calm s (centreSessionEnds s) := by
  unfold centreSessionEnds
  split
  · exact .trans (t := { s with line := { s.line with centreUntil := none } }) (.of_view rfl) (postOrder_calm _ _ _)
  · exact .refl s

theorem fetchOrder_calm (part : Nat) (s : State) : Calm s (fetchOrder part s).1 := by
  unfold fetchOrder
  repeat' split
  all_goals exact .of_view rfl

/-! ### The hook -/

theorem offHookEvent_sound (h : MoneySound s) : MoneySound (offHookEvent s) := by
  have lifted : MoneySound { s with call := { s.call with hook := .off } } := ⟨h.held, h.saves, h.scanned⟩
  have held : MoneySound { s with call := { s.call with hook := .off, heldOffHook := true } } := ⟨h.held, h.saves, h.scanned⟩
  unfold offHookEvent
  split
  · exact h
  simp only
  split
  · exact lifted
  split
  · exact beginCall_sound lifted
  · exact held
  · split
    · exact held
    · exact lifted
  all_goals exact lifted

theorem hookWatched_scanned (h : hookWatched s = true) : recoveryPending s = false := by
  simp only [hookWatched, recovering, Bool.and_eq_true, Bool.not_eq_true', Option.isSome_eq_false_iff,
    Option.isNone_iff_eq_none] at h
  simp [recoveryPending, h.2]

theorem offHook_laws (h : MoneyLaws s) : MoneyLaws (offHook s) := by
  have calm : Calm s { s with call := { s.call with hookInput := true, holdFrom := none } } := .of_view rfl
  unfold offHook
  simp only
  split
  · exact calm.laws h
  · rename_i hw
    simp only [Bool.or_eq_true, Bool.not_eq_true', not_or, Bool.not_eq_false] at hw
    exact (offHookEvent_sound (calm.sound (.of_laws h (hookWatched_scanned hw.1.1)))).laws

theorem onHook_laws (h : MoneyLaws s) : MoneyLaws (onHook s) := by
  unfold onHook
  split
  · rename_i hw
    rw [Bool.and_eq_true] at hw
    have sound := MoneySound.of_laws h (hookWatched_scanned hw.1)
    have down : MoneySound { s with call := { s.call with hook := .on, holdFrom := none, heldOffHook := false } } :=
      sound.of_view rfl
    exact (hangUpCall_sound down).laws
  · exact h

theorem hookFalls_calm (s : State) : Calm s (hookFalls s) := by
  unfold hookFalls
  split <;> exact .of_view rfl

theorem refuseCall_calm (r : Reason) (s : State) : Calm s (refuseCall r s) :=
  .trans (t := stopCallTimer s) (.of_view rfl) ((fixOutcome_calm _ _ _).trans (setCallState_calm _ _))

end Sys2Proof.Proofs
end

section
/-! PROOFS. Setups, tariff, clock, alarms and ports keep the money laws. -/

namespace Sys2Proof.Proofs

open Sys2Proof Sys2Proof.Machine Sys2Proof.Laws

variable {s : State}

theorem setCfg_calm (c : Configuration) (s : State) : Calm s { s with cfg := c } := .of_view rfl

theorem setTariff_calm (t : Tariff) (s : State) : Calm s { s with tariff := t } := .of_view rfl

theorem setStore_calm {st : Store} (h : SavesBalanced s.store → SavesBalanced st) : Calm s { s with store := st } :=
  ⟨rfl, rfl, rfl, rfl, h, id⟩

/-! ### The tariff unit (R89 to R102) -/

theorem cancelSchedule_calm (s : State) : Calm s (cancelSchedule s) := by
  unfold cancelSchedule
  split
  · exact .refl s
  · exact (setTariff_calm _ s).trans (postNotice_calm _ _ _)

theorem writeTariff_calm (cls band : Nat) (e : Option TariffFields) (s : State) : Calm s (writeTariff cls band e s).1 := by
  unfold writeTariff
  split
  · exact .refl s
  · exact (setTariff_calm _ s).trans (cancelSchedule_calm _)

theorem postCommit_calm (s : State) : Calm s (postCommit s).1 := by
  have waiting := settleWaiting_calm s
  unfold postCommit
  simp only
  split
  · exact waiting
  · split
    · rename_i st he
      exact waiting.trans (setStore_calm fun h => enqueue_saves (op := .commit) trivial h he)
    · exact waiting

theorem activate_calm (c : ActivationCause) (s : State) : Calm s (activate c s) := by
  unfold activate
  refine .trans (.trans ?_ (postCommit_calm _)) (postNotice_calm _ _ _)
  exact .of_view rfl

theorem compareSchedule_calm (s : State) : Calm s (compareSchedule s) := by
  unfold compareSchedule
  split
  · exact .refl s
  · split
    · exact activate_calm _ s
    · exact setTariff_calm _ s

theorem activateTariff_calm (time : Option DateTime) (s : State) : Calm s (activateTariff time s).1 := by
  have schedules (t : DateTime) : Calm s (scheduleActivation t s).1 := by
    unfold scheduleActivation
    split
    · exact activate_calm _ s
    · exact .of_view rfl
  unfold activateTariff
  split
  · split
    · exact .refl s
    · exact activate_calm _ s
  · split
    · exact .refl s
    split
    · exact .refl s
    · exact schedules _

theorem setClock_calm (t : DateTime) (s : State) : Calm s (setClock t s).1 := by
  unfold setClock
  split
  · exact .refl s
  · exact (setTariff_calm _ s).trans (compareSchedule_calm _)

theorem writeDayType_calm (d : Option DayType) (points : List (Nat × Nat)) (s : State) : Calm s (writeDayType d points s).1 := by
  unfold writeDayType
  repeat' split
  all_goals exact .of_view rfl

theorem writeHoliday_calm (slot : Nat) (d : Option Date) (s : State) : Calm s (writeHoliday slot d s).1 := by
  unfold writeHoliday
  repeat' split
  all_goals exact .of_view rfl

theorem clockEnds_calm (s : State) : Calm s (clockEnds s) := by
  unfold clockEnds
  split
  · exact .refl s
  · exact (setTariff_calm _ s).trans (postNotice_calm _ _ _)

theorem writePlan_calm (entry : Nat) (f : PlanFields) (s : State) : Calm s (writePlan entry f s).1 := by
  unfold writePlan
  repeat' split
  all_goals exact .of_view rfl

theorem writeInterDigit_calm (n : Nat) (s : State) : Calm s (writeInterDigit n s).1 := by
  unfold writeInterDigit
  split <;> exact .of_view rfl

theorem writeRing_calm (n : Nat) (s : State) : Calm s (writeRing n s).1 := by
  unfold writeRing
  split <;> exact .of_view rfl

/-! ### The alarm and report units (R130 to R164) -/

theorem deriveService_calm (s : State) : Calm s (deriveService s) := by
  unfold deriveService
  split
  · exact .refl s
  · exact .trans (t := { s with freeCount := s.freeCount + 1, alarm := { s.alarm with service := derivedService s } })
      (.of_view rfl) (postNotice_calm _ _ _)

theorem writeSourceSetup_calm (i : Nat) (v : Option Severity) (m : Option Bool) (e : Option Effect) (s : State) :
    Calm s (writeSourceSetup i v m e s).1 := by
  unfold writeSourceSetup
  split
  · split
    · exact .refl s
    · exact (setCfg_calm _ s).trans ((deriveService_calm _).trans (weigh_calm _))
  · exact .refl s

theorem writeSensorSetup_calm (i : Nat) (mode : Option SensorMode) (threshold window : Nat) (s : State) :
    Calm s (writeSensorSetup i mode threshold window s).1 := by
  unfold writeSensorSetup
  repeat' split
  all_goals exact .of_view rfl

theorem writeThreshold_calm (t : Option Severity) (s : State) : Calm s (writeThreshold t s).1 := by
  unfold writeThreshold
  split
  · exact .refl s
  · exact (setCfg_calm _ s).trans (weigh_calm _)

theorem writePriority_calm (m : Option PriorityMode) (s : State) : Calm s (writePriority m s).1 := by
  unfold writePriority
  split
  · exact .refl s
  · exact (setCfg_calm _ s).trans (weigh_calm _)

theorem writePrimary_calm (n : Digits) (s : State) : Calm s (writePrimary n s).1 := by
  unfold writePrimary
  split
  · exact (setCfg_calm _ s).trans (weigh_calm _)
  · exact .refl s

theorem writeFallback_calm (n : Digits) (s : State) : Calm s (writeFallback n s).1 := by
  unfold writeFallback
  split
  · exact (setCfg_calm _ s).trans (weigh_calm _)
  · exact .refl s

theorem clearByHand_calm (p : Port) (i : Nat) (s : State) : Calm s (clearByHand p i s).1 := by
  unfold clearByHand
  split
  · exact .refl s
  · exact .refl s
  · exact clearSource_calm _ _ s
  · exact clearSource_calm _ _ s

theorem clearAlarm_calm (p : Port) (i : Nat) (s : State) : Calm s (clearAlarm p i s).1 := by
  unfold clearAlarm
  split
  · exact .refl s
  split
  · exact .refl s
  split
  · exact .refl s
  split
  · exact .refl s
  · exact (settleWaiting_calm s).trans (clearByHand_calm _ _ _)

theorem sensorEdge_calm (i : Nat) (high : Bool) (s : State) : Calm s (sensorEdge i high s) := by
  unfold sensorEdge
  simp only
  split
  · exact .refl s
  split
  · exact .of_view rfl
  split
  · exact .trans (t := setSensor i _ s) (.of_view rfl) (raise_calm _ _ _)
  · exact .of_view rfl

theorem ackSources_calm (l : List Nat) (s : State) : Calm s (ackSources l s).1 := by
  induction l generalizing s with
  | nil => exact .refl s
  | cons i rest ih =>
    unfold ackSources
    split
    · exact ih s
    · rename_i t h
      exact (moveSource_calm h).trans ((postReportedMark_calm _ _).trans (ih _))

theorem ackAlarms_calm (l : List Nat) (s : State) : Calm s (ackAlarms l s).1 := by
  unfold ackAlarms
  split
  · exact .refl s
  · exact (ackSources_calm _ s).trans (weigh_calm _)

theorem backoffEnds_calm (s : State) : Calm s (backoffEnds s) := by
  unfold backoffEnds
  split
  · exact (setReport_calm _ s).trans (weigh_calm _)
  · exact .refl s

/-! ### The ports (R200 to R211) -/

theorem updatePort_calm (p : Port) (f : PortState → PortState) (s : State) : Calm s (updatePort p f s) := .of_view rfl

theorem answerPort_calm (p : Port) (r : Reply) (s : State) : Calm s (answerPort p r s) := updatePort_calm p _ s

theorem resumeErase_saves {st : Store} (h : SavesBalanced st) : SavesBalanced (resumeErase st) := by
  unfold resumeErase
  split <;> exact h

theorem takeFrame_calm (p : Port) (s : State) : Calm s (takeFrame p s) := by
  unfold takeFrame
  simp only
  split
  · exact (updatePort_calm p _ s).trans (setStore_calm fun h => resumeErase_saves (by exact h))
  · exact updatePort_calm p _ s

theorem setNoticeMask_calm (p : Port) (m : Nat) (s : State) : Calm s (setNoticeMask p m s).1 := by
  unfold setNoticeMask
  split <;> exact .of_view rfl

theorem frameEnds_calm (p : Port) (bytes : List Byte) (s : State) : Calm s (frameEnds p bytes s) := by
  unfold frameEnds
  split
  · exact .refl s
  split
  · exact .refl s
  · exact (takeFrame_calm p s).trans (answerPort_calm p _ _)

theorem takeRequest_calm (q : Request) (p : Port) {owner : State → State × Reply} (ho : ∀ s, Calm s (owner s).1) (s : State) :
    Calm s (takeRequest q p owner s) := by
  have refused (r : Reply) : Calm s (answerPort p r (takeFrame p s)) := (takeFrame_calm p s).trans (answerPort_calm p _ _)
  unfold takeRequest
  split
  · exact .refl s
  split
  · exact refused _
  split
  · exact refused _
  · exact (takeFrame_calm p s).trans ((ho _).trans (answerPort_calm p _ _))

/-- An owner that recovery keeps waiting meets no part whose scan is still to run (R192). -/
theorem takeRequest_laws {q : Request} (p : Port) {owner : State → State × Reply} (hq : answeredInRecovery q = false)
    (ho : ∀ {s}, MoneySound s → MoneySound (owner s).1) (h : MoneyLaws s) : MoneyLaws (takeRequest q p owner s) := by
  have refused (r : Reply) : MoneyLaws (answerPort p r (takeFrame p s)) :=
    ((takeFrame_calm p s).trans (answerPort_calm p _ _)).laws h
  unfold takeRequest
  split
  · exact h
  split
  · exact refused _
  split
  · exact refused _
  · rename_i hr
    have scanned : recoveryPending s = false := by
      simp only [hq, recovering, Bool.not_false, Bool.and_true, Bool.not_eq_true, Option.isSome_eq_false_iff,
        Option.isNone_iff_eq_none] at hr
      simp [recoveryPending, hr]
    exact ((answerPort_calm p _ _).sound (ho ((takeFrame_calm p s).sound (.of_laws h scanned)))).laws

theorem whenAwake_laws {f : State → State} (hf : ∀ {s}, MoneySound s → MoneySound (f s)) (h : MoneyLaws s) :
    MoneyLaws (whenAwake f s) := by
  unfold whenAwake
  split
  · rename_i ha
    refine (hf (.of_laws h ?_)).laws
    simp only [awake, Bool.and_eq_true] at ha
    unfold recoveryPending
    split <;> simp_all
  · exact h

theorem tick_calm (s : State) : Calm s (tick s) := .of_view rfl

end Sys2Proof.Proofs
end

section
/-! PROOFS. The record store brings in no save record that is not balanced (R41, R166 to R190). -/

namespace Sys2Proof.Proofs

open Sys2Proof Sys2Proof.Machine Sys2Proof.Laws

variable {s : State} {st st' : Store}

/-! ### The array -/

/-- Every save record that a list of places holds is balanced. -/
def CellsBalanced (l : List (Nat × Cell)) : Prop := ∀ kc ∈ l, ∀ r, kc.2.record = some (.save r) → saveBalanced r

theorem readCell_mem {key : Nat} {c : Cell} {l : List (Nat × Cell)} (h : readCell key l = some c) : (key, c) ∈ l := by
  induction l with
  | nil => cases h
  | cons y rest ih =>
    simp only [readCell] at h
    split at h
    · rename_i hk
      obtain rfl := Option.some.inj h
      exact hk ▸ List.mem_cons_self
    · exact List.mem_cons_of_mem _ (ih h)

theorem writeCell_balanced {key : Nat} {v : Cell} {l : List (Nat × Cell)}
    (hv : ∀ r, v.record = some (.save r) → saveBalanced r) (h : CellsBalanced l) : CellsBalanced (writeCell key v l) := by
  intro x hx
  rcases mem_writeCell hx with rfl | hx
  · exact hv
  · exact h x hx

theorem programBlank_balanced {key : Nat} {v : Cell} {a : NvArray}
    (hv : ∀ r, v.record = some (.save r) → saveBalanced r) (h : CellsBalanced a.cells) :
    CellsBalanced (programBlank key v a).cells := by
  unfold programBlank
  split
  · exact h
  · exact writeCell_balanced hv h

theorem programMark_balanced {key : Nat} {m : MarkKind} {a : NvArray} (h : CellsBalanced a.cells) :
    CellsBalanced (programMark key m a).cells := by
  unfold programMark
  split
  · exact h
  · rename_i c hc
    split
    · exact h
    · exact writeCell_balanced (fun r hr => h _ (readCell_mem hc) r hr) h

theorem eraseCells_balanced {sector : Nat} {l : List (Nat × Cell)} (h : CellsBalanced l) :
    CellsBalanced (eraseCells sector l) :=
  fun x hx => h x (List.mem_of_mem_filter hx)

theorem cells_balanced (h : SavesBalanced st) : CellsBalanced st.array.cells := h.1

theorem queued_balanced (h : SavesBalanced st) : ∀ op ∈ st.queue, OpBalanced op := h.2.1

theorem reserved_balanced {op : StoreOp} (h : SavesBalanced st) (hop : st.reserved = some op) : OpBalanced op :=
  have ⟨_, _, hreserved, _⟩ := h
  hreserved op hop

theorem program_balanced {j : ProgramJob} (h : SavesBalanced st) (hj : st.program = some j) : OpBalanced j.op :=
  have ⟨_, _, _, hprogram, _⟩ := h
  hprogram j hj

theorem nextSave_balanced {x : Place × SaveRecord} (h : SavesBalanced st) (hx : st.nextSave = some x) : saveBalanced x.2 :=
  have ⟨_, _, _, _, hnext⟩ := h
  hnext x hx

theorem setArray_saves {a : NvArray} (ha : CellsBalanced a.cells) (h : SavesBalanced st) :
    SavesBalanced { st with array := a } :=
  ⟨ha, h.2⟩

/-! ### The queue, the reserved place and the program in flight -/

theorem unreserved_saves (h : SavesBalanced st) : SavesBalanced { st with reserved := none } := by
  obtain ⟨hcells, hqueue, -, hprogram, hnext⟩ := h
  exact ⟨hcells, hqueue, fun _ hop => (by cases hop), hprogram, hnext⟩

theorem reserved_saves {op : StoreOp} (hop : OpBalanced op) (h : SavesBalanced st) :
    SavesBalanced { st with reserved := some op } := by
  obtain ⟨hcells, hqueue, -, hprogram, hnext⟩ := h
  exact ⟨hcells, hqueue, fun _ hx => Option.some.inj hx ▸ hop, hprogram, hnext⟩

theorem setNextSave_saves {x : Option (Place × SaveRecord)} (hx : ∀ y, x = some y → saveBalanced y.2) (h : SavesBalanced st) :
    SavesBalanced { st with nextSave := x } := by
  obtain ⟨hcells, hqueue, hreserved, hprogram, -⟩ := h
  exact ⟨hcells, hqueue, hreserved, hprogram, hx⟩

theorem setQueue_saves {q : List StoreOp} (hq : ∀ op ∈ q, OpBalanced op) (h : SavesBalanced st) :
    SavesBalanced { st with queue := q } := by
  obtain ⟨hcells, -, hreserved, hprogram, hnext⟩ := h
  exact ⟨hcells, hq, hreserved, hprogram, hnext⟩

theorem setProgram_saves {j : ProgramJob} (hj : OpBalanced j.op) (h : SavesBalanced st) :
    SavesBalanced { st with program := some j } := by
  obtain ⟨hcells, hqueue, hreserved, -, hnext⟩ := h
  exact ⟨hcells, hqueue, hreserved, fun _ hx => Option.some.inj hx ▸ hj, hnext⟩

theorem endProgram_saves (h : SavesBalanced st) : SavesBalanced (endProgram st) := by
  obtain ⟨hcells, hqueue, hreserved, -, hnext⟩ := h
  exact resumeErase_saves (st := { st with program := none })
    ⟨hcells, hqueue, hreserved, fun _ hj => (by cases hj), hnext⟩

/-! ### The engine (R168, R169, R188) -/

theorem beginErase_saves (sector seq : Nat) (h : SavesBalanced st) : SavesBalanced (beginErase sector seq st) := by
  refine setArray_saves (st := { st with erase := _ }) ?_ h
  show CellsBalanced (if sector = 0 then st.array.cells else eraseCells sector st.array.cells)
  split
  · exact cells_balanced h
  · exact eraseCells_balanced (cells_balanced h)

theorem beginCommit_saves (h : SavesBalanced st) : SavesBalanced (beginCommit st) := by
  have cells : (beginCommit st).array.cells = st.array.cells := by
    unfold beginCommit
    simp only
    split <;> rfl
  exact setArray_saves (st := { st with erase := _ }) (cells ▸ cells_balanced h) h

theorem beginOp_saves {op : StoreOp} (reserved : Bool) (hop : OpBalanced op) (h : SavesBalanced st) :
    SavesBalanced (beginOp op reserved st) := by
  cases op with
  | record place r => exact setProgram_saves hop h
  | mark place kind => exact setProgram_saves hop h
  | erase sector seq => exact beginErase_saves sector seq h
  | commit => exact beginCommit_saves h

theorem splitProgram_eq {l ahead behind : List StoreOp} {op : StoreOp} (h : splitProgram l = some (ahead, op, behind)) :
    l = ahead ++ op :: behind := by
  induction l generalizing ahead with
  | nil => cases h
  | cons x rest ih =>
    simp only [splitProgram] at h
    split at h
    · obtain ⟨rfl, rfl, rfl⟩ := by simpa using h
      rfl
    · obtain ⟨⟨a, y, b⟩, hy, he⟩ := Option.map_eq_some_iff.1 h
      simp only [Prod.mk.injEq] at he
      obtain ⟨rfl, rfl, rfl⟩ := he
      rw [ih hy, List.cons_append]

theorem beginReserved_saves {op : StoreOp} (hop : st.reserved = some op) (h : SavesBalanced st) :
    SavesBalanced (beginOp op true { st with reserved := none }) :=
  beginOp_saves true (reserved_balanced h hop) (unreserved_saves h)

theorem beginQueued_saves {op : StoreOp} {ahead behind : List StoreOp} (hq : st.queue = ahead ++ op :: behind)
    (h : SavesBalanced st) : SavesBalanced (beginOp op false { st with queue := ahead ++ behind }) := by
  have hqueue := queued_balanced h
  rw [hq] at hqueue
  refine beginOp_saves false (hqueue op (by simp)) (setQueue_saves (fun x hx => hqueue x ?_) h)
  simp only [List.mem_append, List.mem_cons] at hx ⊢
  tauto

theorem takeInWarn_saves (h : SavesBalanced st) : SavesBalanced (takeInWarn st) := by
  unfold takeInWarn
  split
  · exact beginReserved_saves (by assumption) h
  · split
    · exact h
    · rename_i hsplit
      simp only
      split
      · exact h
      · exact beginQueued_saves (splitProgram_eq hsplit) h

theorem takeNext_saves (h : SavesBalanced st) : SavesBalanced (takeNext st) := by
  unfold takeNext
  split
  · exact beginReserved_saves (by assumption) h
  · exact beginQueued_saves (ahead := []) (by assumption) h
  · exact h

theorem takePassing_saves (j : EraseJob) (h : SavesBalanced st) : SavesBalanced (takePassing j st) := by
  unfold takePassing
  simp only
  split
  · split
    · exact beginReserved_saves (st := { st with erase := some { j with phase := .suspended } }) (by assumption) h
    · exact h
  · split
    · exact beginQueued_saves (st := { st with erase := some { j with phase := .suspended } }) (ahead := []) (by assumption) h
    · exact h
  · exact h

theorem startOperation_saves (warn : Bool) (h : SavesBalanced st) : SavesBalanced (startOperation warn st) := by
  unfold startOperation
  split
  · exact h
  split
  · split
    · exact takeInWarn_saves h
    · exact takeNext_saves h
  · split
    · split
      · exact h
      · exact takePassing_saves _ h
    · exact takeInWarn_saves h
    · exact h
    · exact h
    · exact h

/-! ### What ends (R168, R169, R178, R181) -/

theorem supersedeEnded_saves (p : Place) (h : SavesBalanced st) : SavesBalanced (supersedeEnded p st) := by
  unfold supersedeEnded
  split
  · exact reserved_saves (st := { st with supersedeAfter := none }) (op := .mark p .superseded) trivial h
  · exact h

theorem programRecord_saves {p : Place} {r : Record} (hop : OpBalanced (.record p r)) (h : SavesBalanced st) :
    SavesBalanced (programRecord p r st) := by
  refine setArray_saves (programBlank_balanced (fun v hv => ?_) (cells_balanced h)) h
  obtain rfl := Option.some.inj hv
  exact hop

theorem programMarkOp_saves (p : Place) (k : MarkKind) (h : SavesBalanced st) : SavesBalanced (programMarkOp p k st) := by
  unfold programMarkOp
  split
  · exact h
  · exact setArray_saves (programMark_balanced (cells_balanced h)) h

theorem placeWaitingSave_saves (h : SavesBalanced st) : SavesBalanced (placeWaitingSave st) := by
  unfold placeWaitingSave
  split
  · rename_i p r hn
    exact reserved_saves (st := { st with nextSave := none }) (op := .record p (.save r)) (nextSave_balanced h hn)
      (setNextSave_saves (fun _ hy => by cases hy) h)
  · exact h

theorem testSaveErase_saves (h : SavesBalanced st) : SavesBalanced (testSaveErase st) := by
  unfold testSaveErase
  split <;> exact h

theorem programDone_calm (s : State) : Calm s (programDone s) := by
  unfold programDone
  split
  · rename_i place r _ hp
    have ended : Calm s { s with store := supersedeEnded place (endProgram (programRecord place r s.store)) } :=
      setStore_calm fun h =>
        supersedeEnded_saves _ (endProgram_saves (programRecord_saves (program_balanced h hp) h))
    simp only
    split
    · exact ended
    · exact ended.trans (freedPlace_calm _)
  · exact .refl s

theorem identityLocked_calm (s : State) : Calm s (identityLocked s) := by
  refine .trans (t := { s with store := { s.store with identity := { s.store.identity with lock := .locked } } }) (.of_view rfl)
    (.trans ?_ (weigh_calm _))
  exact .of_view rfl

theorem afterMark_calm (k : MarkKind) (s : State) : Calm s (afterMark k s) := by
  cases k with
  | lock => exact identityLocked_calm s
  | superseded => exact setStore_calm fun h => testSaveErase_saves (placeWaitingSave_saves h)
  | acknowledged | reported | resolved => exact .refl s

theorem markProgramDone_calm (s : State) : Calm s (markProgramDone s) := by
  unfold markProgramDone
  split
  · rename_i place k _ _
    exact (setStore_calm fun h => endProgram_saves (programMarkOp_saves place k h)).trans
      ((afterMark_calm k _).trans (freedPlace_calm _))
  · exact .refl s

theorem programHeader_saves (sector q : Nat) (h : SavesBalanced st) :
    SavesBalanced { st with array := programHeader sector q st.array } :=
  setArray_saves (by rw [programHeader_cells]; exact cells_balanced h) h

theorem commitErased_calm (j : EraseJob) (s : State) : Calm s (commitErased j s) :=
  setStore_calm fun h => programHeader_saves (st := { s.store with erase := _ }) j.sector j.seq h

theorem eraseDone_calm (s : State) : Calm s (eraseDone s) := by
  unfold eraseDone
  split
  · exact .refl s
  rename_i j _
  split
  · exact .refl s
  split
  · exact commitErased_calm j s
  · refine .trans (setStore_calm fun h => ?_) (freedPlace_calm _)
    refine setArray_saves (st := { s.store with erase := none, saveNext := _ }) ?_ h
    rw [programHeader_cells]
    exact eraseCells_balanced (cells_balanced h)

theorem finishCommit_calm (sector : Nat) (cfg : Configuration) (s : State) : Calm s (finishCommit sector cfg s) := by
  unfold finishCommit
  refine .trans ?_ (postNotice_calm _ _ _)
  refine ⟨rfl, rfl, rfl, rfl, fun h => setArray_saves (st := { s.store with erase := none }) ?_ h, id⟩
  dsimp only
  split <;> exact cells_balanced h

theorem commitDone_calm (s : State) : Calm s (commitDone s) := by
  unfold commitDone
  split
  · exact .refl s
  split
  · exact .refl s
  split
  · exact (finishCommit_calm _ _ s).trans (freedPlace_calm _)
  · exact (commitErased_calm _ s).trans ((finishCommit_calm _ _ _).trans (freedPlace_calm _))
  · exact (commitErased_calm _ s).trans ((finishCommit_calm _ _ _).trans (freedPlace_calm _))
  · exact .refl s
  · exact .refl s

/-! ### The store's requests (R176, R177, R181 to R183) -/

theorem afterRead_calm (s : State) : Calm s { s with store := afterRead s.store } := .of_view rfl

theorem readRecords_calm (r : Option Ring) (offset count : Nat) (s : State) : Calm s (readRecords r offset count s).1 := by
  unfold readRecords
  split
  · exact .refl s
  split
  · exact .refl s
  split
  · exact afterRead_calm s
  · exact .of_view rfl

theorem readReady_calm (s : State) : Calm s (readReady s) := by
  unfold readReady
  split
  · exact .refl s
  split
  · exact (afterRead_calm s).trans (answerPort_calm _ _ _)
  · exact .refl s

theorem ackRecords_calm (r : Option Ring) (count : Nat) (s : State) : Calm s (ackRecords r count s).1 := by
  unfold ackRecords
  split
  · exact .refl s
  split
  · exact .refl s
  split
  · exact .refl s
  simp only
  split
  · exact settleWaiting_calm s
  · rename_i st hst
    obtain ⟨st1, he, rfl⟩ := Option.map_eq_some_iff.1 hst
    exact (settleWaiting_calm s).trans
      (setStore_calm fun h => setRing_saves _ _ (enqueue_saves (op := .mark _ .acknowledged) trivial h he))

theorem commitConfig_calm (s : State) : Calm s (commitConfig s).1 := by
  unfold commitConfig
  split <;> exact postCommit_calm s

theorem identityOps_plain (t : Digits) (site : Nat) (st : Store) : ∀ op ∈ (identityOps t site st).1, OpBalanced op := by
  unfold identityOps
  split
  · simp [OpBalanced]
  · simp [OpBalanced]

theorem writeIdentity_calm (t : Digits) (site : Nat) (s : State) : Calm s (writeIdentity t site s).1 := by
  unfold writeIdentity
  split
  · exact .refl s
  split
  · exact .refl s
  simp only
  split
  · refine (settleWaiting_calm s).trans (setStore_calm fun h => ?_)
    refine setQueue_saves (st := { (settleWaiting s).store with identity := _ }) (fun op hop => ?_) h
    rcases List.mem_append.1 hop with hop | hop
    · exact queued_balanced h op hop
    · exact identityOps_plain _ _ _ op hop
  · exact settleWaiting_calm s

theorem lockIdentity_calm (s : State) : Calm s (lockIdentity s).1 := by
  unfold lockIdentity
  split
  · exact .refl s
  simp only
  split
  · exact settleWaiting_calm s
  · rename_i st he
    exact (settleWaiting_calm s).trans (setStore_calm fun h =>
      have locked : SavesBalanced st := enqueue_saves (op := .mark _ .lock) trivial h he
      locked)

/-! ### The work that waits (R172, R175) -/

theorem postOverflow_calm (s : State) : Calm s (postOverflow s) := .of_same (postOverflow_same s) postOverflow_saves

theorem queueRingErase_calm (r : Ring) (s : State) : Calm s (queueRingErase r s) :=
  .of_same (queueRingErase_same r s) (queueRingErase_saves r)

/-! ### The supply (R188 to R190) -/

theorem placeSave_saves {r : SaveRecord} (hr : saveBalanced r) (h : SavesBalanced st) : SavesBalanced (placeSave r st) := by
  unfold placeSave
  split
  · exact h
  simp only
  split
  · exact setNextSave_saves (fun y hy => Option.some.inj hy ▸ hr) h
  · exact reserved_saves (op := .record _ (.save r)) hr h

theorem queueSave_saves (h : SavesBalanced st) : SavesBalanced (queueSave st) :=
  enqueued_saves (st := { st with saveOwed := false }) (op := .erase saveSector 0) trivial h

theorem withdrawSave_saves (h : SavesBalanced st) : SavesBalanced (withdrawSave st) := by
  unfold withdrawSave
  simp only
  split
  · exact h
  split
  · exact queueSave_saves h
  · exact h

theorem settleSave_saves (h : SavesBalanced st) : SavesBalanced (settleSave st) := by
  have marks (p : Place) : SavesBalanced { st with reserved := some (.mark p .superseded), currentSave := none } :=
    reserved_saves (st := { st with currentSave := none }) (op := .mark p .superseded) trivial h
  unfold settleSave
  split
  · exact withdrawSave_saves (setNextSave_saves (fun _ hy => by cases hy) h)
  split
  · exact h
  split
  · exact withdrawSave_saves (unreserved_saves h)
  split
  · split
    · exact h
    · exact marks _
  · exact marks _

theorem setSupplyState_calm (x : SupplyState) (s : State) : Calm s (setSupplyState x s) :=
  .trans (t := { s with supply := { s.supply with state := x } }) (.of_view rfl) (postNotice_calm _ _ _)

theorem stopErase_calm (s : State) : Calm s { s with store := stopErase s.store } := .of_view rfl

theorem saveSnapshot_balanced (h : MoneySound s) : saveBalanced (saveSnapshot s) :=
  ⟨h.held.sum, h.held.escrow, h.held.idle⟩

theorem warnFalls_sound (h : MoneySound s) : MoneySound (warnFalls s) := by
  have settled := (((setSupplyState_calm .warn s).trans (stopErase_calm _)).trans (settleWaiting_calm _)).sound h
  unfold warnFalls
  simp only
  split
  · exact settled
  · exact (setStore_calm (placeSave_saves (saveSnapshot_balanced settled))).sound settled

theorem warnRises_calm (s : State) : Calm s (warnRises s) :=
  (setSupplyState_calm .normal s).trans (setStore_calm fun h => by exact settleSave_saves h)

end Sys2Proof.Proofs
end

section
/-! PROOFS. Resets and recovery keep the money laws (R187, R192 to R198). -/

namespace Sys2Proof.Proofs

open Sys2Proof Sys2Proof.Machine Sys2Proof.Laws

variable {s : State} {st : Store}

/-! ### The volatile state is lost (R187) -/

theorem halfErasedCell_balanced {index : Nat} {x y : Nat × Cell} (hx : ∀ r, x.2.record = some (.save r) → saveBalanced r)
    (h : halfErasedCell index x = some y) : ∀ r, y.2.record = some (.save r) → saveBalanced r := by
  unfold halfErasedCell at h
  split at h
  · exact Option.some.inj h ▸ hx
  · intro r hr
    rw [← Option.some.inj h] at hr
    cases hr
  · cases h

theorem tearErase_balanced {index : Nat} {j : Option EraseJob} {l : List (Nat × Cell)} (h : CellsBalanced l) :
    CellsBalanced (tearErase index j l) := by
  unfold tearErase
  split
  · split
    · intro y hy
      obtain ⟨x, hx, he⟩ := List.mem_filterMap.1 hy
      split at he
      · exact halfErasedCell_balanced (h x hx) he
      · exact Option.some.inj he ▸ h x hx
    · exact h
  · exact h

theorem tearProgram_balanced {j : Option ProgramJob} {a : NvArray} (h : CellsBalanced a.cells) :
    CellsBalanced (tearProgram j a).cells := by
  unfold tearProgram
  split
  · exact programBlank_balanced (fun _ hr => by cases hr) h
  · exact h

theorem arrayAfterReset_balanced (h : SavesBalanced s.store) : CellsBalanced (arrayAfterReset s).cells :=
  tearErase_balanced (tearProgram_balanced (cells_balanced h))

/-- Whatever the supply says, a part that has lost its volatile state holds no money. -/
theorem resetVolatile_laws (c : StartCause) (x : Supply) (h : MoneyLaws s) :
    MoneyLaws { resetVolatile c s with supply := x } := by
  obtain ⟨-, hsaves, -⟩ := (moneyLaws_iff s).1 h
  exact (moneyLaws_iff _).2 ⟨moneyHeld_reset, array_saves (arrayAfterReset_balanced hsaves) _, fun _ => rfl⟩

theorem supplyFails_laws (h : MoneyLaws s) : MoneyLaws (supplyFails s) := by
  unfold supplyFails
  split
  · exact h
  · exact resetVolatile_laws _ _ h

/-! ### The scan, the rebuild and the tally (R193 to R195) -/

theorem queueOwedErase_saves (r : Ring) (h : SavesBalanced st) : SavesBalanced (queueOwedErase r st) :=
  setRing_saves r _ (enqueued_saves (op := .erase _ _) trivial h)

theorem scanRing_saves (r : Ring) (h : SavesBalanced st) : SavesBalanced (scanRing r st) := by
  unfold scanRing
  split
  · exact setRing_saves r _ (enqueued_saves (op := .erase _ _) trivial h)
  · exact setRing_saves r _ (setRing_saves r _ h)

theorem scanErase_saves (r : Ring) (h : SavesBalanced st) : SavesBalanced (scanErase r st) := by
  unfold scanErase
  split
  · exact queueOwedErase_saves r h
  · exact h

theorem scanSave_saves (h : SavesBalanced st) : SavesBalanced (scanSave st) := by
  unfold scanSave
  split
  · exact h
  simp only
  split
  · exact queueSave_saves h
  · exact h

theorem scanStore_saves (h : SavesBalanced st) : SavesBalanced (scanStore st) :=
  scanSave_saves (st := { scanErase .alarm (scanErase .call (scanRing .alarm (scanRing .call st))) with identity := _ })
    (scanErase_saves _ (scanErase_saves _ (scanRing_saves _ (scanRing_saves _ h))))

theorem loadConfiguration_calm (s : State) : Calm s (loadConfiguration s) := by
  unfold loadConfiguration
  split
  · exact .of_view rfl
  · exact .trans (t := { s with cfg := Configuration.initial, supply := { s.supply with loaded := false } }) (.of_view rfl)
      (postNotice_calm _ _ _)

theorem stageOne_calm (s : State) : Calm s (stageOne s) :=
  (setStore_calm scanStore_saves).trans (loadConfiguration_calm _)

theorem forSources_calm {f : Nat → State → State} (hf : ∀ i s, Calm s (f i s)) (l : List Nat) (s : State) :
    Calm s (forSources f l s) := by
  induction l generalizing s with
  | nil => exact .refl s
  | cons i rest ih => exact (hf i s).trans (ih _)

theorem restoreSource_calm (i : Nat) (s : State) : Calm s (restoreSource i s) := by
  unfold restoreSource
  simp only
  split
  · split
    · exact .refl s
    · exact (setEntry_calm i _ s).trans (deriveService_calm _)
  · exact .refl s

theorem raiseActive_calm (i : Nat) (s : State) : Calm s (raiseActive i s) := by
  unfold raiseActive
  split
  · exact raise_calm _ _ s
  · exact .refl s

theorem Calm.ite {p : Prop} [Decidable p] {s t u : State} (ht : Calm s t) (hu : Calm s u) : Calm s (if p then t else u) := by
  split
  · exact ht
  · exact hu

theorem stageTwo_calm (levels : List Bool) (s : State) : Calm s (stageTwo levels s) := by
  have restored : Calm s (forSources restoreSource (List.range 16) s) := forSources_calm restoreSource_calm _ s
  have sensed (u : State) : Calm u (forSources raiseActive (List.range 8) (takeLevels levels u)) :=
    .trans (t := takeLevels levels u) (.of_view rfl) (forSources_calm raiseActive_calm _ _)
  have loaded (u : State) : Calm u (if u.supply.loaded then u else raise srcStore .recordStore u) :=
    .ite (.refl u) (raise_calm _ _ u)
  have caused (u : State) : Calm u (if u.supply.cause = .restart then u else raise srcSupply .recovery u) :=
    .ite (.refl u) (raise_calm _ _ u)
  exact restored.trans ((sensed _).trans ((loaded _).trans (caused _)))

theorem stageThree_calm (found : Option (Place × SaveRecord)) (s : State) : Calm s (stageThree found s) := by
  have tallied : Calm s (if s.supply.cause = .restart then s else { s with
      coin := { s.coin with tally := recoveredTally s.store }
      store := { s.store with totals := (found.map (·.2.totals)).getD {} } }) := .ite (.refl s) (.of_view rfl)
  have near (u : State) : Calm u { u with coin := { u.coin with
      nearPosted := nearLevel u.cfg.capacity ≤ u.coin.tally.coins } } := .of_view rfl
  have full (u : State) : Calm u (if u.cfg.capacity ≤ u.coin.tally.coins ∧ (alarmEntry u.alarm srcBoxFull).state = .quiet
      then raise srcBoxFull .recovery u else u) := .ite (raise_calm _ _ u) (.refl u)
  exact tallied.trans ((near _).trans (full _))

/-! ### The escrow resolution (R41, R196, R197) -/

theorem saveRecords_balanced {a : NvArray} (h : CellsBalanced a.cells) : ∀ x ∈ saveRecords a, saveBalanced x.2.1 := by
  intro x hx
  unfold saveRecords at hx
  split at hx
  · simp at hx
  · obtain ⟨nc, hmem, he⟩ := List.mem_filterMap.1 hx
    obtain ⟨kc, hkc, rfl⟩ := List.mem_map.1 hmem
    split at he
    · rename_i r hr
      obtain rfl := Option.some.inj he
      exact h kc (List.mem_of_mem_filter hkc) r hr
    · cases he

theorem saveToResolve_balanced (h : SavesBalanced st) {x : Place × SaveRecord} (hx : saveToResolve st = some x) :
    saveBalanced x.2 := by
  unfold saveToResolve at hx
  split at hx
  · rename_i p r hlast
    split at hx
    · cases hx
    · obtain rfl := Option.some.inj hx
      obtain ⟨y, hy, he⟩ := List.mem_filterMap.1 (List.mem_of_getLast? hlast)
      split at he
      · cases he
      · obtain ⟨-, rfl⟩ := Prod.mk.inj (Option.some.inj he)
        exact saveRecords_balanced (cells_balanced h) y hy
  · cases hx

/-- The coin in motion leaves the list's value and enters B or R with the same value (R196). -/
theorem foldedAccount_sum {r : SaveRecord} (h : saveBalanced r) : (foldedAccount r).d + (foldedAccount r).k
    = escrowValue (foldEscrow r.escrow) + (foldedAccount r).b + (foldedAccount r).r := by
  obtain ⟨hsum, hescrow, -⟩ := h
  have still (l : List EscrowCoin) : escrowValue (l.map fun c => { c with motion := .no }) = escrowValue l := by
    simp [escrowValue, Function.comp_def]
  rw [hescrow] at hsum
  unfold foldedAccount
  cases hl : r.escrow with
  | nil =>
    rw [hl] at hsum
    exact hsum
  | cons x rest =>
    rw [hl, escrowValue_cons] at hsum
    simp only [List.head?_cons, foldEscrow]
    cases hm : x.motion with
    | no =>
      simp only [if_true, foldAccount, List.singleton_append, escrowValue_cons, still]
      omega
    | collect | refund =>
      simp only [reduceCtorEq, if_false, foldAccount, List.nil_append, still]
      omega

theorem reconstitute_sound {a : Account} (hsum : a.d + a.k = escrowValue s.coin.escrow + a.b + a.r)
    (hq : s.coin.gateQueue = []) (ho : s.coin.gateOp = none) (saves : SavesBalanced s.store)
    (scanned : recoveryPending s = false) : MoneySound (reconstitute a s) := by
  refine enterRefund_sound (shortfall_sound ?_ saves scanned)
  show MoneyOwed _ s.coin.escrow s.coin.gateQueue s.coin.gateOp
  rw [hq, ho]
  exact {
    sum := hsum
    escrow := rfl
    idle := fun h => by cases h
    covered := Nat.min_le_right _ _
    motion := fun _ h => by cases h
    claimed := rfl
    refunds := by simp
    banked := fun _ h => by cases h }

/-- No gate work outlives the account that it is for. -/
theorem MoneyHeld.idle_gate {a : Account} {l : List EscrowCoin} {q : List GateWork} {o : Option GateOp} (h : MoneyHeld a l q o)
    (hi : a.phase = .idle) : q = [] ∧ o = none := by
  obtain ⟨ha, hl⟩ := h.idle hi
  have ho : o = none := by
    by_contra hne
    obtain ⟨g, hg⟩ := Option.ne_none_iff_exists'.1 hne
    simpa [hl] using (h.motion g hg).2
  have hn : q.count .collect = 0 := by
    have := h.claimed
    simp only [ha, claims, ho] at this
    simpa using this.symm
  refine ⟨List.eq_nil_iff_forall_not_mem.2 fun w hw => ?_, ho⟩
  cases w with
  | collect => exact absurd (List.count_pos_iff.2 hw) (by omega)
  | refundAll =>
    obtain ⟨r, hr⟩ := h.refunds (.inl hw)
    cases hi.symm.trans hr

theorem forPlaces_calm {f : Place → State → State} (hf : ∀ p s, Calm s (f p s)) (l : List Place) (s : State) :
    Calm s (forPlaces f l s) := by
  induction l generalizing s with
  | nil => exact .refl s
  | cons p rest ih => exact (hf p s).trans (ih _)

theorem resolve_sound (p : Place) {r : SaveRecord} (hr : saveBalanced r) (h : MoneySound s) (hi : s.account.phase = .idle)
    {u : State} (hu : u = { s with coin := { s.coin with
      escrow := foldEscrow r.escrow, tally := foldTally r s.coin.tally } }) :
    MoneySound (if r.account.phase = .idle then
        setRecovery { stage := 4, phase := .checking, save := some (p, r), figures := some (figuresOf (foldedAccount r)) } u
      else reconstitute (foldedAccount r) (setRecovery { stage := 4, phase := .settling, save := some (p, r) } u)) := by
  obtain ⟨-, hl⟩ := h.held.idle hi
  obtain ⟨hq, ho⟩ := h.held.idle_gate hi
  subst hu
  split
  · rename_i hidle
    obtain ⟨-, -, hempty⟩ := hr
    refine (setRecovery_calm (by simp) _).sound (h.moved ?_ rfl rfl)
    show MoneyHeld s.account (foldEscrow r.escrow) s.coin.gateQueue s.coin.gateOp
    rw [(hempty hidle).2]
    simpa [foldEscrow, hl] using h.held
  · exact reconstitute_sound (foldedAccount_sum hr) hq ho h.saves rfl

theorem stageFour_sound {found : Option (Place × SaveRecord)} (hfound : ∀ x, found = some x → saveBalanced x.2)
    (h : MoneySound s) (hi : s.account.phase = .idle) : MoneySound (stageFour found s) := by
  unfold stageFour
  simp only
  generalize (if found.isSome then _ else _) = marks
  have marked := forPlaces_calm postResolvedMark_calm marks s
  rw [← marked.account] at hi
  split
  · exact ((marked.trans (setRecovery_calm (by simp) _))).sound h
  · rename_i p r
    exact resolve_sound p (hfound (p, r) rfl) (marked.sound h) hi rfl

theorem recover_sound (levels : Levels) (h : MoneyLaws s) (hi : s.account.phase = .idle) : MoneySound (recover levels s) := by
  obtain ⟨hheld, hsaves, -⟩ := (moneyLaws_iff s).1 h
  unfold recover
  simp only
  generalize hu : { s with supply := _ } = u
  have started : MoneySound u := by
    subst hu
    exact ⟨hheld, hsaves, rfl⟩
  have idle : u.account.phase = .idle := by
    subst hu
    exact hi
  have scanned := stageOne_calm u
  have staged := scanned.trans ((stageTwo_calm levels.tamper _).trans (stageThree_calm (saveToResolve (stageOne u).store) _))
  refine stageFour_sound (fun x hx => saveToResolve_balanced (scanned.sound started).saves hx) (staged.sound started) ?_
  rw [staged.account]
  exact idle

theorem recover_reset_laws (levels : Levels) (c : StartCause) (h : MoneyLaws s) :
    MoneyLaws (recover levels (resetVolatile c s)) :=
  (recover_sound levels (resetVolatile_laws c _ h) rfl).laws

/-! ### The later steps of recovery and the restart (R191, R197, R198) -/

theorem setTube_calm (b : Bool) (s : State) : Calm s (setTube b s) := .of_view rfl

theorem endResolution_calm (blocked : Bool) (r : Recovery) (s : State) : Calm s (endResolution blocked r s) := by
  have flushed : Calm s (if r.cycles = 0 then s else raise srcSupply .recovery s) := .ite (.refl s) (raise_calm _ _ s)
  have stuck (u : State) : Calm u (if blocked then raise srcReturnBlocked .recovery u else u) :=
    .ite (raise_calm _ _ u) (.refl u)
  have recorded (u : State) : Calm u (if recordDue r then postCallRing (.recovered (recoveredRecord r u)) u else u) :=
    .ite (postCallRing_calm (rec := .recovered _) (fun _ => trivial) u) (.refl u)
  have marked (u : State) : Calm u (match r.save with
      | some (p, _) => postResolvedMark p u
      | none => u) := by
    split
    · exact postResolvedMark_calm _ u
    · exact .refl u
  exact flushed.trans ((stuck _).trans ((recorded _).trans ((marked _).trans (setRecovery_calm (by simp) _))))

theorem beginCycle_calm (r : Recovery) (s : State) : Calm s (beginCycle r s) := by
  unfold beginCycle
  split
  · exact setRecovery_calm (by simp) s
  · exact setRecovery_calm (by simp) s

theorem sensorCheck_calm (coins : Bool) (s : State) : Calm s (sensorCheck coins s) := by
  unfold sensorCheck
  split
  · exact .refl s
  split
  · exact .refl s
  split
  · exact (setTube_calm true s).trans (beginCycle_calm _ _)
  · exact (setTube_calm false s).trans (endResolution_calm _ _ _)

theorem flushWindowEnds_calm (coins : Bool) (s : State) : Calm s (flushWindowEnds coins s) := by
  unfold flushWindowEnds
  split
  · exact .refl s
  split
  · exact .refl s
  split
  · exact (setTube_calm false s).trans (endResolution_calm _ _ _)
  split
  · exact (setTube_calm true s).trans (endResolution_calm _ _ _)
  · exact (setTube_calm true s).trans (beginCycle_calm _ _)

theorem endRecovery_calm (r : Recovery) (s : State) : Calm s (endRecovery r s) := by
  unfold endRecovery
  simp only
  generalize hu : postNotice .started _ _ = u
  have noticed : Calm s u := by
    subst hu
    exact ((setStore_calm testSaveErase_saves).trans (settleWaiting_calm _)).trans (postNotice_calm _ _ _)
  exact noticed.trans (.trans (t := watchHook { u with supply := { u.supply with recovery := none } })
    ⟨rfl, rfl, rfl, rfl, id, fun _ => rfl⟩ (weigh_calm _))

theorem housekeeping_calm (s : State) : Calm s (housekeeping s) := by
  unfold housekeeping
  split
  · exact .refl s
  split
  · exact endRecovery_calm _ s
  · exact .refl s

theorem requestRestart_sound (m : Option RestartMode) (h : MoneySound s) : MoneySound (requestRestart m s).1 := by
  have ordered (x : RestartMode) : MoneySound (setRestart x s) := h.of_view rfl
  unfold requestRestart
  split
  · exact h
  · simp only
    split
    · exact h
    · exact ordered _
  · simp only
    split
    · exact h
    · exact endCallForRestart_sound (ordered _)

end Sys2Proof.Proofs
end

section
/-! PROOFS. Every command and every step keeps the money laws (O6). -/

namespace Sys2Proof.Proofs

open Sys2Proof Sys2Proof.Machine Sys2Proof.Laws

variable {s : State}

/-! ### What only reads -/

theorem readPlan_state (entry : Nat) (s : State) : (readPlan entry s).1 = s := by
  unfold readPlan
  split <;> rfl

theorem readTariff_state (b : Option Bank) (cls band : Nat) (s : State) : (readTariff b cls band s).1 = s := by
  unfold readTariff
  split
  · rfl
  · split <;> rfl

theorem readSources_state (first count : Nat) (s : State) : (readSources first count s).1 = s := by
  unfold readSources
  split <;> rfl

theorem Calm.of_state {s t : State} (h : t = s) : Calm s t := h ▸ .refl s

/-! ### Commands -/

theorem fetchNotices_calm (p : Port) (s : State) : Calm s (fetchNotices p s).1 := .of_view rfl

theorem endWindow_calm (s : State) : Calm s { s with coin := { s.coin with windowUntil := none } } := .of_view rfl

theorem endLockout_calm (s : State) : Calm s { s with coin := { s.coin with lockoutUntil := none } } := .of_view rfl

theorem sliceEnds_calm (s : State) : Calm s { s with store := sliceEnds s.store } := .of_view rfl

theorem readSelect_calm (p : Port) (clocked : Nat) (s : State) :
    Calm s (if s.supply.inReset then s else updatePort p (readSelect clocked) s) := .ite (.refl s) (updatePort_calm p _ s)

theorem restartFallsDue_laws (levels : Levels) (h : MoneyLaws s) :
    MoneyLaws (if restartDue s then recover levels (resetVolatile .restart s) else s) := by
  split
  · exact recover_reset_laws levels _ h
  · exact h

theorem supplyRisesPastFail_laws (levels : Levels) (h : MoneyLaws s) :
    MoneyLaws (if s.supply.inReset then recover levels (resetVolatile .supplyReset s) else s) := by
  split
  · exact recover_reset_laws levels _ h
  · exact h

/-- An event that moves no money. -/
theorem whenAwake_calm {f : State → State} (hf : ∀ s, Calm s (f s)) (s : State) : Calm s (whenAwake f s) :=
  .ite (hf s) (.refl s)

theorem MoneySound.ite {p : Prop} [Decidable p] {t : State} (h : MoneySound s) (ht : p → MoneySound t) :
    MoneySound (if p then t else s) := by
  split
  · exact ht (by assumption)
  · exact h

theorem gateWindow_sound (h : MoneySound s) : MoneySound (match s.coin.gateOp with
    | some g => gateWindowEnds g s
    | none => s) := by
  split
  · exact gateWindowEnds_sound h (by assumption)
  · exact h

theorem scheduledActivation_calm (s : State) : Calm s (match s.tariff.schedule with
    | .scheduled _ => activate .scheduled s
    | .none => s
    | .waitingClock _ => s) := by
  split
  · exact activate_calm _ s
  · exact .refl s
  · exact .refl s

/-- Every command leaves the money laws as it finds them. -/
theorem exec_keeps_moneyLaws (c : Instr) (h : MoneyLaws s) : ∃ t, exec c s = .next t ∧ MoneyLaws t := by
  have calm {u : State} (hu : Calm s u) : MoneyLaws u := hu.laws h
  cases c with
  | readAccount | readCall | readStatus | readClock | readAlarmsSensor | readIdentity | readTally =>
    exact ⟨_, rfl, calm (takeRequest_calm _ _ .refl s)⟩
  | readPlan p entry => exact ⟨_, rfl, calm (takeRequest_calm _ p (fun s => .of_state (readPlan_state entry s)) s)⟩
  | readTariff p b cls band =>
    exact ⟨_, rfl, calm (takeRequest_calm _ p (fun s => .of_state (readTariff_state b cls band s)) s)⟩
  | readAlarmsSource p first count =>
    exact ⟨_, rfl, calm (takeRequest_calm _ p (fun s => .of_state (readSources_state first count s)) s)⟩
  | keyDigit p | keyCancel p | keyFollowOn p => exact ⟨_, rfl, takeRequest_laws p rfl (keyPressed_sound _) h⟩
  | fetchNotices p => exact ⟨_, rfl, calm (takeRequest_calm _ p (fetchNotices_calm p) s)⟩
  | setNoticeMask p mask => exact ⟨_, rfl, calm (takeRequest_calm _ p (setNoticeMask_calm p mask) s)⟩
  | fetchOrder p part => exact ⟨_, rfl, calm (takeRequest_calm _ p (fetchOrder_calm part) s)⟩
  | orderDone p kind number outcome => exact ⟨_, rfl, takeRequest_laws p rfl (orderDone_sound kind number outcome) h⟩
  | answer p => exact ⟨_, rfl, takeRequest_laws p rfl (callEvent_sound isAlerting answerCall_sound) h⟩
  | busy p => exact ⟨_, rfl, takeRequest_laws p rfl (callEvent_sound isAlerting (enterClearing_calm _ _).sound) h⟩
  | farClear p => exact ⟨_, rfl, takeRequest_laws p rfl (callEvent_sound answered (enterClearing_calm _ _).sound) h⟩
  | meterPulse p => exact ⟨_, rfl, takeRequest_laws p rfl (callEvent_sound answered meterPulse_sound) h⟩
  | lineLost p => exact ⟨_, rfl, takeRequest_laws p rfl lineLost_sound h⟩
  | lineRestored p =>
    exact ⟨_, rfl, calm (takeRequest_calm _ p (fun s => (settleWaiting_calm s).trans (autoClear_calm _ _)) s)⟩
  | claimCentre p => exact ⟨_, rfl, calm (takeRequest_calm _ p claimCentre_calm s)⟩
  | endCentre p => exact ⟨_, rfl, calm (takeRequest_calm _ p endCentre_calm s)⟩
  | setClock p time => exact ⟨_, rfl, calm (takeRequest_calm _ p (setClock_calm time) s)⟩
  | writeCalendarDayType p day points => exact ⟨_, rfl, calm (takeRequest_calm _ p (writeDayType_calm day points) s)⟩
  | writeCalendarHoliday p slot date => exact ⟨_, rfl, calm (takeRequest_calm _ p (writeHoliday_calm slot date) s)⟩
  | writeTariff p cls band e => exact ⟨_, rfl, calm (takeRequest_calm _ p (writeTariff_calm cls band e) s)⟩
  | activateTariff p time => exact ⟨_, rfl, calm (takeRequest_calm _ p (activateTariff_calm time) s)⟩
  | writePlan p entry f => exact ⟨_, rfl, calm (takeRequest_calm _ p (writePlan_calm entry f) s)⟩
  | writeCoin p k v => exact ⟨_, rfl, calm (takeRequest_calm _ p (writeCoin_calm k v) s)⟩
  | writeAlarmSetupSource p i v m e => exact ⟨_, rfl, calm (takeRequest_calm _ p (writeSourceSetup_calm i v m e) s)⟩
  | writeAlarmSetupSensor p i mode threshold window =>
    exact ⟨_, rfl, calm (takeRequest_calm _ p (writeSensorSetup_calm i mode threshold window) s)⟩
  | writeSettingInterDigit p n => exact ⟨_, rfl, calm (takeRequest_calm _ p (writeInterDigit_calm n) s)⟩
  | writeSettingRing p n => exact ⟨_, rfl, calm (takeRequest_calm _ p (writeRing_calm n) s)⟩
  | writeSettingBoxCapacity p n => exact ⟨_, rfl, calm (takeRequest_calm _ p (writeCapacity_calm n) s)⟩
  | writeSettingCollectionCode p code => exact ⟨_, rfl, calm (takeRequest_calm _ p (writeCode_calm code) s)⟩
  | writeSettingReportThreshold p x => exact ⟨_, rfl, calm (takeRequest_calm _ p (writeThreshold_calm x) s)⟩
  | writeSettingPriorityMode p m => exact ⟨_, rfl, calm (takeRequest_calm _ p (writePriority_calm m) s)⟩
  | writeSettingPrimaryCentre p n => exact ⟨_, rfl, calm (takeRequest_calm _ p (writePrimary_calm n) s)⟩
  | writeSettingFallbackCentre p n => exact ⟨_, rfl, calm (takeRequest_calm _ p (writeFallback_calm n) s)⟩
  | commitConfig p => exact ⟨_, rfl, calm (takeRequest_calm _ p commitConfig_calm s)⟩
  | readRecords p r offset count => exact ⟨_, rfl, calm (takeRequest_calm _ p (readRecords_calm r offset count) s)⟩
  | ackRecords p r count => exact ⟨_, rfl, calm (takeRequest_calm _ p (ackRecords_calm r count) s)⟩
  | ackAlarms p l => exact ⟨_, rfl, calm (takeRequest_calm _ p (ackAlarms_calm l) s)⟩
  | clearAlarm p i => exact ⟨_, rfl, calm (takeRequest_calm _ p (clearAlarm_calm p i) s)⟩
  | writeIdentity p t site => exact ⟨_, rfl, calm (takeRequest_calm _ p (writeIdentity_calm t site) s)⟩
  | lockIdentity p => exact ⟨_, rfl, calm (takeRequest_calm _ p lockIdentity_calm s)⟩
  | restart p mode => exact ⟨_, rfl, takeRequest_laws p rfl (requestRestart_sound mode) h⟩
  | openCollection p code => exact ⟨_, rfl, calm (takeRequest_calm _ p (openCollection_calm code) s)⟩
  | closeCollection p => exact ⟨_, rfl, calm (takeRequest_calm _ p closeCollection_calm s)⟩
  | testGate p => exact ⟨_, rfl, calm (takeRequest_calm _ p testGate_calm s)⟩
  | requestFrameError p bytes => exact ⟨_, rfl, calm (frameEnds_calm p bytes s)⟩
  | readSelectPeriod p clocked => exact ⟨_, rfl, calm (readSelect_calm p clocked s)⟩
  | acceptPulse k => exact ⟨_, rfl, calm (whenAwake_calm (acceptPulse_calm k) s)⟩
  | escrowEntryEvent => exact ⟨_, rfl, whenAwake_laws escrowEntry_sound h⟩
  | boxEntryEvent => exact ⟨_, rfl, whenAwake_laws boxEntry_sound h⟩
  | returnChuteEvent => exact ⟨_, rfl, whenAwake_laws returnChute_sound h⟩
  | rejectPulse => exact ⟨_, rfl, calm (whenAwake_calm recordReject_calm s)⟩
  | flightWindowExpiry => exact ⟨_, rfl, whenAwake_laws flightWindowEnds_sound h⟩
  | gateOperationStart => exact ⟨_, rfl, whenAwake_laws gateStarts_sound h⟩
  | gateWindowExpiry => exact ⟨_, rfl, whenAwake_laws gateWindow_sound h⟩
  | gateTestWindowExpiry => exact ⟨_, rfl, calm (whenAwake_calm (fun s => .ite (endGateTest_calm 1 s) (.refl s)) s)⟩
  | collectionWindowExpiry => exact ⟨_, rfl, calm (whenAwake_calm endWindow_calm s)⟩
  | collectionLockoutExpiry => exact ⟨_, rfl, calm (whenAwake_calm endLockout_calm s)⟩
  | carryCompletes =>
    exact ⟨_, rfl, whenAwake_laws (fun hs => hs.ite fun hc => carryCompletes_sound hs hc.1 hc.2) h⟩
  | settlementEnds => exact ⟨_, rfl, whenAwake_laws settlementEnds_sound h⟩
  | offHook => exact ⟨_, rfl, offHook_laws h⟩
  | onHook => exact ⟨_, rfl, onHook_laws h⟩
  | debouncedChangeToOnHook => exact ⟨_, rfl, calm (hookFalls_calm s)⟩
  | firstDigitTimerExpiry => exact ⟨_, rfl, calm (whenAwake_calm (fun s => .ite (refuseNumber_calm _ s) (.refl s)) s)⟩
  | interDigitTimerExpiry => exact ⟨_, rfl, calm (whenAwake_calm (fun s => .ite (interDigitEnds_calm s) (.refl s)) s)⟩
  | depositTimerExpiry => exact ⟨_, rfl, calm (whenAwake_calm (fun s => .ite (refuseCall_calm _ s) (.refl s)) s)⟩
  | lineWaitTimerExpiry =>
    exact ⟨_, rfl, calm (whenAwake_calm (fun s => .ite
      (.trans (t := withdrawCustomerClaim s) (.of_view rfl) (refuseCall_calm _ _)) (.refl s)) s)⟩
  | ringTimerExpiry => exact ⟨_, rfl, calm (whenAwake_calm (fun s => .ite (enterClearing_calm _ s) (.refl s)) s)⟩
  | followOnTimerExpiry =>
    exact ⟨_, rfl, calm (whenAwake_calm (fun s => .ite (t := stopCallTimer s) (.of_view rfl) (.refl s)) s)⟩
  | stepFallsDue => exact ⟨_, rfl, whenAwake_laws (fun hs => hs.ite fun _ => stepDue_sound _ hs) h⟩
  | warningPoint => exact ⟨_, rfl, calm (whenAwake_calm (fun s => .ite (warningPoint_calm s) (.refl s)) s)⟩
  | scheduledActivationDue => exact ⟨_, rfl, calm (whenAwake_calm scheduledActivation_calm s)⟩
  | clockBecomesUnset => exact ⟨_, rfl, calm (whenAwake_calm clockEnds_calm s)⟩
  | orderLimitExpiry => exact ⟨_, rfl, whenAwake_laws orderLimitEnds_sound h⟩
  | centreSessionExpiry => exact ⟨_, rfl, calm (whenAwake_calm centreSessionEnds_calm s)⟩
  | sensorEdge i high => exact ⟨_, rfl, calm (whenAwake_calm (sensorEdge_calm i high) s)⟩
  | backoffExpiry => exact ⟨_, rfl, calm (whenAwake_calm backoffEnds_calm s)⟩
  | storeOperationStart =>
    exact ⟨_, rfl, calm (whenAwake_calm (fun s => setStore_calm fun hs => startOperation_saves _ hs) s)⟩
  | programDone => exact ⟨_, rfl, calm (whenAwake_calm programDone_calm s)⟩
  | markProgramDone => exact ⟨_, rfl, calm (whenAwake_calm markProgramDone_calm s)⟩
  | eraseDone => exact ⟨_, rfl, calm (whenAwake_calm eraseDone_calm s)⟩
  | eraseSliceEnd => exact ⟨_, rfl, calm (whenAwake_calm sliceEnds_calm s)⟩
  | commitDone => exact ⟨_, rfl, calm (whenAwake_calm commitDone_calm s)⟩
  | readRecordsReady => exact ⟨_, rfl, calm (whenAwake_calm readReady_calm s)⟩
  | owedEraseQueued r =>
    exact ⟨_, rfl, calm (whenAwake_calm (fun s => .ite ((queueRingErase_calm r s).trans (freedPlace_calm _)) (.refl s)) s)⟩
  | overflowRecord => exact ⟨_, rfl, calm (whenAwake_calm (fun s => .ite (postOverflow_calm s) (.refl s)) s)⟩
  | warnFalling => exact ⟨_, rfl, whenAwake_laws (fun hs => hs.ite fun _ => warnFalls_sound hs) h⟩
  | warnRising => exact ⟨_, rfl, calm (whenAwake_calm (fun s => .ite (warnRises_calm s) (.refl s)) s)⟩
  | supplyReset => exact ⟨_, rfl, supplyFails_laws h⟩
  | powerOnReset levels => exact ⟨_, rfl, recover_reset_laws levels _ h⟩
  | restartFallsDue levels => exact ⟨_, rfl, restartFallsDue_laws levels h⟩
  | supplyRisesPastFail levels => exact ⟨_, rfl, supplyRisesPastFail_laws levels h⟩
  | sensorCheck coins => exact ⟨_, rfl, calm (whenAwake_calm (sensorCheck_calm coins) s)⟩
  | flushWindowExpiry coins => exact ⟨_, rfl, calm (whenAwake_calm (flushWindowEnds_calm coins) s)⟩
  | saveSectorHousekeeping => exact ⟨_, rfl, calm (whenAwake_calm housekeeping_calm s)⟩

/-! ### The step -/

/-- What the part does of itself ahead of its own command (log 2). -/
theorem idle_cases (s : State) : (idle s).1 = tick s ∨ (idle s).1 = s
    ∨ recoveryPending s = true ∧ (idle s).1 = recover (heldLevels s) s := by
  unfold idle
  split
  · exact .inl rfl
  split
  · exact .inr (.inr ⟨by assumption, rfl⟩)
  split
  · exact .inr (.inl rfl)
  · exact .inl rfl

theorem idle_keeps_moneyLaws (h : MoneyLaws s) : MoneyLaws (idle s).1 := by
  rcases idle_cases s with he | he | ⟨hp, he⟩
  · exact he ▸ (tick_calm s).laws h
  · exact he.symm ▸ h
  · obtain ⟨-, -, hpending⟩ := (moneyLaws_iff s).1 h
    rw [he]
    exact (recover_sound (heldLevels s) h (hpending hp)).laws

/-- Settles O6: the account, the gate and the save records of a state meet one invariant, which a command either does not
touch or carries from a part past its scan, and which recovery makes anew from a balanced save record. -/
theorem moneyLawsAreKept : Obligations.MoneyLawsAreKept := by
  intro s t h hstep
  have ends {u : State} {c : Instr} (hu : MoneyLaws u) (he : exec c u = .next t) : MoneyLaws t := by
    obtain ⟨v, hv, hlaws⟩ := exec_keeps_moneyLaws c hu
    obtain rfl := Host.Outcome.next.inj (hv.symm.trans he)
    exact hlaws
  unfold step at hstep
  split at hstep
  · rename_i rest _
    exact ends (Calm.laws (t := { s with pending := rest }) (.of_view rfl) h) hstep
  · split at hstep
    · exact ends (idle_keeps_moneyLaws h) hstep
    · exact Host.Outcome.next.inj hstep ▸ idle_keeps_moneyLaws h

end Sys2Proof.Proofs
end

section
/-! PROOFS. Accounts end and carry (O37). -/

namespace Sys2Proof.Proofs

open Sys2Proof Sys2Proof.Machine Sys2Proof.Laws

variable {s : State}

/-! ### The call record (R86, R87, R173, R174) -/

theorem setRing_totals (r : Ring) (v : RingState) (st : Store) : (setRing r v st).totals = st.totals := by
  cases r <;> rfl

/-- A posting takes a place of the queue and of its ring, and counts nothing. -/
theorem postRing_totals {r : Ring} {rec : Record} {st st' : Store} {p : Place} (h : postRing r rec st = some (st', p)) :
    st'.totals = st.totals := by
  unfold postRing at h
  split at h
  · cases h
  split at h
  · cases h
  simp only at h
  split at h
  · cases h
  rename_i st1 he
  have posted : st1.totals = st.totals := by
    unfold enqueue at he
    split at he
    · rw [← Option.some.inj he]
    · cases he
  split at h <;> (obtain ⟨rfl, -⟩ := Prod.mk.inj (Option.some.inj h); simpa [setRing_totals] using posted)

theorem postRecord_store {r : Ring} {rec : Record} {s t : State} {p : Place} (h : postRecord r rec s = some (t, p)) :
    postRing r rec s.store = some (t.store, p) := by
  unfold postRecord at h
  split at h
  · cases h
  rename_i hp
  simp only at h
  split at h <;> (obtain ⟨rfl, rfl⟩ := Prod.mk.inj (Option.some.inj h); simpa using hp)

theorem raiseStore_totals (s : State) : (raiseStore s).store.totals = s.store.totals := by
  unfold raiseStore raiseWith
  simp only
  rw [(tellRaised_weighed _ _).store]
  split
  all_goals
    simp only [deriveService_store, postNotice_store]
    split
    · rename_i hp
      simpa using postRing_totals (postRecord_store hp)
    · rfl

/-- The raising of STORE for a lost record (R173). -/
theorem raiseStore_marks (hlen : s.alarm.entries.length = 16) : (alarmEntry (raiseStore s).alarm srcStore).state ≠ .quiet :=
  (raiseWith_raisedOnly (l := [srcStore]) (by simp) (fun _ => .of_eq rfl rfl) _ s).2 (by rw [hlen]; decide)

theorem postCallRing_posted {rec : Record} {x : Store × Place} (hw : nextWork s.store = none)
    (hx : postRing .call rec s.store = some x) : (postCallRing rec s).store = x.1 := by
  cases hp : postRecord .call rec s with
  | none => rw [postRecord_none_iff.1 hp] at hx; cases hx
  | some y =>
    rw [postRecord_store hp] at hx
    simp only [postCallRing, settleWaiting_none hw, hp]
    rw [← Option.some.inj hx]

theorem postCallRing_refused {rec : Record} (hw : nextWork s.store = none) (hp : postRing .call rec s.store = none) :
    postCallRing rec s = raiseStore { s with store := { s.store with totals := countRecord rec s.store.totals } } := by
  simp [postCallRing, settleWaiting_none hw, postRecord_none_iff.2 hp]

theorem postCallRing_recorded {r : CallRecord} (hlen : s.alarm.entries.length = 16) (hw : nextWork s.store = none) :
    CallRecorded r s (if 0 < r.figures.d + r.figures.k ∨ s.call.acceptance ≠ none then postCallRing (.call r) s else s) := by
  refine ⟨fun hdue => ?_, fun hdue x hx => ?_, fun hdue hx => ?_⟩
  · rw [if_neg hdue]
  · rw [if_pos hdue, postCallRing_posted hw hx]
    exact ⟨rfl, postRing_queue hx⟩
  · rw [if_pos hdue, postCallRing_refused hw hx]
    exact ⟨raiseStore_marks hlen, raiseStore_totals _⟩

/-- What becomes of a record is said of the blocks alone that a posting writes and reads. -/
theorem callRecorded_congr {r : CallRecord} {s s' t t' : State} (h : CallRecorded r s t) (hstore : s'.store = s.store)
    (hcall : s'.call = s.call) (htstore : t'.store = t.store) (htalarm : t'.alarm = t.alarm) : CallRecorded r s' t' := by
  unfold CallRecorded at h ⊢
  rwa [hstore, hcall, htstore, htalarm]

/-- The record is the account's of before, whatever has become of the account and the gate queue meanwhile. -/
theorem callRecord_eq {o : CallOutcome} (ho : s.call.outcome = some o) (forfeited : Option Nat) (followOn : Bool)
    (a : Account) (q : List GateWork) :
    callRecord (figuresOf s.account) forfeited followOn { s with account := a, coin := { s.coin with gateQueue := q } }
      = callRecordOf o forfeited followOn s := by
  simp [callRecord, callRecordOf, figuresOf, connectedDuration, ho]

theorem postCallRecord_recorded {o : CallOutcome} (hlen : s.alarm.entries.length = 16) (hw : nextWork s.store = none)
    (ho : s.call.outcome = some o) (forfeited : Option Nat) (followOn : Bool) (a : Account) (q : List GateWork) :
    CallRecorded (callRecordOf o forfeited followOn s) s (postCallRecord (figuresOf s.account) forfeited followOn
      { s with account := a, coin := { s.coin with gateQueue := q } }) := by
  have posted := postCallRing_recorded (r := callRecordOf o forfeited followOn s)
    (s := { s with account := a, coin := { s.coin with gateQueue := q } }) hlen hw
  refine callRecorded_congr posted rfl rfl ?_ ?_
  all_goals
    rw [postCallRecord, callRecord_eq ho]
    simp [callRecordOf, figuresOf, Option.isSome_iff_ne_none]

theorem postCallRecord_same (f : Figures) (forfeited : Option Nat) (followOn : Bool) (s : State) :
    SameOutsideAlarm s (postCallRecord f forfeited followOn s) := by
  unfold postCallRecord
  split
  · exact postCallRing_same _ s
  · exact same_refl s

/-! ### The call's end and its next beginning (R64, R84, R85) -/

theorem setCallState_eq (x : CallState) (s : State) :
    setCallState x s = { s with call := { s.call with state := x }, ports := (setCallState x s).ports } := by
  unfold setCallState
  simp only
  split
  · rfl
  · rw [postNotice_eq]

/-- The call after SETTLED (R84). -/
def endedCall (c : Call) : Call :=
  { c with
    state := .idle, acceptance := none, outcome := none, reason := none, hangUp := false, followOn := false, duration := 0
    connectedSince := none, bandAtAnswer := none, timer := none, restartEnd := false }

/-- Supply and recovery once the call has ended: told where a restart had asked for it (R85). -/
def toldEnd (c : Call) (x : Supply) : Supply := if c.restartEnd then { x with callEnded := true } else x

theorem tellCallEnded_eq (s : State) :
    tellCallEnded s = { s with call := { s.call with restartEnd := false }, supply := toldEnd s.call s.supply } := by
  unfold tellCallEnded toldEnd
  cases h : s.call.restartEnd with
  | true => simp
  | false =>
    have : s.call = { s.call with restartEnd := false } := by rw [← h]
    simp [← this]

theorem finishCall_eq {f : Figures} {forfeited : Nat} {u : State} (hu : postCallRecord f (some forfeited) false s = u) :
    ∃ p, finishCall f forfeited s = takeHeldOffHook
      { u with call := endedCall u.call, analyser := {}, supply := toldEnd u.call u.supply, ports := p } := by
  unfold finishCall
  simp only [hu]
  rw [setCallState_eq, tellCallEnded_eq]
  exact ⟨_, rfl⟩

theorem takeHeldOffHook_not (h : s.call.heldOffHook = false ∨ s.call.hook ≠ .off) : takeHeldOffHook s = s := by
  unfold takeHeldOffHook
  rw [if_neg]
  simp only [Bool.and_eq_true, beq_iff_eq, not_and]
  intro hh
  simpa [hh] using h

theorem takeHeldOffHook_held (hh : s.call.heldOffHook = true) (hoff : s.call.hook = .off) (ha : s.account = {}) :
    ∃ p, takeHeldOffHook s = { s with
      account := { phase := .opened false }
      call := { s.call with heldOffHook := false, state := .collecting, startTime := timeOfDay s, connectedSince := none
                            duration := 0, bandAtAnswer := none, steps := 0 }
      analyser := { state := .awaitingFirst, timer := some (.firstDigit, s.now + Config.firstDigit) }, ports := p } := by
  unfold takeHeldOffHook
  rw [if_pos (by simp [hh, hoff]), beginCall, setCallState_eq, openAccount, if_pos (by simp [ha])]
  exact ⟨_, rfl⟩

/-! ### The settlement ends (R36, R37, R41) -/

theorem flushOpen_iff (x : Supply) : flushOpen x = false ↔ ∀ r, x.recovery = some r → r.flushUntil = none := by
  unfold flushOpen
  cases x.recovery with
  | none => simp
  | some r => simp

theorem gateMayStart_iff (s : State) : gateMayStart s = true ↔ s.coin.gateOp = none ∧ s.coin.gateTest = none
    ∧ (∀ r, s.supply.recovery = some r → r.flushUntil = none) ∧ s.supply.state = .normal := by
  simp [gateMayStart, gateFree, flushOpen_iff, and_assoc]

/-- The gate's work is over, as R37 lists it. -/
def GateDone (s : State) : Prop :=
  s.coin.gateOp = none ∧ s.coin.escrow = [] ∧ (s.coin.gateQueue = []
    ∨ (s.coin.gateQueue = [.refundAll] ∧ s.coin.gateTest = none ∧ s.supply.state = .normal
        ∧ ∀ r, s.supply.recovery = some r → r.flushUntil = none))

theorem refundsOver_of_gateDone (h : GateDone s) : refundsOver s = true := by
  obtain ⟨hop, hlist, hqueue⟩ := h
  refine (refundsOver_iff s).2 ⟨hop, hlist, ?_, fun hr => ?_⟩
  · rcases hqueue with hq | ⟨hq, -⟩ <;> simp [hq]
  · rcases hqueue with hq | ⟨-, htest, hnormal, hflush⟩
    · simp [hq] at hr
    · exact (gateMayStart_iff s).2 ⟨hop, htest, hflush, hnormal⟩

theorem settlementEnds_over {r : Bool} (hp : s.account.phase = .settling .refund r) (h : GateDone s) :
    settlementEnds s = settled r { s with coin := { s.coin with gateQueue := [] } } := by
  have hover := refundsOver_of_gateDone h
  have hq : s.coin.gateQueue.filter (· != .refundAll) = [] := by
    obtain ⟨-, -, hqueue⟩ := h
    rcases hqueue with hq | ⟨hq, -⟩ <;> simp [hq]
  unfold settlementEnds
  simp only [hp, hover, if_true, hq]

theorem settlementEnds_early (h : refundsOver s = false ∨ ∀ r, s.account.phase ≠ .settling .refund r) :
    settlementEnds s = s := by
  unfold settlementEnds
  split
  · rename_i r hp
    rcases h with h | h
    · simp [h]
    · exact absurd hp (h r)
  · rfl

/-- Something is left of a REFUND_ALL, or the gate may not take it now (R8, R37). -/
theorem refundsOver_not (h : s.coin.escrow ≠ [] ∨ s.coin.gateOp ≠ none ∨ .collect ∈ s.coin.gateQueue
    ∨ (.refundAll ∈ s.coin.gateQueue ∧ (s.supply.state = .warn ∨ s.coin.gateTest ≠ none))) : refundsOver s = false := by
  by_contra hover
  obtain ⟨hop, hlist, hcollect, hstart⟩ := (refundsOver_iff s).1 (by simpa using hover)
  rcases h with h | h | h | ⟨hr, h⟩
  · exact h hlist
  · exact h hop
  · exact hcollect h
  · obtain ⟨-, htest, -, hnormal⟩ := (gateMayStart_iff s).1 (hstart hr)
    rcases h with h | h
    · exact absurd (hnormal.symm.trans h) (by decide)
    · exact h htest

/-- The settlement of a call's account at its end, from `s` to `v`, ahead of a held off-hook (R37, R84 to R87). -/
structure CallSettled (s v : State) : Prop where
  account : v.account = {}
  analyser : v.analyser = {}
  call : v.call = endedCall s.call
  supply : v.supply = toldEnd s.call s.supply
  coin : v.coin = { s.coin with gateQueue := [] }
  cfg : v.cfg = s.cfg
  tariff : v.tariff = s.tariff
  array : v.store.array = s.store.array
  recorded : s.alarm.entries.length = 16 → nextWork s.store = none → ∀ o, s.call.outcome = some o →
    CallRecorded (callRecordOf o (some (s.account.b - s.account.c)) false s) s v

theorem settled_call (s : State) :
    ∃ v, settled false { s with coin := { s.coin with gateQueue := [] } } = takeHeldOffHook v ∧ CallSettled s v := by
  generalize hu : postCallRecord (figuresOf s.account) (some (s.account.b - s.account.c)) false
    { s with account := {}, coin := { s.coin with gateQueue := [] } } = u
  obtain ⟨p, hp⟩ := finishCall_eq hu
  have same : SameOutsideAlarm _ u := hu ▸ postCallRecord_same _ _ _ _
  obtain ⟨-, -, hcfg, hcoin, haccount, -, hcall, htariff, hsupply, harray⟩ := same
  rw [hcall, hsupply] at hp
  exact ⟨_, hp, {
    account := haccount, analyser := rfl, call := rfl, supply := rfl, coin := hcoin, cfg := hcfg, tariff := htariff
    array := harray
    recorded := fun hlen hw o ho =>
      callRecorded_congr (hu ▸ postCallRecord_recorded hlen hw ho _ _ {} []) rfl rfl rfl rfl }⟩

/-- A held off-hook begins the next call and touches no other block. -/
theorem takeHeldOffHook_rest (ha : s.account = {}) : (takeHeldOffHook s).coin = s.coin ∧ (takeHeldOffHook s).cfg = s.cfg
    ∧ (takeHeldOffHook s).tariff = s.tariff ∧ (takeHeldOffHook s).supply = s.supply ∧ (takeHeldOffHook s).store = s.store
    ∧ (takeHeldOffHook s).alarm = s.alarm := by
  by_cases hh : s.call.heldOffHook = true ∧ s.call.hook = .off
  · obtain ⟨p, hp⟩ := takeHeldOffHook_held hh.1 hh.2 ha
    rw [hp]
    exact ⟨rfl, rfl, rfl, rfl, rfl, rfl⟩
  · rw [takeHeldOffHook_not (by simpa [or_iff_not_imp_left] using hh)]
    exact ⟨rfl, rfl, rfl, rfl, rfl, rfl⟩

/-! ### The carry completes (R40, R81) -/

theorem reportCredit_collecting (hc : s.call.state = .collecting) : (reportCredit s).call = s.call := by
  rw [reportCredit, reportToCall_otherState (by simp [hc])]
  exact (reportToTariff_call (by simp [hc]) (by simp [hc])).1

/-- The call after a carry (R81), which begins at `time`. -/
def carriedCall (time : Option DateTime) (c : Call) : Call :=
  { c with
    state := .collecting, outcome := none, reason := none, acceptance := none, startTime := time, duration := 0
    connectedSince := none, bandAtAnswer := none, steps := 0, followOn := false }

/-- The completed carry, from `s` to `t` (R40, R81, R86). -/
structure CallCarried (s t : State) : Prop where
  account : t.account = carriedAccount s.account
  call : t.call = carriedCall (timeOfDay s) s.call
  analyser : t.analyser = { state := .awaitingFirst, timer := some (.firstDigit, s.now + Config.firstDigit) }
  coin : t.coin = s.coin
  cfg : t.cfg = s.cfg
  supply : t.supply = s.supply
  array : t.store.array = s.store.array
  recorded : s.alarm.entries.length = 16 → nextWork s.store = none → ∀ o, s.call.outcome = some o →
    CallRecorded (callRecordOf o none true s) s t

theorem carryCompletes_carries (s : State) : CallCarried s (carryCompletes s) := by
  generalize hu : postCallRecord (figuresOf s.account) none true { s with account := carriedAccount s.account } = u
  have same : SameOutsideAlarm _ u := hu ▸ postCallRecord_same _ _ _ _
  obtain ⟨-, hnow, hcfg, hcoin, haccount, -, hcall, htariff, hsupply, harray⟩ := same
  generalize hv : startAnalysis { u with call := { u.call with
    outcome := none, reason := none, acceptance := none, startTime := timeOfDay u, duration := 0, connectedSince := none
    bandAtAnswer := none, steps := 0, followOn := false } } = v
  have ends : carryCompletes s = reportCredit (setCallState .collecting v) := by
    unfold carryCompletes
    simp only [hu, hv]
  have side : OnlyCallSide v (carryCompletes s) :=
    ends ▸ callSide_trans (setCallState_callSide _ v) (reportCredit_callSide _)
  have call : (carryCompletes s).call = { v.call with state := .collecting } := by
    rw [ends, reportCredit_collecting (by rw [setCallState_call]), setCallState_call]
  subst hv
  have time : timeOfDay u = timeOfDay s := by simp [timeOfDay, htariff]
  exact {
    account := by rw [side]; exact haccount
    call := by rw [call]; simp [carriedCall, hcall, time]
    analyser := by rw [side]; simp [hnow]
    coin := by rw [side]; exact hcoin
    cfg := by rw [side]; exact hcfg
    supply := by rw [side]; exact hsupply
    array := by rw [side]; exact harray
    recorded := fun hlen hw o ho => callRecorded_congr
      (hu ▸ postCallRecord_recorded hlen hw ho _ _ (carriedAccount s.account) s.coin.gateQueue) rfl rfl (by rw [side]; rfl)
      (by rw [side]; rfl) }

/-! ### The obligation -/

/-- A settled call in the terms of O37, with its held off-hook. -/
theorem settled_call_outcome {v : State} (h : CallSettled s v) :
    ((s.call.heldOffHook = false ∨ s.call.hook ≠ .off) → takeHeldOffHook v = v)
      ∧ (s.call.heldOffHook = true → s.call.hook = .off → (takeHeldOffHook v).call.state = .collecting
          ∧ (takeHeldOffHook v).account = { phase := .opened false } ∧ (takeHeldOffHook v).call.heldOffHook = false
          ∧ (takeHeldOffHook v).call.acceptance = none) := by
  refine ⟨fun hno => takeHeldOffHook_not (by rw [h.call]; exact hno), fun hh hoff => ?_⟩
  obtain ⟨p, hp⟩ := takeHeldOffHook_held (s := v) (by rw [h.call]; exact hh) (by rw [h.call]; exact hoff) h.account
  rw [hp, h.call]
  exact ⟨rfl, rfl, rfl, rfl⟩

/-- Settles O37: the ends of the account by its phase and what is left at the gate; the record as the posting leaves it. -/
theorem accountsEndAndCarry : Obligations.AccountsEndAndCarry := by
  refine ⟨fun s ha => ?_, fun s ha => ?_⟩
  · have runs : exec .settlementEnds s = .next (settlementEnds s) := congrArg _ (whenAwake_awake ha)
    refine ⟨fun hp hdone => ?_, fun r hr hp hdone => ?_, fun hleft => ?_⟩
    · obtain ⟨v, hv, h⟩ := settled_call s
      obtain ⟨hfree, hheld⟩ := settled_call_outcome h
      obtain ⟨hcoin, hcfg, htariff, hsupply, hstore, halarm⟩ := takeHeldOffHook_rest h.account
      rw [runs, settlementEnds_over hp hdone, hv]
      refine ⟨_, rfl, hcoin.trans h.coin, fun hno => ?_, hheld, fun he => ?_, fun he => ?_, fun hlen hw o ho => ?_,
        hcfg.trans h.cfg, htariff.trans h.tariff, (congrArg _ hstore).trans h.array⟩
      · rw [hfree hno, h.call]
        exact ⟨h.account, h.analyser, rfl, rfl, rfl, rfl, rfl, rfl, rfl, rfl, rfl⟩
      · rw [hsupply, h.supply, toldEnd, if_pos he]
      · rw [hsupply, h.supply, toldEnd, if_neg (by simp [he])]
      · exact callRecorded_congr (h.recorded hlen hw o ho) rfl rfl hstore halarm
    · rw [runs, settlementEnds_over hp hdone]
      simp only [settled, hr]
      rfl
    · rw [runs, settlementEnds_early]
      rcases hleft with h | h | h | h | h
      · exact .inl (refundsOver_not (.inl h))
      · exact .inl (refundsOver_not (.inr (.inl h)))
      · exact .inl (refundsOver_not (.inr (.inr (.inl h))))
      · exact .inl (refundsOver_not (.inr (.inr (.inr h))))
      · exact .inr h
  · have runs : exec .carryCompletes s
        = .next (if s.account.phase = .opened true ∧ s.account.n = 0 then carryCompletes s else s) :=
      congrArg _ (whenAwake_awake ha)
    refine ⟨fun hp hn => ?_, fun hno => ?_⟩
    · have h := carryCompletes_carries s
      rw [runs, if_pos ⟨hp, hn⟩]
      exact ⟨_, rfl, h.account, h.call, h.analyser, h.recorded, h.coin, h.cfg, h.supply, h.array⟩
    · rw [runs, if_neg (by tauto)]

end Sys2Proof.Proofs
end

section
/-! PROOFS. What an order, a claim of the line and an entry to CLEARING write (R63, R74, R114 to R120). -/

namespace Sys2Proof.Proofs

open Sys2Proof Sys2Proof.Machine Sys2Proof.Laws

variable {s : State}

/-! ### The call state and its outcome (R63) -/

/-- The outcome is fixed once, with its reason: what stands stays. -/
theorem fixOutcome_eq (o : CallOutcome) (r : Option Reason) (s : State) :
    fixOutcome o r s = { s with call := { s.call with
      outcome := s.call.outcome.or (some o), reason := if s.call.outcome = none then r else s.call.reason } } := by
  unfold fixOutcome
  cases h : s.call.outcome with
  | none => rfl
  | some x =>
    have : s.call = { s.call with outcome := some x } := by rw [← h]
    simp [← this]

/-- A change of call state writes the state, and notices. -/
theorem setCallState_writes (x : CallState) (s : State) :
    ∃ p, setCallState x s = { s with call := { s.call with state := x }, ports := p } :=
  ⟨_, setCallState_eq x s⟩

theorem callTimerRuns_of_timer {t : CallTimer} {due : Nat} (h : s.call.timer = some (t, due)) :
    callTimerRuns t s = true := by
  simp [callTimerRuns, h]

/-! ### Orders (R119, R120) -/

theorem enterSlot_eq (body : OrderBody) (s : State) :
    enterSlot body s = { s with line := lineWithOrder body (Config.orderLimit (orderKind body)) s } := rfl

theorem postOrder_connect {d : Digits} {c : CallClass} (ho : s.line.owner = .customer) (hs : s.line.slot = none) :
    postOrder .customer (.connect d c) s = { s with line := lineWithOrder (.connect d c) 400 s } := by
  simp [postOrder, postingOf, orderKind, ho, hs, enterSlot_eq, Config.orderLimit]

/-- RELEASE replaces whatever stands in the slot of a line that is CUSTOMER's. -/
theorem postOrder_release_eq (s : State) : postOrder .customer .release s = { s with
    line := if s.line.owner = .customer then lineWithOrder .release 50 s else s.line } := by
  by_cases ho : s.line.owner = .customer
  · simp [postOrder, postingOf, orderKind, ho, enterSlot_eq, Config.orderLimit]
  · simp [postOrder, postingOf, ho, Ne.symm ho]

theorem postOrder_abort (b : Bool) (h : currentKind s.line ≠ some .abort) :
    postOrder s.line.owner (.abort b) s = { s with line := lineWithOrder (.abort b) 50 s } := by
  simp [postOrder, postingOf, orderKind, h, enterSlot_eq, Config.orderLimit]

/-- A current ABORT already is the one posted. -/
theorem postOrder_abort_current (b : Bool) (h : currentKind s.line = some .abort) :
    postOrder s.line.owner (.abort b) s = s := by
  simp [postOrder, postingOf, orderKind, h]

theorem postOrder_writes (o : Owner) (body : OrderBody) (s : State) :
    ∃ l, postOrder o body s = { s with line := l } := by
  unfold postOrder
  repeat' split
  all_goals exact ⟨_, rfl⟩

/-- A change of owner writes the owner, and notices. -/
theorem setOwner_writes (o : Owner) (s : State) :
    ∃ p, setOwner o s = { s with line := { s.line with owner := o }, ports := p } := by
  unfold setOwner
  split
  · next h => subst h; exact ⟨s.ports, rfl⟩
  · exact ⟨_, postNotice_eq _ _ _⟩

/-! ### Claims (R67, R114 to R117) -/

/-- A granted claim with an acceptance is CONNECTING, with CONNECT posted into the EMPTY slot. -/
theorem grantCustomer_granted {a : Acceptance} (ha : s.call.acceptance = some a) (hs : s.line.slot = none) :
    CustomerGranted a s (grantCustomer s) := by
  obtain ⟨p, hp⟩ := setOwner_writes .customer s
  obtain ⟨q, hq⟩ := setCallState_writes .connecting (postOrder .customer (.connect a.digits a.cls)
    (stopCallTimer (setOwner .customer s)))
  have grants : grantCustomer s = setCallState .connecting (postOrder .customer (.connect a.digits a.cls)
      (stopCallTimer (setOwner .customer s))) := by
    simp [grantCustomer, stopCallTimer, ha]
  rw [grants, hq, postOrder_connect (by rw [hp]; rfl) (by rw [hp]; exact hs), hp]
  exact ⟨rfl, rfl, rfl⟩

/-- From `s` to `t` the line, the ports and of the call its state and timer alone may change. -/
def OnlyClaims (s t : State) : Prop :=
  ∃ x timer l p, t = { s with call := { s.call with state := x, timer := timer }, line := l, ports := p }

theorem grantCustomer_onlyClaims (s : State) : OnlyClaims s (grantCustomer s) := by
  obtain ⟨p, hp⟩ := setOwner_writes .customer s
  unfold grantCustomer
  simp only [hp]
  split
  · exact ⟨_, _, _, _, rfl⟩
  · next a _ =>
    obtain ⟨l, hl⟩ := postOrder_writes .customer (.connect a.digits a.cls)
      (stopCallTimer { s with line := { s.line with owner := .customer }, ports := p })
    obtain ⟨q, hq⟩ := setCallState_writes .connecting (postOrder .customer (.connect a.digits a.cls)
      (stopCallTimer { s with line := { s.line with owner := .customer }, ports := p }))
    rw [hq, hl]
    exact ⟨_, _, _, _, rfl⟩

theorem customerClaimHeld_iff (l : Line) : customerClaimHeld l = true ↔
    l.owner = .customer ∨ l.waitingCustomer ≠ none ∨ l.preempting ≠ none := by
  simp [customerClaimHeld, Option.isSome_iff_ne_none]
  tauto

/-- The customer claim pre-empts the line's owner: an EMERGENCY claim does, and on REPORT any claim where no CRITICAL
source is in the batch (R116). -/
def Preempts (emergency : Bool) (s : State) : Prop :=
  emergency = true ∨ (s.line.owner = .report ∧ ∀ i ∈ s.report.batch, i.severity ≠ .critical)

theorem makeCustomerClaim_held {e : Bool} (h : customerClaimHeld s.line = true) : makeCustomerClaim e s = s := if_pos h

theorem makeCustomerClaim_free {e : Bool} (ho : s.line.owner = .nobody) (hc : customerClaimHeld s.line = false) :
    makeCustomerClaim e s = grantCustomer s := by
  simp [makeCustomerClaim, hc, ho]

/-- On an owned line a claim that is not held already pre-empts or waits. -/
theorem makeCustomerClaim_owned {e : Bool} (ho : s.line.owner ≠ .nobody) (hc : customerClaimHeld s.line = false) :
    (Preempts e s → makeCustomerClaim e s = startPreemption e s)
    ∧ (¬ Preempts e s → makeCustomerClaim e s = waitCustomer e s) := by
  have hcustomer : s.line.owner ≠ .customer := fun h => by simp [customerClaimHeld, h] at hc
  cases h : s.line.owner with
  | nobody => exact absurd h ho
  | customer => exact absurd h hcustomer
  | report =>
    have hp : Preempts e s ↔ (e || !batchCritical s.report) = true := by simp [Preempts, batchCritical, h]
    simp only [makeCustomerClaim, hc, h, hp]
    exact ⟨fun preempts => if_pos preempts, fun waits => if_neg waits⟩
  | centre =>
    have hp : Preempts e s ↔ e = true := by simp [Preempts, h]
    simp only [makeCustomerClaim, hc, h, hp]
    exact ⟨fun preempts => if_pos preempts, fun waits => if_neg waits⟩

theorem startPreemption_posts {e : Bool} (h : currentKind s.line ≠ some .abort) :
    startPreemption e s = { s with
      line := lineWithOrder (.abort false) 50 { s with line := { s.line with preempting := some e } } } :=
  postOrder_abort (s := { s with line := { s.line with preempting := some e } }) false h

theorem startPreemption_current {e : Bool} (h : currentKind s.line = some .abort) :
    startPreemption e s = { s with line := { s.line with preempting := some e } } :=
  postOrder_abort_current (s := { s with line := { s.line with preempting := some e } }) false h

/-- A claim on an owned line writes the line alone. -/
theorem makeCustomerClaim_owned_writes {e : Bool} (ho : s.line.owner ≠ .nobody) :
    ∃ l, makeCustomerClaim e s = { s with line := l } := by
  by_cases hc : customerClaimHeld s.line = true
  · exact ⟨s.line, makeCustomerClaim_held hc⟩
  obtain ⟨preempts, waits⟩ := makeCustomerClaim_owned (e := e) ho (by simpa using hc)
  by_cases hp : Preempts e s
  · obtain ⟨l, hl⟩ := postOrder_writes s.line.owner (.abort false)
      { s with line := { s.line with preempting := some e } }
    exact ⟨l, (preempts hp).trans hl⟩
  · exact ⟨_, waits hp⟩

/-- What a claim does on an owned line: one held already nothing, a pre-empting one an ABORT, any other waits. -/
theorem makeCustomerClaim_owned_effect {e : Bool} (ho : s.line.owner ≠ .nobody) :
    (makeCustomerClaim e s).call = s.call
      ∧ (s.line.owner = .customer ∨ s.line.waitingCustomer ≠ none ∨ s.line.preempting ≠ none →
          (makeCustomerClaim e s).line = s.line)
      ∧ (s.line.owner ≠ .customer → s.line.waitingCustomer = none → s.line.preempting = none →
          (Preempts e s → currentKind s.line ≠ some .abort → (makeCustomerClaim e s).line
            = lineWithOrder (.abort false) 50 { s with line := { s.line with preempting := some e } })
          ∧ (Preempts e s → currentKind s.line = some .abort →
              (makeCustomerClaim e s).line = { s.line with preempting := some e })
          ∧ (¬ Preempts e s → (makeCustomerClaim e s).line = { s.line with waitingCustomer := some e })) := by
  obtain ⟨l, hl⟩ := makeCustomerClaim_owned_writes (e := e) ho
  refine ⟨by rw [hl], fun held => by rw [makeCustomerClaim_held ((customerClaimHeld_iff _).2 held)], fun hc hw hp => ?_⟩
  have free : customerClaimHeld s.line = false := by simp [customerClaimHeld, hc, hw, hp]
  obtain ⟨preempts, waits⟩ := makeCustomerClaim_owned (e := e) ho free
  refine ⟨fun hpre hk => ?_, fun hpre hk => ?_, fun hno => ?_⟩
  · rw [preempts hpre, startPreemption_posts hk]
  · rw [preempts hpre, startPreemption_current hk]
  · rw [waits hno, waitCustomer]

theorem makeCustomerClaim_onlyClaims (e : Bool) (s : State) : OnlyClaims s (makeCustomerClaim e s) := by
  by_cases ho : s.line.owner = .nobody
  · by_cases hc : customerClaimHeld s.line = true
    · exact ⟨_, _, _, _, makeCustomerClaim_held hc⟩
    · rw [makeCustomerClaim_free ho (by simpa using hc)]
      exact grantCustomer_onlyClaims s
  · obtain ⟨l, hl⟩ := makeCustomerClaim_owned_writes (e := e) ho
    exact ⟨_, _, _, _, hl⟩

/-! ### Entry to CLEARING (R74) -/

theorem stopMetering_eq (s : State) : stopMetering s = { s with
    call := { s.call with steps := if s.tariff.meter.state = .stopped then s.call.steps else s.tariff.meter.steps }
    tariff := { s.tariff with meter := if s.tariff.meter.state = .stopped then s.tariff.meter else {} } } := by
  unfold stopMetering
  split <;> rfl

theorem stopCallWork_eq (s : State) : stopCallWork s = { s with
    call := { s.call with
      timer := none, afterDial := [], connectedSince := none, duration := connectedDuration s
      steps := if s.tariff.meter.state = .stopped then s.call.steps else s.tariff.meter.steps }
    tariff := { s.tariff with meter := if s.tariff.meter.state = .stopped then s.tariff.meter else {} } } := by
  simp only [stopCallWork, stopMetering_eq]
  rfl

theorem enterClearing_writes (o : CallOutcome) (s : State) : ∃ p, enterClearing o s = { s with
    call := { s.call with
      state := .clearing
      outcome := s.call.outcome.or (some o), reason := if s.call.outcome = none then none else s.call.reason
      timer := none, afterDial := [], connectedSince := none, duration := connectedDuration s
      steps := if s.tariff.meter.state = .stopped then s.call.steps else s.tariff.meter.steps }
    tariff := { s.tariff with meter := if s.tariff.meter.state = .stopped then s.tariff.meter else {} }
    line := if s.line.owner = .customer then lineWithOrder .release 50 s else s.line
    ports := p } := by
  rw [enterClearing, setCallState_eq, postOrder_release_eq, stopCallWork_eq, fixOutcome_eq]
  exact ⟨_, rfl⟩

/-- The entry to CLEARING, with the marks of the call as they were. -/
theorem enterClearing_enters (o : CallOutcome) (s : State) :
    EntersClearing o s (enterClearing o s) ∧ (enterClearing o s).call.hangUp = s.call.hangUp
      ∧ (enterClearing o s).call.followOn = s.call.followOn := by
  obtain ⟨p, writes⟩ := enterClearing_writes o s
  have stopped : (if s.tariff.meter.state = .stopped then s.tariff.meter else {}).state = .stopped := by
    split
    · assumption
    · rfl
  rw [writes]
  refine ⟨⟨rfl, fun unfixed => ?_, fun fixed => ?_, rfl, rfl, rfl, rfl, rfl, rfl, rfl, rfl, rfl, stopped,
    fun runs => if_neg runs, fun owns => if_pos owns, rfl⟩, rfl, rfl⟩
  · simp [unfixed]
  · obtain ⟨x, hx⟩ := Option.ne_none_iff_exists'.1 fixed
    simp [hx]

end Sys2Proof.Proofs
end

section
/-! PROOFS. The number analysis: candidates and matches, what a refused and an accepted number leave (R50 to R57,
R65 to R67). -/

namespace Sys2Proof.Proofs

open Sys2Proof Sys2Proof.Machine Sys2Proof.Laws

variable {s : State}

/-! ### Candidates, matches and tests (R50, R51, R54) -/

theorem mem_candidates_iff {plan : List PlanEntry} {buffer : Digits} {e : PlanEntry} :
    e ∈ candidates plan buffer ↔ e ∈ plan ∧ e.digits ≠ [] ∧ (e.digits <+: buffer ∨ buffer <+: e.digits) := by
  simp [candidates, isCandidate]

theorem isComplete_iff {buffer : Digits} {e : PlanEntry} :
    isComplete buffer e = true ↔ buffer.length = e.maxLen ∨ (e.dialAtMin = true ∧ e.minLen ≤ buffer.length) := by
  simp [isComplete]

/-- The plan entries whose digits lie wholly in the buffer, from its beginning. -/
def wholePrefixes (plan : List PlanEntry) (buffer : Digits) : List PlanEntry :=
  plan.filter (fun e => e.digits != [] && e.digits.isPrefixOf buffer)

theorem mem_wholePrefixes_iff {plan : List PlanEntry} {buffer : Digits} {e : PlanEntry} :
    e ∈ wholePrefixes plan buffer ↔ e ∈ plan ∧ e.digits ≠ [] ∧ e.digits <+: buffer := by
  simp [wholePrefixes]

/-- The best match is the first of the longest of them. -/
theorem bestMatch_eq_argmax (plan : List PlanEntry) (buffer : Digits) :
    bestMatch plan buffer = (wholePrefixes plan buffer).argmax (·.digits.length) := by
  unfold bestMatch List.argmax wholePrefixes
  congr 1
  funext best e
  cases best <;> rfl

theorem bestMatch_none_iff {plan : List PlanEntry} {buffer : Digits} :
    bestMatch plan buffer = none ↔ ∀ x ∈ plan, x.digits ≠ [] → ¬ x.digits <+: buffer := by
  simp only [bestMatch_eq_argmax, List.argmax_eq_none, List.eq_nil_iff_forall_not_mem, mem_wholePrefixes_iff, not_and]

theorem bestMatch_some {plan : List PlanEntry} {buffer : Digits} {e : PlanEntry} (h : bestMatch plan buffer = some e) :
    e ∈ plan ∧ e.digits ≠ [] ∧ e.digits <+: buffer
      ∧ ∀ x ∈ plan, x.digits ≠ [] → x.digits <+: buffer → x.digits.length ≤ e.digits.length := by
  rw [bestMatch_eq_argmax] at h
  obtain ⟨hplan, hne, hlies⟩ := mem_wholePrefixes_iff.1 (List.argmax_mem h)
  exact ⟨hplan, hne, hlies, fun x hx hxne hxlies =>
    List.le_of_mem_argmax (f := (·.digits.length)) (mem_wholePrefixes_iff.2 ⟨hx, hxne, hxlies⟩) h⟩

/-- BARRED goes before the service state's refusal. -/
theorem refusalOf_eq (service : ServiceState) (e : PlanEntry) :
    refusalOf service e = if e.barred = true then some .barred
      else if service = .emergencyOnly ∧ e.emergency = false then some .service
      else if service = .coinFree ∧ e.emergency = false ∧ e.noCoin = false ∧ e.cls ≠ .free then some .service else none := by
  unfold refusalOf
  cases service with
  | inService => simp
  | emergencyOnly => cases e.emergency <;> simp
  | coinFree => by_cases hc : e.cls = .free <;> cases e.emergency <;> cases e.noCoin <;> simp [hc]

/-! ### A refused number (R57, R65) -/

theorem refuseNumber_writes (r : Reason) (s : State) :
    ∃ p, refuseNumber r s = { s with
      call := { s.call with
        state := .refused, acceptance := none, outcome := s.call.outcome.or (some .refused)
        reason := if s.call.outcome = none then some r else s.call.reason }
      analyser := { s.analyser with state := .decided, timer := none, decision := some (.refused r) }, ports := p } := by
  unfold refuseNumber
  simp only
  rw [setCallState_eq, fixOutcome_eq, postNotice_eq]
  exact ⟨_, rfl⟩

theorem refuseNumber_refuses (r : Reason) (s : State) : NumberRefused r s.analyser.buffer s (refuseNumber r s) := by
  obtain ⟨p, h⟩ := refuseNumber_writes r s
  rw [h]
  exact ⟨rfl, rfl, rfl, rfl, rfl, fun ho => by simp [ho], rfl⟩

/-! ### An accepted number (R55, R56, R65 to R67) -/

/-- The state as it holds the acceptance of this entry, with notices posted, ahead of the call's next step. -/
def holdNumber (e : PlanEntry) (p : Ports) (s : State) : State :=
  { s with
    call := { s.call with acceptance := some (acceptanceOf e s) }
    analyser := { s.analyser with
      state := .decided, timer := none, decision := some (.accepted e.cls (isMetered e) (acceptanceOf e s).deposit) }
    ports := p }

theorem acceptNumber_writes (e : PlanEntry) (s : State) :
    ∃ p, acceptNumber e s = takeAcceptance (acceptanceOf e s) (holdNumber e p s) := by
  unfold acceptNumber
  simp only
  rw [postNotice_eq]
  exact ⟨_, rfl⟩

theorem takeAcceptance_short {a : Acceptance} (h : available s.account < a.deposit) :
    ∃ p, takeAcceptance a s = { s with
      call := { s.call with state := .waitCoins, timer := some (.deposit, s.now + 600) }, ports := p } := by
  obtain ⟨p, hp⟩ := setCallState_writes .waitCoins s
  rw [takeAcceptance, if_neg (Nat.not_le.2 h), hp]
  exact ⟨p, rfl⟩

/-- The call in WAIT_LINE under the line-wait timer, with notices posted, ahead of its claim. -/
def awaitLine (p : Ports) (s : State) : State :=
  { s with call := { s.call with state := .waitLine, timer := some (.lineWait, s.now + 900) }, ports := p }

theorem takeAcceptance_covered {a : Acceptance} (ha : s.call.acceptance = some a) (h : a.deposit ≤ available s.account) :
    ∃ p, takeAcceptance a s = makeCustomerClaim a.emergency (awaitLine p s) := by
  obtain ⟨p, hp⟩ := setCallState_writes .waitLine s
  rw [takeAcceptance, if_pos h, enterWaitLine, hp, ha]
  exact ⟨p, rfl⟩

theorem acceptNumber_accepts (e : PlanEntry) (s : State) : NumberAccepted e s.analyser.buffer s (acceptNumber e s) := by
  obtain ⟨p, held⟩ := acceptNumber_writes e s
  rw [held]
  by_cases hd : available s.account < (acceptanceOf e s).deposit
  · obtain ⟨q, waits⟩ := takeAcceptance_short (s := holdNumber e p s) hd
    rw [waits]
    exact ⟨rfl, rfl, fun _ => ⟨rfl, rfl, rfl⟩, fun hle => absurd hle (Nat.not_le.2 hd),
      fun hle => absurd hle (Nat.not_le.2 hd), rfl⟩
  · obtain ⟨q, claims⟩ := takeAcceptance_covered (s := holdNumber e p s) rfl (Nat.not_lt.1 hd)
    obtain ⟨x, timer, l, q', only⟩ :=
      makeCustomerClaim_onlyClaims (acceptanceOf e s).emergency (awaitLine q (holdNumber e p s))
    rw [claims]
    refine ⟨congrArg (·.call.acceptance) only, congrArg (·.analyser) only, fun hlt => absurd hlt hd,
      fun _ ho hw hp hs => ?_, fun _ ho => ?_, by rw [only]; rfl⟩
    · obtain ⟨line, call, -⟩ := grantCustomer_granted (s := awaitLine q (holdNumber e p s)) rfl hs
      have unheld : customerClaimHeld s.line = false := by simp [customerClaimHeld, ho, hw, hp]
      rw [makeCustomerClaim_free (s := awaitLine q (holdNumber e p s)) ho unheld, call]
      exact ⟨rfl, rfl, line⟩
    · obtain ⟨call, line⟩ := makeCustomerClaim_owned_effect (s := awaitLine q (holdNumber e p s)) (e := e.emergency) ho
      exact ⟨congrArg Call.state call, congrArg Call.timer call, line⟩

/-! ### The decision (R54) -/

theorem decideNumber_refused {e : PlanEntry} {r : Reason} (h : refusalOf s.alarm.service e = some r) :
    decideNumber e s = refuseNumber r s := by
  simp [decideNumber, h]

theorem decideNumber_accepted {e : PlanEntry} (h : refusalOf s.alarm.service e = none) :
    decideNumber e s = acceptNumber e s := by
  simp [decideNumber, h]

/-! ### A digit of the buffer (R45, R50, R51) -/

/-- The digit has joined the buffer, whose timer stops; nothing is decided yet. -/
def withDigit (d : Nat) (s : State) : State :=
  { s with analyser := { s.analyser with buffer := s.analyser.buffer ++ [d], timer := none, decision := none } }

theorem analyseDigit_unobtainable {d : Nat} (h : candidates s.cfg.plan (s.analyser.buffer ++ [d]) = []) :
    analyseDigit d s = refuseNumber .unobtainable (withDigit d s) := if_pos h

theorem analyseDigit_awaits {d : Nat} (h : candidates s.cfg.plan (s.analyser.buffer ++ [d]) ≠ [])
    (hi : ∀ e, bestMatch s.cfg.plan (s.analyser.buffer ++ [d]) = some e → isComplete (s.analyser.buffer ++ [d]) e = false) :
    analyseDigit d s = awaitNext (withDigit d s) := by
  cases hb : bestMatch s.cfg.plan (s.analyser.buffer ++ [d]) with
  | none => simp [analyseDigit, withDigit, h, hb]
  | some e => simp [analyseDigit, withDigit, h, hb, hi e hb]

theorem analyseDigit_decides {d : Nat} {e : PlanEntry} (h : candidates s.cfg.plan (s.analyser.buffer ++ [d]) ≠ [])
    (hb : bestMatch s.cfg.plan (s.analyser.buffer ++ [d]) = some e) (hc : isComplete (s.analyser.buffer ++ [d]) e = true) :
    analyseDigit d s = decideNumber e (withDigit d s) := by
  simp [analyseDigit, withDigit, h, hb, hc]

end Sys2Proof.Proofs
end

section
/-! PROOFS. Keys in COLLECTING (O18, O21, O22) and the timers of a call (O23). -/

namespace Sys2Proof.Proofs

open Sys2Proof Sys2Proof.Machine Sys2Proof.Laws

variable {s : State}

/-! ### Keys in COLLECTING (R45, R46) -/

theorem keyForDigit_collecting {d : Nat} (hc : s.call.state = .collecting) :
    keyForDigit d s = (analyseDigit d s, decisionReply (analyseDigit d s).analyser) := by
  simp only [keyForDigit, hc]

theorem keyForCancel_collecting (hc : s.call.state = .collecting) : keyForCancel s = (startAnalysis s, keyMore) := by
  simp only [keyForCancel, hc]

theorem keyForFollowOn_collecting (hc : s.call.state = .collecting) : keyForFollowOn s = (s, refuseState) := by
  simp only [keyForFollowOn, hc]

theorem keyPressed_digit {key : Nat} (h : key ≤ 11) : keyPressed key s = keyForDigit key s := if_pos h

theorem keyPressed_range {key : Nat} (h : 13 < key) : keyPressed key s = (s, refuseRange) := by
  rw [keyPressed, if_neg (by omega), if_neg (by omega), if_neg (by omega)]

/-- Settles O18: each key by its branch in COLLECTING, and a key value above CANCEL's by KEY's range check. -/
theorem cancelRestartsTheAnalysis : Obligations.CancelRestartsTheAnalysis := by
  intro s h hf
  refine ⟨fun hc => ⟨?_, ?_⟩, fun key hk => ?_⟩
  · exact request_answered h hf rfl (keyForCancel_collecting (s := frameTaken .set s) hc)
  · exact request_answered h hf rfl (keyForFollowOn_collecting (s := frameTaken .set s) hc)
  · exact request_answered h hf rfl (keyPressed_range hk)

/-- A digit in COLLECTING is analysed, and answered by what the analyser then shows. -/
theorem exec_keyDigit_collecting {d : Nat} (h : Running s) (hf : SlotFree .set s) (hc : s.call.state = .collecting)
    (hd : d ≤ 11) {u : State} (hu : analyseDigit d (frameTaken .set s) = u) :
    exec (.keyDigit .set d) s = .next (answerPort .set (decisionReply u.analyser) u) := by
  change Host.Outcome.next (takeRequest .key .set (keyPressed d) s) = _
  rw [takeRequest_frameTaken h hf rfl, keyPressed_digit hd, keyForDigit_collecting (s := frameTaken .set s) hc, hu]

theorem decisionReply_refused (r : Reason) (s : State) :
    decisionReply (refuseNumber r s).analyser = some (.ok, byte1 2 ++ byte1 (reasonByte r)) := by
  obtain ⟨p, h⟩ := refuseNumber_writes r s
  rw [h]
  rfl

theorem decisionReply_accepted (e : PlanEntry) (s : State) :
    decisionReply (acceptNumber e s).analyser = some (.ok, byte1 1 ++ byte1 (classByte e.cls)) := by
  obtain ⟨-, analyser, -⟩ := acceptNumber_accepts e s
  rw [analyser]
  rfl

/-- A refusal of the number that the digit made is one from `s` too: it reads neither the analysis nor the ports. -/
theorem numberRefused_keyed {d : Nat} {r : Reason} {buffer : Digits} {t : State} {reply : Reply}
    (h : NumberRefused r buffer (withDigit d (frameTaken .set s)) t) :
    NumberRefused r buffer s (answerPort .set reply t) := by
  obtain ⟨state, kept, timer, call, acceptance, outcome, frame⟩ := h
  exact ⟨state, kept, timer, call, acceptance, outcome, congrArg (answerPort .set reply) frame⟩

/-- So is an acceptance. -/
theorem numberAccepted_keyed {d : Nat} {e : PlanEntry} {buffer : Digits} {t : State} {reply : Reply}
    (h : NumberAccepted e buffer (withDigit d (frameTaken .set s)) t) :
    NumberAccepted e buffer s (answerPort .set reply t) := by
  obtain ⟨acceptance, analyser, short, free, owned, frame⟩ := h
  exact ⟨acceptance, analyser, short, free, owned, congrArg (answerPort .set reply) frame⟩

/-- Settles O21: the digit that leaves no candidate, and the one after which more are awaited. -/
theorem digitJoinsTheBuffer : Obligations.DigitJoinsTheBuffer := by
  intro d s h hf hc hd buffer
  refine ⟨fun hnone => ?_, fun hsome hi => ?_⟩
  · have runs := exec_keyDigit_collecting h hf hc hd (analyseDigit_unobtainable (s := frameTaken .set s) hnone)
    obtain ⟨-, -, -, call, acceptance, outcome, frame⟩ :=
      numberRefused_keyed (refuseNumber_refuses .unobtainable (withDigit d (frameTaken .set s)))
        (reply := decisionReply (refuseNumber .unobtainable (withDigit d (frameTaken .set s))).analyser)
    refine ⟨_, runs, ?_, ?_, call, acceptance, outcome, frame⟩
    · rw [decisionReply_refused, answerPort_slot]
      rfl
    · obtain ⟨p, writes⟩ := refuseNumber_writes .unobtainable (withDigit d (frameTaken .set s))
      exact congrArg State.analyser writes
  · rw [exec_keyDigit_collecting h hf hc hd (analyseDigit_awaits (s := frameTaken .set s) hsome hi)]
    exact congrArg _ (answerPort_frameTaken .set .ok (byte1 0) (awaitNext (withDigit d s)))

/-- Settles O22: the digit's decision by the tests, and what the plan's functions say of a buffer. -/
theorem completeNumberIsDecided : Obligations.CompleteNumberIsDecided := by
  refine ⟨fun d e s h hf hc hd => ?_, fun service e buffer plan =>
    ⟨refusalOf_eq service e, isComplete_iff, mem_candidates_iff, bestMatch_none_iff, bestMatch_some⟩⟩
  intro buffer hsome hbest hcomplete
  have decides := analyseDigit_decides (s := frameTaken .set s) hsome hbest hcomplete
  refine ⟨fun r hr => ?_, fun hr => ?_⟩
  · have runs := exec_keyDigit_collecting h hf hc hd (decides.trans (decideNumber_refused hr))
    refine ⟨_, runs, ?_, numberRefused_keyed (refuseNumber_refuses r _)⟩
    rw [decisionReply_refused, answerPort_slot]
  · have runs := exec_keyDigit_collecting h hf hc hd (decides.trans (decideNumber_accepted hr))
    refine ⟨_, runs, ?_, numberAccepted_keyed (acceptNumber_accepts e _)⟩
    rw [decisionReply_accepted, answerPort_slot]

/-! ### The timers of a call (R52, R53, R66, R67, R71, R79) -/

theorem digitTimerRuns_of_timer {t : DigitTimer} {due : Nat} (h : s.analyser.timer = some (t, due)) :
    digitTimerRuns t s = true := by
  simp [digitTimerRuns, h]

theorem digitTimerRuns_none {t : DigitTimer} (h : s.analyser.timer = none) : digitTimerRuns t s = false := by
  simp [digitTimerRuns, h]

/-- An expiry reaches a block that is awake and whose timer runs. -/
theorem expiry_acts {f : State → State} {runs : State → Bool} (ha : awake s = true) (hr : runs s = true) :
    (Host.Outcome.next (whenAwake (fun s => if runs s then f s else s) s) : Host.Outcome State Fault Refusal)
      = .next (f s) := by
  rw [whenAwake_awake ha, if_pos hr]

theorem expiry_ignored {f : State → State} {runs : State → Bool} (ha : awake s = true) (hr : runs s = false) :
    (Host.Outcome.next (whenAwake (fun s => if runs s then f s else s) s) : Host.Outcome State Fault Refusal)
      = .next s := by
  rw [whenAwake_awake ha, if_neg (by simp [hr])]

theorem interDigitEnds_incomplete
    (h : ∀ e, bestMatch s.cfg.plan s.analyser.buffer = some e → s.analyser.buffer.length < e.minLen) :
    interDigitEnds s = refuseNumber .incomplete s := by
  cases hb : bestMatch s.cfg.plan s.analyser.buffer with
  | none => simp [interDigitEnds, hb]
  | some e => simp [interDigitEnds, hb, Nat.not_le.2 (h e hb)]

theorem interDigitEnds_complete {e : PlanEntry} (hb : bestMatch s.cfg.plan s.analyser.buffer = some e)
    (hle : e.minLen ≤ s.analyser.buffer.length) : interDigitEnds s = decideNumber e s := by
  simp [interDigitEnds, hb, hle]

/-- A call that the call controller refuses keeps its number. -/
theorem refuseCall_writes (r : Reason) (s : State) :
    ∃ p, refuseCall r s = { s with
      call := { s.call with
        state := .refused, timer := none, outcome := s.call.outcome.or (some .refused)
        reason := if s.call.outcome = none then some r else s.call.reason }
      ports := p } := by
  rw [refuseCall, setCallState_eq, fixOutcome_eq]
  exact ⟨_, rfl⟩

/-- Settles O23: each expiry by the timer that runs. -/
theorem timersOfTheCallEnd : Obligations.TimersOfTheCallEnd := by
  refine ⟨fun s u ha => ⟨fun ht => ?_, fun ht hi => ?_, fun ht e hb hle => ⟨fun r hr => ?_, fun hr => ?_⟩,
      fun ht => ⟨?_, ?_⟩⟩,
    fun s u ha => ⟨fun ht => ?_, fun ht => ?_, fun ht => ?_, fun ht => ?_⟩⟩
  · obtain ⟨state, -, timer, call, -, outcome, frame⟩ := refuseNumber_refuses .empty s
    exact ⟨_, expiry_acts ha (digitTimerRuns_of_timer ht), call, state, timer, outcome, frame⟩
  · obtain ⟨state, -, timer, call, -, outcome, frame⟩ := refuseNumber_refuses .incomplete s
    refine ⟨_, (expiry_acts ha (digitTimerRuns_of_timer ht)).trans ?_, call, state, timer, outcome, frame⟩
    rw [interDigitEnds_incomplete hi]
  · refine ⟨_, (expiry_acts ha (digitTimerRuns_of_timer ht)).trans ?_, refuseNumber_refuses r s⟩
    rw [interDigitEnds_complete hb hle, decideNumber_refused hr]
  · refine ⟨_, (expiry_acts ha (digitTimerRuns_of_timer ht)).trans ?_, acceptNumber_accepts e s⟩
    rw [interDigitEnds_complete hb hle, decideNumber_accepted hr]
  · exact expiry_ignored ha (digitTimerRuns_none ht)
  · exact expiry_ignored ha (digitTimerRuns_none ht)
  · obtain ⟨p, writes⟩ := refuseCall_writes .noDeposit s
    refine ⟨_, (expiry_acts ha (callTimerRuns_of_timer ht)).trans (congrArg _ writes), rfl, rfl, rfl, fun ho => ?_, rfl⟩
    simp [ho]
  · obtain ⟨p, writes⟩ := refuseCall_writes .lineBusy (withdrawCustomerClaim s)
    refine ⟨_, (expiry_acts ha (callTimerRuns_of_timer ht)).trans (congrArg _ writes), rfl, rfl, rfl, fun ho => ?_, rfl,
      rfl⟩
    simp [ho]
  · exact ⟨_, expiry_acts ha (callTimerRuns_of_timer ht), enterClearing_enters .unanswered s⟩
  · exact expiry_acts ha (callTimerRuns_of_timer ht)

end Sys2Proof.Proofs
end

section
/-! PROOFS. The laws of the line as one invariant, and what a weighing, a raising or a clear does to the line (O7). -/

namespace Sys2Proof.Proofs

open Sys2Proof Sys2Proof.Machine Sys2Proof.Laws

/-! ### The invariant -/

/-- The laws of the line and the report unit among themselves, but for what a free line may hold (R114 to R119, R151,
R155). -/
structure LineSound (l : Line) (r : ReportState) : Prop where
  slot : ∀ o, l.slot = some o → o.owner = l.owner ∧ serves o.body l.owner
  oneClaim : l.waitingCustomer = none ∨ l.preempting = none
  aborts : l.preempting ≠ none → currentKind l = some .abort
  inCall : l.owner = .report ↔ r = .inCall
  claimed : l.waitingReport ≠ none ↔ r = .claimed

/-- Nothing waits on a free line (R118). -/
def FreeOfClaims (l : Line) : Prop := l.owner = .nobody → l.waitingCustomer = none ∧ l.waitingReport = none

/-- The line serves a call in this state: owned by it from the grant to the end of the clearing, claimed by it in WAIT_LINE
alone, with a RELEASE in CLEARING alone (R72, R74, R114). -/
structure CallLine (l : Line) (x : CallState) : Prop where
  owns : l.owner = .customer ↔ holdsLine x = true
  waits : l.waitingCustomer ≠ none ∨ l.preempting ≠ none → x = .waitLine
  released : ∀ o, l.slot = some o → o.body = .release → x = .clearing

/-- The call state that a call timer belongs to; the follow-on timer is bound to none (R66, R67, R71). -/
def timerBelongs : CallTimer → CallState → Prop
  | .deposit, x => x = .waitCoins
  | .lineWait, x => x = .waitLine
  | .ring, x => x = .alerting
  | .followOn, _ => True

/-- What a call's number, timers and account have to do with its state (R52, R53, R65, R79, R84). -/
structure CallFits (x : CallState) (acceptance : Option Acceptance) (timer : Option (CallTimer × Nat)) (a : Analyser)
    (phase : AccountPhase) : Prop where
  numbered : x = .waitLine → acceptance ≠ none
  timer : ∀ t u, timer = some (t, u) → timerBelongs t x
  analysis : a.timer ≠ none → x = .collecting ∧ analysisRuns a = true
  carry : phase = .opened true → x = .afterCall
  settling : ∀ stage, phase = .settling stage false → x = .settling

/-- The laws of the line in a state where an ownership may just have ended, so that claims may wait on a free line. -/
structure LineOwed (s : State) : Prop where
  line : LineSound s.line s.report.state
  call : CallLine s.line s.call.state
  fits : CallFits s.call.state s.call.acceptance s.call.timer s.analyser s.account.phase

/-- The laws of the line. -/
structure LineHeld (s : State) : Prop extends LineOwed s where
  free : FreeOfClaims s.line

variable {s t u : State} {l : Line} {r : ReportState} {x : CallState}

/-- An order of a free line would serve nobody. -/
theorem LineSound.slot_none (h : LineSound l r) (ho : l.owner = .nobody) : l.slot = none := by
  by_contra hs
  obtain ⟨o, hs⟩ := Option.ne_none_iff_exists'.1 hs
  have hserves := (h.slot o hs).2
  rw [ho] at hserves
  cases hb : o.body <;> simp [hb, serves] at hserves

theorem LineSound.preempting_none (h : LineSound l r) (ho : l.owner = .nobody) : l.preempting = none := by
  by_contra hp
  simpa [currentKind, h.slot_none ho] using h.aborts hp

theorem timerLaws_iff (s : State) : (∀ t u, s.call.timer = some (t, u) → timerBelongs t s.call.state) ↔
    (callTimerRuns .deposit s = true → s.call.state = .waitCoins)
      ∧ (callTimerRuns .lineWait s = true → s.call.state = .waitLine)
      ∧ (callTimerRuns .ring s = true → s.call.state = .alerting) := by
  unfold callTimerRuns
  rcases s.call.timer with _ | ⟨t, u⟩
  · simp
  · cases t <;> simp [timerBelongs]

theorem callLaw_iff (s : State) : CallLaw s ∧ (∀ o, s.line.slot = some o → o.body = .release → s.call.state = .clearing) ↔
    CallLine s.line s.call.state
      ∧ CallFits s.call.state s.call.acceptance s.call.timer s.analyser s.account.phase := by
  constructor
  · rintro ⟨⟨howns, hwaits, hnumbered, hdeposit, hlineWait, hring, hcollecting, hruns, hcarry, hsettling⟩, hreleased⟩
    refine ⟨⟨howns, fun h => hwaits ?_, hreleased⟩,
      ⟨fun h => ?_, (timerLaws_iff s).2 ⟨hdeposit, hlineWait, hring⟩, fun h => ?_, hcarry, hsettling⟩⟩
    · simpa [Option.isSome_iff_ne_none] using h
    · simpa [Option.isSome_iff_ne_none] using hnumbered h
    · rw [← Option.isSome_iff_ne_none] at h
      exact ⟨hcollecting h, hruns h⟩
  · rintro ⟨⟨howns, hwaits, hreleased⟩, ⟨hnumbered, htimer, hanalysis, hcarry, hsettling⟩⟩
    obtain ⟨hdeposit, hlineWait, hring⟩ := (timerLaws_iff s).1 htimer
    simp only [← Option.isSome_iff_ne_none] at hwaits hnumbered hanalysis
    exact ⟨⟨howns, hwaits, hnumbered, hdeposit, hlineWait, hring, fun h => (hanalysis h).1, fun h => (hanalysis h).2,
      hcarry, hsettling⟩, hreleased⟩

theorem lineLaws_iff (s : State) : LineLaws s ↔ LineHeld s := by
  constructor
  · rintro ⟨hslot, ⟨hcustomer, hone, haborts, hreport⟩, ⟨hinCall, hclaimed⟩, hcall⟩
    simp only [Option.isSome_iff_ne_none] at hcustomer hone haborts hreport hclaimed
    obtain ⟨hline, hfits⟩ := (callLaw_iff s).1 ⟨hcall, fun o ho => (hslot o ho).2.2⟩
    refine ⟨⟨⟨fun o ho => ⟨(hslot o ho).1, (hslot o ho).2.1⟩, ?_, haborts, hinCall, hclaimed⟩, hline, hfits⟩,
      fun free => ⟨?_, ?_⟩⟩
    · tauto
    · by_contra hw
      simpa [free] using hcustomer hw
    · by_contra hw
      simpa [free] using hreport hw
  · rintro ⟨⟨hsound, hline, hfits⟩, hfree⟩
    obtain ⟨hcall, hreleased⟩ := (callLaw_iff s).2 ⟨hline, hfits⟩
    refine ⟨fun o ho => ⟨(hsound.slot o ho).1, (hsound.slot o ho).2, hreleased o ho⟩, ⟨fun hw => ?_, ?_, ?_, fun hw => ?_⟩,
      ⟨hsound.inCall, ?_⟩, hcall⟩
    · rw [Option.isSome_iff_ne_none] at hw
      have waits := hline.waits (.inl hw)
      have howns := hline.owns
      cases ho : s.line.owner with
      | nobody => exact absurd (hfree ho).1 hw
      | customer => simp [ho, waits, holdsLine] at howns
      | report => exact .inl rfl
      | centre => exact .inr rfl
    · simp only [Option.isSome_iff_ne_none]
      rcases hsound.oneClaim with h | h <;> simp [h]
    · simpa only [Option.isSome_iff_ne_none] using hsound.aborts
    · rw [Option.isSome_iff_ne_none] at hw
      cases ho : s.line.owner with
      | nobody => exact absurd (hfree ho).2 hw
      | customer => exact .inl rfl
      | report => exact absurd ((hsound.claimed.1 hw).symm.trans (hsound.inCall.1 ho)) (by decide)
      | centre => exact .inr rfl
    · rw [Option.isSome_iff_ne_none]
      exact hsound.claimed

/-! ### What a weighing may do to the line -/

/-- From `s` to `t` the line keeps its laws and the customer's part of it: of the owner, a free line alone may have become
REPORT's, and no RELEASE has come in. -/
structure LineMoves (s t : State) : Prop where
  owner : t.line.owner = s.line.owner ∨ s.line.owner = .nobody ∧ t.line.owner = .report
  waiting : t.line.waitingCustomer = s.line.waitingCustomer
  preempting : t.line.preempting = s.line.preempting
  released : ∀ o, t.line.slot = some o → o.body = .release → s.line.slot = some o
  sound : LineSound s.line s.report.state → LineSound t.line t.report.state
  free : LineSound s.line s.report.state → FreeOfClaims s.line → FreeOfClaims t.line

theorem LineMoves.of_eq (hl : t.line = s.line) (hr : t.report.state = s.report.state) : LineMoves s t where
  owner := .inl (by rw [hl])
  waiting := by rw [hl]
  preempting := by rw [hl]
  released o := by rw [hl]; exact fun h _ => h
  sound := by rw [hl, hr]; exact id
  free _ := by rw [hl]; exact id

theorem LineMoves.trans (h : LineMoves s t) (h' : LineMoves t u) : LineMoves s u where
  owner := by
    rcases h'.owner with e | ⟨en, er⟩
    · rw [e]; exact h.owner
    · rcases h.owner with e | ⟨-, er'⟩
      · exact .inr ⟨e ▸ en, er⟩
      · exact absurd (en.symm.trans er') (by decide)
  waiting := h'.waiting.trans h.waiting
  preempting := h'.preempting.trans h.preempting
  released o ho hb := h.released o (h'.released o ho hb) hb
  sound hs := h'.sound (h.sound hs)
  free hs hf := h'.free (h.sound hs) (h.free hs hf)

/-- The line is the customer's after the move as it was before. -/
theorem LineMoves.customer_iff (h : LineMoves s t) : t.line.owner = .customer ↔ s.line.owner = .customer := by
  rcases h.owner with e | ⟨en, er⟩
  · rw [e]
  · rw [en, er]; decide

theorem LineMoves.callLine (h : LineMoves s t) (hc : CallLine s.line x) : CallLine t.line x where
  owns := h.customer_iff.trans hc.owns
  waits := by rw [h.waiting, h.preempting]; exact hc.waits
  released o ho hb := hc.released o (h.released o ho hb) hb

/-- From `s` to `t` the ports have taken notices, and nothing that a frame brings or a fetch leaves. -/
structure PostsOnly (s t : State) : Prop where
  fetch : ∀ p, (portOf s.ports p).fetch = none → (portOf t.ports p).fetch = none
  sent : ∀ p, (portOf t.ports p).sent = (portOf s.ports p).sent

theorem PostsOnly.of_eq (h : t.ports = s.ports) : PostsOnly s t :=
  ⟨fun p hp => by rwa [h], fun p => by rw [h]⟩

theorem PostsOnly.trans (h : PostsOnly s t) (h' : PostsOnly t u) : PostsOnly s u :=
  ⟨fun p hp => h'.fetch p (h.fetch p hp), fun p => (h'.sent p).trans (h.sent p)⟩

theorem PostsOnly.of_ports (h : PostsOnly t u) (hp : t.ports = s.ports) : PostsOnly s u :=
  ⟨fun p hf => h.fetch p (by rwa [hp]), fun p => (h.sent p).trans (by rw [hp])⟩

theorem postNotice_posts (k : NoticeKind) (fs : List Byte) (s : State) : PostsOnly s (postNotice k fs s) :=
  ⟨fun _ => postNotice_fetch_none, postNotice_sent k fs s⟩

/-- From `s` to `t` a weighing may have taken place, a raising or a clear, or several: the line moves, where REPORT holds it
with its call nothing does, and where the customer or the centre does, the report claim alone. The ports' notices may have
grown. -/
structure Weighing (s t : State) : Prop extends LineMoves s t where
  inCall : s.report.state = .inCall → t.line = s.line ∧ t.report = { s.report with
    identityUnsetPosted := t.report.identityUnsetPosted, centreUnsetPosted := t.report.centreUnsetPosted }
  held : s.line.owner = .customer ∨ s.line.owner = .centre → t.line = { s.line with waitingReport := t.line.waitingReport }
  posts : PostsOnly s t

theorem Weighing.of_eq (hl : t.line = s.line) (hr : t.report = s.report) (hp : PostsOnly s t) : Weighing s t where
  toLineMoves := .of_eq hl (by rw [hr])
  inCall _ := ⟨hl, by rw [hr]⟩
  held _ := by rw [hl]
  posts := hp

theorem Weighing.of_view (h : (t.line, t.report, t.ports) = (s.line, s.report, s.ports)) : Weighing s t := by
  simp only [Prod.mk.injEq] at h
  obtain ⟨hl, hr, hp⟩ := h
  exact .of_eq hl hr (.of_eq hp)

theorem Weighing.refl (s : State) : Weighing s s := .of_view rfl

theorem Weighing.trans (h : Weighing s t) (h' : Weighing t u) : Weighing s u where
  toLineMoves := h.toLineMoves.trans h'.toLineMoves
  inCall hr := by
    obtain ⟨hl, hreport⟩ := h.inCall hr
    obtain ⟨hl', hreport'⟩ := h'.inCall (by rw [hreport]; exact hr)
    exact ⟨hl'.trans hl, by rw [hreport', hreport]⟩
  held ho := by
    have hl := h.held ho
    rw [h'.held (by rw [hl]; exact ho), hl]
  posts := h.posts.trans h'.posts

theorem Weighing.ite {p : Prop} [Decidable p] (ht : p → Weighing s t) (hu : ¬ p → Weighing s u) :
    Weighing s (if p then t else u) := by
  split
  · exact ht (by assumption)
  · exact hu (by assumption)

theorem postNotice_weighing (k : NoticeKind) (fs : List Byte) (s : State) : Weighing s (postNotice k fs s) :=
  .of_eq (by simp) (by simp) (postNotice_posts k fs s)

/-! ### The weighing (R152 to R157) -/

theorem setOwner_line (o : Owner) (s : State) : (setOwner o s).line = { s.line with owner := o } := by
  obtain ⟨p, hp⟩ := setOwner_writes o s
  rw [hp]

theorem setOwner_posts (o : Owner) (s : State) : PostsOnly s (setOwner o s) := by
  unfold setOwner
  split
  · exact .of_eq rfl
  · exact (postNotice_posts _ _ { s with line := { s.line with owner := o } }).of_ports rfl

theorem moveSource_eq {m : AlarmMove} {i : Nat} (h : moveSource m i s = some t) : t = { s with alarm := t.alarm } := by
  unfold moveSource at h
  cases e : moveEntry m (alarmEntry s.alarm i) with
  | none => simp [e] at h
  | some x =>
    simp only [e, Option.map_some, Option.some.injEq] at h
    rw [← h, setEntry]

theorem gatherBatch_eq (is : List Nat) (s : State) : (gatherBatch is s).1 = { s with alarm := (gatherBatch is s).1.alarm } := by
  induction is generalizing s with
  | nil => rfl
  | cons i rest ih =>
    unfold gatherBatch
    split
    · exact ih s
    · next t e =>
      show (gatherBatch rest t).1 = _
      rw [ih t, moveSource_eq e]

/-- The answer to GRANTED writes the alarm table and the report unit: IN_CALL with an order to post, or STANDBY. -/
theorem reportGranted_writes (s : State) : ∃ a r, (reportGranted s).1 = { s with alarm := a, report := r } ∧
    ((∃ number terminal items, (reportGranted s).2 = some (.report number terminal items) ∧ r.state = .inCall)
      ∨ (reportGranted s).2 = none ∧ r.state = .standby) := by
  unfold reportGranted
  have gathered := gatherBatch_eq (batchOrder s) s
  split
  · exact ⟨_, _, rfl, .inr ⟨rfl, rfl⟩⟩
  simp only
  split
  · refine ⟨(gatherBatch (batchOrder s) s).1.alarm, (answerNothing (gatherBatch (batchOrder s) s).1).report, ?_,
      .inr ⟨rfl, rfl⟩⟩
    rw [gathered]
    rfl
  · refine ⟨(gatherBatch (batchOrder s) s).1.alarm,
      { (settleCentre (gatherBatch (batchOrder s) s).1).report with
        state := .inCall, batch := (gatherBatch (batchOrder s) s).2
        dialled := (settleCentre (gatherBatch (batchOrder s) s).1).report.centre },
      ?_, .inl ⟨_, _, _, rfl, rfl⟩⟩
    rw [gathered]
    unfold settleCentre
    split <;> rfl

/-- A claim granted on a free line: a REPORT order with the report unit IN_CALL, or NOTHING. -/
theorem grantReport_cases (ho : s.line.owner = .nobody) :
    (∃ number terminal items a r p, r.state = .inCall ∧
      grantReport s = postOrder .report (.report number terminal items)
        { s with line := { s.line with owner := .report }, alarm := a, report := r, ports := p })
    ∨ (grantReport s).line = s.line ∧ (grantReport s).report.state = .standby := by
  obtain ⟨p, hp⟩ := setOwner_writes .report s
  obtain ⟨a, r, hwrites, ⟨number, terminal, items, hbody, hr⟩ | ⟨hbody, hr⟩⟩ := reportGranted_writes (setOwner .report s)
  · refine .inl ⟨number, terminal, items, a, r, p, hr, ?_⟩
    unfold grantReport
    split
    · next t body e =>
      rw [e] at hwrites hbody
      obtain rfl := Option.some.inj hbody
      rw [show t = _ from hwrites, hp]
    · next e => rw [e] at hbody; cases hbody
  · refine .inr ?_
    unfold grantReport
    split
    · next e => rw [e] at hbody; cases hbody
    · next t e =>
      rw [e] at hwrites
      rw [show t = _ from hwrites, hp, setOwner_line, setOwner_report]
      exact ⟨by simp [← ho], hr⟩

theorem grantReport_posts (s : State) : PostsOnly s (grantReport s) := by
  obtain ⟨a, r, hwrites, -⟩ := reportGranted_writes (setOwner .report s)
  have granted : PostsOnly s (reportGranted (setOwner .report s)).1 :=
    (setOwner_posts .report s).trans (.of_eq (by rw [hwrites]))
  unfold grantReport
  split
  · next t body e =>
    rw [e] at granted
    obtain ⟨l, hl⟩ := postOrder_writes .report body t
    exact granted.trans (.of_eq (by rw [hl]))
  · next e =>
    rw [e] at granted
    exact granted.trans (setOwner_posts .nobody _)

/-- The line that a granted report claim holds: the claims are as they were, and of the orders a REPORT alone is new. -/
structure ReportHolds (l l' : Line) : Prop where
  owner : l'.owner = .report
  waiting : l'.waitingCustomer = l.waitingCustomer
  preempting : l'.preempting = l.preempting
  report : l'.waitingReport = l.waitingReport
  slot : ∀ o, l'.slot = some o → l.slot = some o ∨ o.owner = .report ∧ orderKind o.body = .report

/-- A claim granted on a free line ends in a call of the report unit, or in NOTHING with the line as it was. -/
theorem grantReport_ends (ho : s.line.owner = .nobody) :
    ReportHolds s.line (grantReport s).line ∧ (grantReport s).report.state = .inCall
      ∨ (grantReport s).line = s.line ∧ (grantReport s).report.state = .standby := by
  refine (grantReport_cases ho).imp_left ?_
  rintro ⟨number, terminal, items, a, r, p, hinCall, hgrant⟩
  rw [hgrant]
  unfold postOrder
  split
  · simp only [orderKind, reduceCtorEq, false_and, if_false]
    refine ⟨⟨rfl, rfl, rfl, rfl, fun o h => .inr ?_⟩, hinCall⟩
    obtain rfl := Option.some.inj h
    exact ⟨rfl, rfl⟩
  · exact ⟨⟨rfl, rfl, rfl, rfl, fun o h => .inl h⟩, hinCall⟩
  · exact ⟨⟨rfl, rfl, rfl, rfl, fun o h => .inl h⟩, hinCall⟩

theorem ReportHolds.sound {l' : Line} (h : ReportHolds l l') (hs : LineSound l r) (ho : l.owner = .nobody)
    (hw : l.waitingReport = none) : LineSound l' .inCall where
  slot o hslot := by
    rcases h.slot o hslot with e | ⟨howner, hkind⟩
    · simp [hs.slot_none ho] at e
    · refine ⟨howner.trans h.owner.symm, ?_⟩
      rw [h.owner]
      cases hb : o.body <;> simp_all [orderKind, serves]
  oneClaim := by rw [h.waiting, h.preempting]; exact hs.oneClaim
  aborts hp := absurd (h.preempting.trans (hs.preempting_none ho)) hp
  inCall := by simp [h.owner]
  claimed := by simp [h.report, hw]

theorem ReportHolds.released {l' : Line} (h : ReportHolds l l') {o : Order} (ho : l'.slot = some o)
    (hb : o.body = .release) : l.slot = some o := by
  rcases h.slot o ho with e | ⟨-, hkind⟩
  · exact e
  · simp [hb, orderKind] at hkind

/-- The claim of a report unit in STANDBY (R114 to R116, R154). -/
theorem makeReportClaim_weighing (hr : s.report.state = .standby) : Weighing s (makeReportClaim s) := by
  have unclaimed (hs : LineSound s.line s.report.state) : s.line.waitingReport = none := by
    by_contra hw
    exact absurd ((hs.claimed.1 hw).symm.trans hr) (by decide)
  unfold makeReportClaim
  simp only
  split
  case h_1 ho =>
    have ho : s.line.owner = .nobody := ho
    have posts : PostsOnly s (grantReport { s with report := { s.report with state := .claimed } }) :=
      (grantReport_posts _).of_ports rfl
    refine ⟨?_, fun h => absurd (h.symm.trans hr) (by decide), by simp [ho], posts⟩
    rcases grantReport_ends (s := { s with report := { s.report with state := .claimed } }) ho with ⟨hold, hinCall⟩ | ⟨hl, hstandby⟩
    · exact ⟨.inr ⟨ho, hold.owner⟩, hold.waiting, hold.preempting, fun o => hold.released,
        fun hs => hinCall ▸ hold.sound hs ho (unclaimed hs), fun _ _ h => absurd (h.symm.trans hold.owner) (by decide)⟩
    · exact .of_eq hl (hstandby.trans hr.symm)
  case h_2 ho =>
    have ho : s.line.owner = .report := ho
    exact ⟨⟨.inl rfl, rfl, rfl, fun o h _ => h, fun hs => absurd ((hs.inCall.1 ho).symm.trans hr) (by decide), fun _ => id⟩,
      fun h => absurd (h.symm.trans hr) (by decide), fun _ => rfl, .of_eq rfl⟩
  all_goals
    rename_i ho
    have claims (hs : LineSound s.line s.report.state) :
        LineSound { s.line with waitingReport := some (claimCritical s) } .claimed :=
      ⟨hs.slot, hs.oneClaim, hs.aborts, by simp [show s.line.owner = _ from ho], by simp⟩
    exact ⟨⟨.inl rfl, rfl, rfl, fun o h _ => h, claims, fun _ _ h => absurd (h.symm.trans ho) (by decide)⟩,
      fun h => absurd (h.symm.trans hr) (by decide), fun _ => rfl, .of_eq rfl⟩

theorem remarkReportClaim_weighing (hr : s.report.state = .claimed) : Weighing s (remarkReportClaim s) := by
  refine ⟨⟨.inl rfl, rfl, rfl, fun o h _ => h, fun hs => ⟨hs.slot, hs.oneClaim, hs.aborts, hs.inCall, ?_⟩, fun _ hf ho => ?_⟩,
    fun h => absurd (h.symm.trans hr) (by decide), fun _ => rfl, .of_eq rfl⟩
  · rw [← show s.report.state = (remarkReportClaim s).report.state from rfl, ← hs.claimed]
    simp [remarkReportClaim]
  · obtain ⟨hwaiting, hreport⟩ := hf ho
    exact ⟨hwaiting, by simp [remarkReportClaim, hreport]⟩

/-- A claim no longer needed is withdrawn, and the unit is in STANDBY (R152). -/
theorem withdrawReportClaim_weighing (hr : s.report.state = .claimed) :
    Weighing s (endRun (withdrawReportClaim { s with report := { s.report with state := .standby } })) where
  owner := .inl rfl
  waiting := rfl
  preempting := rfl
  released _ h _ := h
  sound hs := ⟨hs.slot, hs.oneClaim, hs.aborts, by
    rw [show (endRun (withdrawReportClaim { s with report := { s.report with state := .standby } })).line.owner = s.line.owner
      from rfl, hs.inCall, hr]
    simp, by simp⟩
  free _ hf ho := ⟨(hf ho).1, rfl⟩
  inCall h := absurd (h.symm.trans hr) (by decide)
  held _ := rfl
  posts := .of_eq rfl

/-- The backoff ends, and the unit is in STANDBY (R152, R163). -/
theorem LineMoves.rests (hr : s.report.state = .backoff) (hl : t.line = s.line) (hstandby : t.report.state = .standby) :
    LineMoves s t where
  owner := .inl (by rw [hl])
  waiting := by rw [hl]
  preempting := by rw [hl]
  released o h _ := by rwa [← hl]
  sound hs := ⟨by rw [hl]; exact hs.slot, by rw [hl]; exact hs.oneClaim, by rw [hl]; exact hs.aborts,
    by rw [hl, hs.inCall, hr, hstandby]; simp, by rw [hl, hs.claimed, hr, hstandby]; simp⟩
  free _ hf := by rw [hl]; exact hf

theorem weighAct_weighing (s : State) : Weighing s (weighAct s) := by
  unfold weighAct
  split
  case h_1 hr => exact .ite (fun _ => makeReportClaim_weighing hr) (fun _ => .refl s)
  case h_2 hr => exact .ite (fun _ => remarkReportClaim_weighing hr) (fun _ => withdrawReportClaim_weighing hr)
  case h_3 => exact .refl s
  case h_4 hr =>
    exact .ite (fun _ => .refl s) fun _ =>
      ⟨.rests hr rfl rfl, fun h => absurd (h.symm.trans hr) (by decide), fun _ => rfl, .of_eq rfl⟩

/-- A once-per-start notice of the report unit. -/
theorem postUnset_notice_weighing (k : NoticeKind) (fs : List Byte) (x y : Bool) (s : State) : Weighing s (postNotice k fs
    { s with report := { s.report with identityUnsetPosted := x, centreUnsetPosted := y } }) where
  toLineMoves := .of_eq (by simp) (by simp)
  inCall _ := by simp
  held _ := by simp
  posts := (postNotice_posts k fs _).of_ports rfl

theorem postUnset_weighing (s : State) : Weighing s (postUnset s) := by
  unfold postUnset
  simp only
  refine .ite (fun _ => .refl s) fun _ => .ite (fun _ => .ite (fun _ => .refl s) fun _ => ?_) fun _ =>
    .ite (fun _ => .ite (fun _ => .refl s) fun _ => ?_) fun _ => .refl s
  · exact postUnset_notice_weighing _ _ true _ s
  · exact postUnset_notice_weighing _ _ _ true s

theorem weigh_weighing (s : State) : Weighing s (weigh s) := by
  unfold weigh
  exact .ite (fun _ => .refl s) (fun _ => (postUnset_weighing s).trans (weighAct_weighing _))

/-! ### Raisings, clears and the store's waiting work -/

theorem deriveService_weighing (s : State) : Weighing s (deriveService s) := by
  unfold deriveService
  exact .ite (fun _ => .refl s) fun _ =>
    .of_eq (by simp) (by simp) ((postNotice_posts _ _ _).of_ports rfl)

theorem setEntry_weighing (i : Nat) (e : AlarmEntry) (s : State) : Weighing s (setEntry i e s) := .of_view rfl

theorem moveSource_weighing {m : AlarmMove} {i : Nat} (h : moveSource m i s = some t) : Weighing s t :=
  .of_view (by rw [moveSource_eq h])

theorem postRecord_weighing {ring : Ring} {rec : Record} {p : Place} (h : postRecord ring rec s = some (t, p)) :
    Weighing s t := by
  unfold postRecord at h
  split at h
  · simp at h
  next st place _ =>
    simp only at h
    have posted : Weighing s { s with store := st } := .of_view rfl
    split at h <;> (simp only [Option.some.injEq, Prod.mk.injEq] at h; obtain ⟨rfl, -⟩ := h)
    · exact posted.trans (postNotice_weighing _ _ _)
    · exact posted

theorem tellRaised_weighing (i : Nat) (s : State) : Weighing s (tellRaised i s) := by
  unfold tellRaised
  split
  · exact .refl s
  cases h : moveSource .resumed i s with
  | none => exact weigh_weighing s
  | some t => exact (moveSource_weighing h).trans (weigh_weighing t)

theorem raiseWith_weighing {lost : State → State} (hlost : ∀ s, Weighing s (lost s)) (i : Nat) (o : Origin) (s : State) :
    Weighing s (raiseWith lost i o s) := by
  have recorded (e e' : AlarmEntry) (rec : Record) : Weighing s (match postRecord .alarm rec (setEntry i e s) with
      | some (t, place) => setEntry i { e with latest := some place } t
      | none => lost (setEntry i e' (setEntry i e s))) := by
    split
    · next h => exact (setEntry_weighing i e s).trans ((postRecord_weighing h).trans (setEntry_weighing i _ _))
    · exact (setEntry_weighing i e s).trans ((setEntry_weighing i e' _).trans (hlost _))
  unfold raiseWith
  simp only
  refine .trans ?_ (tellRaised_weighing i _)
  split
  · exact ((recorded _ _ _).trans (postNotice_weighing _ _ _)).trans (deriveService_weighing _)
  · exact (recorded _ _ _).trans (postNotice_weighing _ _ _)

theorem raiseStore_weighing (s : State) : Weighing s (raiseStore s) := raiseWith_weighing .refl _ _ s

theorem raiseNow_weighing (i : Nat) (o : Origin) (s : State) : Weighing s (raiseNow i o s) := by
  unfold raiseNow
  exact .ite (fun _ => raiseWith_weighing .refl _ _ s) fun _ => raiseWith_weighing raiseStore_weighing _ _ s

theorem clearSource_weighing (i : Nat) (o : Origin) (s : State) : Weighing s (clearSource i o s) := by
  unfold clearSource
  simp only
  have emptied : Weighing s (if i < 8 then clearSensor i (setEntry i {} s) else setEntry i {} s) :=
    .ite (fun _ => .of_view rfl) fun _ => .of_view rfl
  refine .trans (.trans (.trans (emptied.trans ?_) (postNotice_weighing _ _ _)) (deriveService_weighing _)) (weigh_weighing _)
  generalize (if i < 8 then clearSensor i (setEntry i {} s) else setEntry i {} s) = t
  split
  · next h => exact postRecord_weighing h
  · exact .ite (fun _ => .refl t) fun _ => raiseStore_weighing t

theorem autoClear_weighing (i : Nat) (s : State) : Weighing s (autoClear i s) := by
  unfold autoClear
  split
  · exact .refl s
  · exact clearSource_weighing i _ s
  · exact clearSource_weighing i _ s
  · exact .of_view rfl

theorem askStoreClear_weighing (s : State) : Weighing s (askStoreClear s) := by
  unfold askStoreClear
  exact .ite (fun _ => autoClear_weighing _ s) fun _ => .refl s

theorem setStore_weighing (st : Store) (s : State) : Weighing s { s with store := st } := .of_view rfl

theorem queueRingErase_weighing (ring : Ring) (s : State) : Weighing s (queueRingErase ring s) := by
  unfold queueRingErase
  simp only
  have queued := setStore_weighing (queueOwedErase ring s.store) s
  exact .ite (fun _ => queued.trans ((postNotice_weighing _ _ _).trans (askStoreClear_weighing _))) fun _ => queued

theorem postOverflow_weighing (s : State) : Weighing s (postOverflow s) := by
  unfold postOverflow
  split
  · exact .refl s
  · next t _ h =>
    exact (postRecord_weighing h).trans ((setStore_weighing { t.store with totals := {} } t).trans (askStoreClear_weighing _))

theorem doWork_weighing (w : WaitingWork) (s : State) : Weighing s (doWork w s) := by
  cases w with
  | mark p => exact .of_view rfl
  | ringErase ring => exact queueRingErase_weighing ring s
  | saveErase => exact .of_view rfl
  | overflow => exact postOverflow_weighing s

theorem settleWork_weighing (n : Nat) (s : State) : Weighing s (settleWork n s) := by
  induction n generalizing s with
  | zero => exact .refl s
  | succ n ih =>
    unfold settleWork
    split
    · exact .refl s
    · exact (doWork_weighing _ s).trans (ih _)

theorem settleWaiting_weighing (s : State) : Weighing s (settleWaiting s) := settleWork_weighing _ s

theorem raise_weighing (i : Nat) (o : Origin) (s : State) : Weighing s (raise i o s) :=
  (settleWaiting_weighing s).trans (raiseNow_weighing i o _)

theorem postCallRing_weighing (rec : Record) (s : State) : Weighing s (postCallRing rec s) := by
  refine (settleWaiting_weighing s).trans ?_
  unfold postCallRing
  simp only
  split
  · next h => exact postRecord_weighing h
  · exact (setStore_weighing _ _).trans (raiseStore_weighing _)

theorem postReportedMark_weighing (p : Option Place) (s : State) : Weighing s (postReportedMark p s) := by
  unfold postReportedMark
  split
  · exact .refl s
  refine (settleWaiting_weighing s).trans ?_
  simp only
  split
  · exact setStore_weighing _ _
  · exact raiseStore_weighing _

theorem postResolvedMark_weighing (p : Place) (s : State) : Weighing s (postResolvedMark p s) := by
  refine (settleWaiting_weighing s).trans ?_
  unfold postResolvedMark
  simp only
  split <;> exact setStore_weighing _ _

theorem freedPlace_weighing (s : State) : Weighing s (freedPlace s) := by
  unfold freedPlace
  split
  case h_1 | h_2 => exact .of_view rfl
  all_goals exact .refl s

theorem leaveReporting_weighing (m : AlarmMove) (i : Nat) (s : State) : Weighing s (leaveReporting m i s) := by
  unfold leaveReporting
  split
  · exact .refl s
  · next h =>
    have moved := moveSource_weighing h
    exact .ite (fun _ => moved.trans (clearSource_weighing i _ _)) fun _ => moved

end Sys2Proof.Proofs
end

section
/-! PROOFS. What leaves the call at its place and the line its laws: setups, tariff, alarms, store, ports and recovery (O7). -/

namespace Sys2Proof.Proofs

open Sys2Proof Sys2Proof.Machine Sys2Proof.Laws

variable {s t u : State} {x y : CallState}

/-! ### The relation -/

/-- From `s` to `t` the call stands where it stood, with its number and timers, no carry and no settlement of the call has
begun, and the line has moved by weighings alone. -/
structure Steady (s t : State) : Prop extends LineMoves s t where
  state : t.call.state = s.call.state
  acceptance : t.call.acceptance = s.call.acceptance
  timer : t.call.timer = s.call.timer
  analyser : t.analyser = s.analyser
  carry : t.account.phase = .opened true → s.account.phase = .opened true
  settling : ∀ stage, t.account.phase = .settling stage false → ∃ stage, s.account.phase = .settling stage false

theorem Steady.refl (s : State) : Steady s s :=
  { LineMoves.of_eq (s := s) rfl rfl with
    state := rfl, acceptance := rfl, timer := rfl, analyser := rfl, carry := id, settling := fun stage h => ⟨stage, h⟩ }

theorem Steady.trans (h : Steady s t) (h' : Steady t u) : Steady s u where
  toLineMoves := h.toLineMoves.trans h'.toLineMoves
  state := h'.state.trans h.state
  acceptance := h'.acceptance.trans h.acceptance
  timer := h'.timer.trans h.timer
  analyser := h'.analyser.trans h.analyser
  carry hu := h.carry (h'.carry hu)
  settling stage hu := by
    obtain ⟨stage, ht⟩ := h'.settling stage hu
    exact h.settling stage ht

/-- What the laws of the line read of a state, the account's phase apart. -/
def lineView (s : State) :=
  (s.line, s.report.state, s.call.state, s.call.acceptance, s.call.timer, s.analyser)

/-- An update of what the laws do not read, with a phase in which no carry and no settlement of the call has begun. -/
theorem Steady.of_phase (h : lineView t = lineView s)
    (carry : t.account.phase = .opened true → s.account.phase = .opened true)
    (settling : ∀ stage, t.account.phase = .settling stage false → ∃ stage, s.account.phase = .settling stage false) :
    Steady s t := by
  simp only [lineView, Prod.mk.injEq] at h
  obtain ⟨hline, hreport, hstate, hacceptance, htimer, hanalyser⟩ := h
  exact { LineMoves.of_eq hline hreport with
    state := hstate, acceptance := hacceptance, timer := htimer, analyser := hanalyser, carry := carry, settling := settling }

theorem Steady.of_view (h : (lineView t, t.account.phase) = (lineView s, s.account.phase)) : Steady s t := by
  simp only [Prod.mk.injEq] at h
  obtain ⟨hview, hphase⟩ := h
  exact .of_phase hview (by rw [hphase]; exact id) (by rw [hphase]; exact fun stage hs => ⟨stage, hs⟩)

/-- What raises, clears or weighs. -/
theorem Steady.of_same (h : SameOutsideAlarm s t) (hm : LineMoves s t) : Steady s t := by
  obtain ⟨-, -, -, -, haccount, hanalyser, hcall, -, -, -⟩ := h
  exact { hm with
    state := by rw [hcall], acceptance := by rw [hcall], timer := by rw [hcall], analyser := hanalyser
    carry := by rw [haccount]; exact id, settling := by rw [haccount]; exact fun stage hs => ⟨stage, hs⟩ }

theorem Steady.ite {p : Prop} [Decidable p] (ht : Steady s t) (hu : Steady s u) : Steady s (if p then t else u) := by
  split
  · exact ht
  · exact hu

theorem Steady.of_state (h : t = s) : Steady s t := h ▸ .refl s

/-- A carry or a settlement begins in its own call state, whatever else the account does. -/
theorem CallFits.steady {acceptance : Option Acceptance} {timer : Option (CallTimer × Nat)} {a : Analyser}
    {p q : AccountPhase} (h : CallFits x acceptance timer a p) (carry : q = .opened true → p = .opened true)
    (settling : ∀ stage, q = .settling stage false → ∃ stage, p = .settling stage false) :
    CallFits x acceptance timer a q :=
  { h with
    carry := fun hq => h.carry (carry hq)
    settling := fun stage hq => by
      obtain ⟨stage, hp⟩ := settling stage hq
      exact h.settling stage hp }

theorem Steady.owed (h : Steady s t) (hs : LineOwed s) : LineOwed t where
  line := h.sound hs.line
  call := by rw [h.state]; exact h.callLine hs.call
  fits := by
    rw [h.state, h.acceptance, h.timer, h.analyser]
    exact hs.fits.steady h.carry h.settling

theorem Steady.held (h : Steady s t) (hs : LineHeld s) : LineHeld t :=
  ⟨h.owed hs.toLineOwed, h.free hs.line hs.free⟩

/-! ### The shared operations -/

theorem postNotice_steady (k : NoticeKind) (fs : List Byte) (s : State) : Steady s (postNotice k fs s) :=
  .of_same (postNotice_same k fs s) (postNotice_weighing k fs s).toLineMoves

theorem weigh_steady (s : State) : Steady s (weigh s) := .of_same (weigh_same s) (weigh_weighing s).toLineMoves

theorem raise_steady (i : Nat) (o : Origin) (s : State) : Steady s (raise i o s) :=
  .of_same (raise_same i o s) (raise_weighing i o s).toLineMoves

theorem clearSource_steady (i : Nat) (o : Origin) (s : State) : Steady s (clearSource i o s) :=
  .of_same (clearSource_same i o s) (clearSource_weighing i o s).toLineMoves

theorem autoClear_steady (i : Nat) (s : State) : Steady s (autoClear i s) :=
  .of_same (autoClear_same i s) (autoClear_weighing i s).toLineMoves

theorem deriveService_steady (s : State) : Steady s (deriveService s) :=
  .of_same (deriveService_same s) (deriveService_weighing s).toLineMoves

theorem settleWaiting_steady (s : State) : Steady s (settleWaiting s) :=
  .of_same (settleWaiting_same s) (settleWaiting_weighing s).toLineMoves

theorem postRecord_steady {ring : Ring} {rec : Record} {p : Place} (h : postRecord ring rec s = some (t, p)) : Steady s t :=
  .of_same (postRecord_same h) (postRecord_weighing h).toLineMoves

theorem postCallRing_steady (rec : Record) (s : State) : Steady s (postCallRing rec s) :=
  .of_same (postCallRing_same rec s) (postCallRing_weighing rec s).toLineMoves

theorem postReportedMark_steady (p : Option Place) (s : State) : Steady s (postReportedMark p s) :=
  .of_same (postReportedMark_same p s) (postReportedMark_weighing p s).toLineMoves

theorem postResolvedMark_steady (p : Place) (s : State) : Steady s (postResolvedMark p s) :=
  .of_same (postResolvedMark_same p s) (postResolvedMark_weighing p s).toLineMoves

theorem freedPlace_steady (s : State) : Steady s (freedPlace s) :=
  .of_same (freedPlace_same s) (freedPlace_weighing s).toLineMoves

theorem moveSource_steady {m : AlarmMove} {i : Nat} (h : moveSource m i s = some t) : Steady s t :=
  .of_same (moveSource_same h) (moveSource_weighing h).toLineMoves

theorem queueRingErase_steady (ring : Ring) (s : State) : Steady s (queueRingErase ring s) :=
  .of_same (queueRingErase_same ring s) (queueRingErase_weighing ring s).toLineMoves

theorem postOverflow_steady (s : State) : Steady s (postOverflow s) :=
  .of_same (postOverflow_same s) (postOverflow_weighing s).toLineMoves

theorem setCfg_steady (c : Configuration) (s : State) : Steady s { s with cfg := c } := .of_view rfl

theorem setTariff_steady (t : Tariff) (s : State) : Steady s { s with tariff := t } := .of_view rfl

theorem setCoin_steady (c : CoinUnit) (s : State) : Steady s { s with coin := c } := .of_view rfl

theorem setStore_steady (st : Store) (s : State) : Steady s { s with store := st } := .of_view rfl

theorem setSupply_steady (x : Supply) (s : State) : Steady s { s with supply := x } := .of_view rfl

/-! ### The tariff unit (R89 to R102) -/

theorem cancelSchedule_steady (s : State) : Steady s (cancelSchedule s) := by
  unfold cancelSchedule
  split
  · exact .refl s
  · exact (setTariff_steady _ s).trans (postNotice_steady _ _ _)

theorem writeTariff_steady (cls band : Nat) (e : Option TariffFields) (s : State) : Steady s (writeTariff cls band e s).1 := by
  unfold writeTariff
  split
  · exact .refl s
  · exact (setTariff_steady _ s).trans (cancelSchedule_steady _)

theorem postCommit_steady (s : State) : Steady s (postCommit s).1 := by
  have waiting := settleWaiting_steady s
  unfold postCommit
  simp only
  split
  · exact waiting
  split
  · exact waiting.trans (setStore_steady _ _)
  · exact waiting

theorem activate_steady (c : ActivationCause) (s : State) : Steady s (activate c s) := by
  unfold activate
  refine .trans (.trans ?_ (postCommit_steady _)) (postNotice_steady _ _ _)
  exact .of_view rfl

theorem compareSchedule_steady (s : State) : Steady s (compareSchedule s) := by
  unfold compareSchedule
  split
  · exact .refl s
  · exact .ite (activate_steady _ s) (setTariff_steady _ s)

theorem activateTariff_steady (time : Option DateTime) (s : State) : Steady s (activateTariff time s).1 := by
  unfold activateTariff scheduleActivation
  split
  · split
    · exact .refl s
    · exact activate_steady _ s
  split
  · exact .refl s
  split
  · exact .refl s
  split
  · exact activate_steady _ s
  · exact .of_view rfl

theorem setClock_steady (t : DateTime) (s : State) : Steady s (setClock t s).1 := by
  unfold setClock
  split
  · exact .refl s
  · exact (setTariff_steady _ s).trans (compareSchedule_steady _)

theorem writeDayType_steady (d : Option DayType) (points : List (Nat × Nat)) (s : State) :
    Steady s (writeDayType d points s).1 := by
  unfold writeDayType
  repeat' split
  all_goals exact .of_view rfl

theorem writeHoliday_steady (slot : Nat) (d : Option Date) (s : State) : Steady s (writeHoliday slot d s).1 := by
  unfold writeHoliday
  repeat' split
  all_goals exact .of_view rfl

theorem clockEnds_steady (s : State) : Steady s (clockEnds s) := by
  unfold clockEnds
  exact .ite (.refl s) ((setTariff_steady _ s).trans (postNotice_steady _ _ _))

theorem scheduledActivation_steady (s : State) : Steady s (match s.tariff.schedule with
    | .scheduled _ => activate .scheduled s
    | .none => s
    | .waitingClock _ => s) := by
  split
  · exact activate_steady _ s
  · exact .refl s
  · exact .refl s

/-! ### Settings and setups (R2, R15, R48, R130 to R150) -/

theorem writePlan_steady (entry : Nat) (f : PlanFields) (s : State) : Steady s (writePlan entry f s).1 := by
  unfold writePlan
  repeat' split
  all_goals exact .of_view rfl

theorem writeInterDigit_steady (n : Nat) (s : State) : Steady s (writeInterDigit n s).1 := by
  unfold writeInterDigit
  split <;> exact .of_view rfl

theorem writeRing_steady (n : Nat) (s : State) : Steady s (writeRing n s).1 := by
  unfold writeRing
  split <;> exact .of_view rfl

theorem writeCoin_steady (k v : Nat) (s : State) : Steady s (writeCoin k v s).1 := by
  unfold writeCoin
  repeat' split
  all_goals exact .of_view rfl

theorem writeCode_steady (code : Digits) (s : State) : Steady s (writeCode code s).1 := by
  unfold writeCode
  split <;> exact .of_view rfl

theorem checkNear_steady (s : State) : Steady s (checkNear s) := by
  rw [checkNear_eq]
  exact .of_view rfl

theorem checkFull_steady (wasBelow : Bool) (s : State) : Steady s (checkFull wasBelow s) := by
  unfold checkFull
  exact .ite (raise_steady _ _ s) (.refl s)

theorem writeCapacity_steady (n : Nat) (s : State) : Steady s (writeCapacity n s).1 := by
  unfold writeCapacity
  split
  · exact .refl s
  · exact (setCfg_steady _ s).trans ((checkNear_steady _).trans (checkFull_steady _ _))

theorem setCfg_weigh_steady (c : Configuration) (s : State) : Steady s (weigh { s with cfg := c }) :=
  (setCfg_steady c s).trans (weigh_steady _)

theorem writeSourceSetup_steady (i : Nat) (v : Option Severity) (m : Option Bool) (e : Option Effect) (s : State) :
    Steady s (writeSourceSetup i v m e s).1 := by
  unfold writeSourceSetup
  split
  · split
    · exact .refl s
    · exact (setCfg_steady _ s).trans ((deriveService_steady _).trans (weigh_steady _))
  · exact .refl s

theorem writeSensorSetup_steady (i : Nat) (mode : Option SensorMode) (threshold window : Nat) (s : State) :
    Steady s (writeSensorSetup i mode threshold window s).1 := by
  unfold writeSensorSetup
  repeat' split
  all_goals exact .of_view rfl

theorem writeThreshold_steady (t : Option Severity) (s : State) : Steady s (writeThreshold t s).1 := by
  unfold writeThreshold
  split
  · exact .refl s
  · exact setCfg_weigh_steady _ s

theorem writePriority_steady (m : Option PriorityMode) (s : State) : Steady s (writePriority m s).1 := by
  unfold writePriority
  split
  · exact .refl s
  · exact setCfg_weigh_steady _ s

theorem writePrimary_steady (n : Digits) (s : State) : Steady s (writePrimary n s).1 := by
  unfold writePrimary
  split
  · exact setCfg_weigh_steady _ s
  · exact .refl s

theorem writeFallback_steady (n : Digits) (s : State) : Steady s (writeFallback n s).1 := by
  unfold writeFallback
  split
  · exact setCfg_weigh_steady _ s
  · exact .refl s

/-! ### The alarm and report units (R132, R143, R163, R164) -/

theorem clearByHand_steady (p : Port) (i : Nat) (s : State) : Steady s (clearByHand p i s).1 := by
  unfold clearByHand
  split
  · exact .refl s
  · exact .refl s
  · exact clearSource_steady _ _ s
  · exact clearSource_steady _ _ s

theorem clearAlarm_steady (p : Port) (i : Nat) (s : State) : Steady s (clearAlarm p i s).1 := by
  unfold clearAlarm
  repeat' split
  case isFalse.isFalse.isFalse.isFalse => exact (settleWaiting_steady s).trans (clearByHand_steady _ _ _)
  all_goals exact .refl s

theorem sensorEdge_steady (i : Nat) (high : Bool) (s : State) : Steady s (sensorEdge i high s) := by
  unfold sensorEdge
  simp only
  exact .ite (.refl s) (.ite (.of_view rfl) (.ite (.trans (t := setSensor i _ s) (.of_view rfl) (raise_steady _ _ _))
    (.of_view rfl)))

theorem ackSources_steady (l : List Nat) (s : State) : Steady s (ackSources l s).1 := by
  induction l generalizing s with
  | nil => exact .refl s
  | cons i rest ih =>
    unfold ackSources
    split
    · exact ih s
    · next h => exact (moveSource_steady h).trans ((postReportedMark_steady _ _).trans (ih _))

theorem ackAlarms_steady (l : List Nat) (s : State) : Steady s (ackAlarms l s).1 := by
  unfold ackAlarms
  split
  · exact .refl s
  · exact (ackSources_steady _ s).trans (weigh_steady _)

theorem backoffEnds_steady (s : State) : Steady s (backoffEnds s) := by
  unfold backoffEnds
  split
  · next hr =>
    have rests : Steady s { s with report := { s.report with state := .standby, backoffUntil := none } } :=
      .of_same (same_refl s) (.rests hr rfl rfl)
    exact rests.trans (weigh_steady _)
  · exact .refl s

/-! ### The ports (R200 to R211) -/

theorem updatePort_steady (p : Port) (f : PortState → PortState) (s : State) : Steady s (updatePort p f s) := .of_view rfl

theorem answerPort_steady (p : Port) (r : Reply) (s : State) : Steady s (answerPort p r s) := updatePort_steady p _ s

theorem takeFrame_steady (p : Port) (s : State) : Steady s (takeFrame p s) := by
  unfold takeFrame
  exact .ite (.of_view rfl) (updatePort_steady p _ s)

theorem setNoticeMask_steady (p : Port) (m : Nat) (s : State) : Steady s (setNoticeMask p m s).1 := by
  unfold setNoticeMask
  split <;> exact .of_view rfl

theorem fetchNotices_steady (p : Port) (s : State) : Steady s (fetchNotices p s).1 := .of_view rfl

theorem frameEnds_steady (p : Port) (bytes : List Byte) (s : State) : Steady s (frameEnds p bytes s) := by
  unfold frameEnds
  split
  · exact .refl s
  split
  · exact .refl s
  · exact (takeFrame_steady p s).trans (answerPort_steady p _ _)

theorem takeRequest_steady (q : Request) (p : Port) {owner : State → State × Reply} (ho : ∀ s, Steady s (owner s).1)
    (s : State) : Steady s (takeRequest q p owner s) := by
  have taken := takeFrame_steady p s
  unfold takeRequest
  exact .ite (.refl s) (.ite (taken.trans (answerPort_steady p _ _)) (.ite (taken.trans (answerPort_steady p _ _))
    (taken.trans ((ho _).trans (answerPort_steady p _ _)))))

theorem takeRequest_held {q : Request} (p : Port) {owner : State → State × Reply}
    (ho : ∀ {s}, LineHeld s → LineHeld (owner s).1) (h : LineHeld s) : LineHeld (takeRequest q p owner s) := by
  have taken := takeFrame_steady p s
  have refused (r : Reply) := (taken.trans (answerPort_steady p r _)).held h
  unfold takeRequest
  split
  · exact h
  split
  · exact refused _
  split
  · exact refused _
  · exact (answerPort_steady p _ _).held (ho (taken.held h))

theorem whenAwake_steady {f : State → State} (hf : ∀ s, Steady s (f s)) (s : State) : Steady s (whenAwake f s) :=
  .ite (hf s) (.refl s)

theorem whenAwake_held {f : State → State} (hf : LineHeld s → LineHeld (f s)) (h : LineHeld s) :
    LineHeld (whenAwake f s) := by
  unfold whenAwake
  split
  · exact hf h
  · exact h

/-! ### The record store (R166 to R190) -/

theorem programDone_steady (s : State) : Steady s (programDone s) := by
  unfold programDone
  split
  · exact .ite (setStore_steady _ s) ((setStore_steady _ s).trans (freedPlace_steady _))
  · exact .refl s

theorem identityLocked_steady (s : State) : Steady s (identityLocked s) := by
  refine .trans ?_ (weigh_steady _)
  exact .of_view (by simp [lineView])

theorem afterMark_steady (k : MarkKind) (s : State) : Steady s (afterMark k s) := by
  cases k with
  | lock => exact identityLocked_steady s
  | superseded => exact setStore_steady _ s
  | acknowledged | reported | resolved => exact .refl s

theorem markProgramDone_steady (s : State) : Steady s (markProgramDone s) := by
  unfold markProgramDone
  split
  · exact (setStore_steady _ s).trans ((afterMark_steady _ _).trans (freedPlace_steady _))
  · exact .refl s

theorem commitErased_steady (j : EraseJob) (s : State) : Steady s (commitErased j s) := setStore_steady _ s

theorem eraseDone_steady (s : State) : Steady s (eraseDone s) := by
  unfold eraseDone
  split
  · exact .refl s
  · exact .ite (.refl s) (.ite (commitErased_steady _ s) ((setStore_steady _ s).trans (freedPlace_steady _)))

theorem finishCommit_steady (sector : Nat) (cfg : Configuration) (s : State) : Steady s (finishCommit sector cfg s) := by
  unfold finishCommit
  refine .trans ?_ (postNotice_steady _ _ _)
  exact .of_view rfl

theorem commitDone_steady (s : State) : Steady s (commitDone s) := by
  have finished (sector : Nat) (cfg : Configuration) (u : State) : Steady u (freedPlace (finishCommit sector cfg u)) :=
    (finishCommit_steady sector cfg u).trans (freedPlace_steady _)
  unfold commitDone
  split
  · exact .refl s
  split
  · exact .refl s
  split
  · exact finished _ _ s
  · exact (commitErased_steady _ s).trans (finished _ _ _)
  · exact (commitErased_steady _ s).trans (finished _ _ _)
  · exact .refl s
  · exact .refl s

theorem readRecords_steady (ring : Option Ring) (offset count : Nat) (s : State) :
    Steady s (readRecords ring offset count s).1 := by
  unfold readRecords
  repeat' split
  all_goals exact .of_view rfl

theorem readReady_steady (s : State) : Steady s (readReady s) := by
  unfold readReady
  split
  · exact .refl s
  · exact .ite ((setStore_steady _ s).trans (answerPort_steady _ _ _)) (.refl s)

theorem ackRecords_steady (ring : Option Ring) (count : Nat) (s : State) : Steady s (ackRecords ring count s).1 := by
  unfold ackRecords
  split
  · exact .refl s
  split
  · exact .refl s
  split
  · exact .refl s
  simp only
  split
  · exact settleWaiting_steady s
  · exact (settleWaiting_steady s).trans (setStore_steady _ _)

theorem commitConfig_steady (s : State) : Steady s (commitConfig s).1 := by
  unfold commitConfig
  split <;> exact postCommit_steady s

theorem writeIdentity_steady (terminal : Digits) (site : Nat) (s : State) : Steady s (writeIdentity terminal site s).1 := by
  unfold writeIdentity
  split
  · exact .refl s
  split
  · exact .refl s
  simp only
  split
  · exact (settleWaiting_steady s).trans (setStore_steady _ _)
  · exact settleWaiting_steady s

theorem lockIdentity_steady (s : State) : Steady s (lockIdentity s).1 := by
  unfold lockIdentity
  split
  · exact .refl s
  simp only
  split
  · exact settleWaiting_steady s
  · exact (settleWaiting_steady s).trans (setStore_steady _ _)

/-! ### The supply and the later steps of recovery (R188 to R190, R197, R198) -/

theorem setSupplyState_steady (x : SupplyState) (s : State) : Steady s (setSupplyState x s) :=
  (setSupply_steady _ s).trans (postNotice_steady _ _ _)

theorem warnFalls_steady (s : State) : Steady s (warnFalls s) := by
  have stopped := (setSupplyState_steady .warn s).trans (setStore_steady (stopErase (setSupplyState .warn s).store) _)
  have settled := stopped.trans (settleWaiting_steady _)
  unfold warnFalls
  exact .ite settled (settled.trans (setStore_steady _ _))

theorem warnRises_steady (s : State) : Steady s (warnRises s) :=
  (setSupplyState_steady .normal s).trans (setStore_steady _ _)

theorem setRecovery_steady (r : Recovery) (s : State) : Steady s (setRecovery r s) := .of_view rfl

theorem setTube_steady (b : Bool) (s : State) : Steady s (setTube b s) := .of_view rfl

theorem endResolution_steady (blocked : Bool) (r : Recovery) (s : State) : Steady s (endResolution blocked r s) := by
  have flushed : Steady s (if r.cycles = 0 then s else raise srcSupply .recovery s) := .ite (.refl s) (raise_steady _ _ s)
  have stuck (u : State) : Steady u (if blocked then raise srcReturnBlocked .recovery u else u) :=
    .ite (raise_steady _ _ u) (.refl u)
  have recorded (u : State) : Steady u (if recordDue r then postCallRing (.recovered (recoveredRecord r u)) u else u) :=
    .ite (postCallRing_steady _ u) (.refl u)
  have marked (u : State) : Steady u (match r.save with
      | some (p, _) => postResolvedMark p u
      | none => u) := by
    split
    · exact postResolvedMark_steady _ u
    · exact .refl u
  exact flushed.trans ((stuck _).trans ((recorded _).trans ((marked _).trans (setRecovery_steady _ _))))

theorem beginCycle_steady (r : Recovery) (s : State) : Steady s (beginCycle r s) := by
  unfold beginCycle
  exact .ite (setRecovery_steady _ s) (setRecovery_steady _ s)

theorem sensorCheck_steady (coins : Bool) (s : State) : Steady s (sensorCheck coins s) := by
  unfold sensorCheck
  split
  · exact .refl s
  · exact .ite (.refl s) (.ite ((setTube_steady true s).trans (beginCycle_steady _ _))
      ((setTube_steady false s).trans (endResolution_steady _ _ _)))

theorem flushWindowEnds_steady (coins : Bool) (s : State) : Steady s (flushWindowEnds coins s) := by
  unfold flushWindowEnds
  split
  · exact .refl s
  · exact .ite (.refl s) (.ite ((setTube_steady false s).trans (endResolution_steady _ _ _))
      (.ite ((setTube_steady true s).trans (endResolution_steady _ _ _))
        ((setTube_steady true s).trans (beginCycle_steady _ _))))

theorem endRecovery_steady (r : Recovery) (s : State) : Steady s (endRecovery r s) := by
  unfold endRecovery
  simp only
  generalize hu : postNotice .started _ _ = u
  have noticed : Steady s u :=
    hu ▸ ((setStore_steady _ s).trans (settleWaiting_steady _)).trans (postNotice_steady _ _ _)
  exact noticed.trans (.trans (t := watchHook { u with supply := { u.supply with recovery := none } }) (.of_view rfl)
    (weigh_steady _))

theorem housekeeping_steady (s : State) : Steady s (housekeeping s) := by
  unfold housekeeping
  split
  · exact .refl s
  · exact .ite (endRecovery_steady _ s) (.refl s)

theorem tick_steady (s : State) : Steady s (tick s) := .of_view rfl

end Sys2Proof.Proofs
end

section
/-! PROOFS. Numbers, claims of the line, clearing and metering keep the laws of the line (O7). -/

namespace Sys2Proof.Proofs

open Sys2Proof Sys2Proof.Machine Sys2Proof.Laws

variable {s t : State} {l : Line} {r : ReportState} {x y : CallState}

/-! ### Changes of call state -/

/-- No carry and no settlement of the call runs. -/
structure PlainPhase (p : AccountPhase) : Prop where
  carry : p ≠ .opened true
  settling : ∀ stage, p ≠ .settling stage false

/-- A state that needs no ownership to begin or to end keeps the customer's part of the line. -/
theorem CallLine.move (h : CallLine l x) (holds : holdsLine y = holdsLine x) (waits : x = .waitLine → y = .waitLine)
    (cleared : x = .clearing → y = .clearing) : CallLine l y :=
  ⟨by rw [holds]; exact h.owns, fun hw => waits (h.waits hw), fun o ho hb => cleared (h.released o ho hb)⟩

/-- The line in a state in which a call has nothing of it. -/
structure Unclaimed (l : Line) : Prop where
  owner : l.owner ≠ .customer
  waiting : l.waitingCustomer = none
  preempting : l.preempting = none
  released : ∀ o, l.slot = some o → o.body ≠ .release

theorem CallLine.unclaimed (h : CallLine l x) (holds : holdsLine x = false) (hw : x ≠ .waitLine) : Unclaimed l := by
  have claims : ¬ (l.waitingCustomer ≠ none ∨ l.preempting ≠ none) := fun hc => hw (h.waits hc)
  simp only [not_or, not_not] at claims
  refine ⟨fun ho => absurd (h.owns.1 ho) (by simp [holds]), claims.1, claims.2, fun o ho hb => ?_⟩
  simp [h.released o ho hb, holdsLine] at holds

theorem Unclaimed.callLine (h : Unclaimed l) (holds : holdsLine x = false) : CallLine l x :=
  ⟨by simp [h.owner, holds], by simp [h.waiting, h.preempting], fun o ho hb => absurd hb (h.released o ho)⟩

section
variable {acceptance : Option Acceptance} {timer : Option (CallTimer × Nat)} {a : Analyser} {p : AccountPhase}

theorem CallFits.plain (h : CallFits x acceptance timer a p) (ha : x ≠ .afterCall) (hs : x ≠ .settling) : PlainPhase p :=
  ⟨fun hp => ha (h.carry hp), fun stage hp => hs (h.settling stage hp)⟩

theorem CallFits.no_analysis (h : CallFits x acceptance timer a p) (hx : x ≠ .collecting) : a.timer = none := by
  by_contra ha
  exact hx (h.analysis ha).1

/-- The timer of a state without a timer of its own is the follow-on timer, which no state stops. -/
theorem CallFits.timer_moves (h : CallFits x acceptance timer a p) (hc : x ≠ .waitCoins) (hw : x ≠ .waitLine)
    (hr : x ≠ .alerting) : ∀ k u, timer = some (k, u) → timerBelongs k y := by
  intro k u ht
  have belongs := h.timer k u ht
  cases k with
  | deposit => exact absurd belongs hc
  | lineWait => exact absurd belongs hw
  | ring => exact absurd belongs hr
  | followOn => trivial

theorem CallFits.of_plain (hp : PlainPhase p) (ha : a.timer = none) (numbered : x = .waitLine → acceptance ≠ none)
    (ht : ∀ k u, timer = some (k, u) → timerBelongs k x) : CallFits x acceptance timer a p :=
  ⟨numbered, ht, fun h => absurd ha h, fun h => absurd h hp.carry, fun stage h => absurd h (hp.settling stage)⟩

end

theorem setCallState_owed (hl : LineSound s.line s.report.state) (hc : CallLine s.line x)
    (hf : CallFits x s.call.acceptance s.call.timer s.analyser s.account.phase) : LineOwed (setCallState x s) := by
  obtain ⟨p, hp⟩ := setCallState_writes x s
  rw [hp]
  exact ⟨hl, hc, hf⟩

theorem setCallState_held (hl : LineSound s.line s.report.state) (hfree : FreeOfClaims s.line) (hc : CallLine s.line x)
    (hf : CallFits x s.call.acceptance s.call.timer s.analyser s.account.phase) : LineHeld (setCallState x s) :=
  ⟨setCallState_owed hl hc hf, by simpa using hfree⟩

theorem LineHeld.ite {p : Prop} [Decidable p] (h : LineHeld s) (ht : p → LineHeld t) : LineHeld (if p then t else s) := by
  split
  · exact ht (by assumption)
  · exact h

/-! ### Claims and grants (R67, R114 to R117) -/

/-- An order of the owner enters the slot of its line. -/
theorem LineSound.posted (h : LineSound s.line r) {body : OrderBody} {limit : Nat} (hs : serves body s.line.owner)
    (hp : s.line.preempting ≠ none → orderKind body = .abort) : LineSound (lineWithOrder body limit s) r where
  slot o ho := by
    obtain rfl := Option.some.inj ho
    exact ⟨rfl, hs⟩
  oneClaim := h.oneClaim
  aborts hpre := by simpa [currentKind, lineWithOrder] using hp hpre
  inCall := h.inCall
  claimed := h.claimed

/-- The claim of a call in WAIT_LINE is granted on a free line. -/
theorem grantCustomer_held (hl : LineSound s.line s.report.state) (ho : s.line.owner = .nobody)
    (hw : s.line.waitingCustomer = none)
    (hf : CallFits .waitLine s.call.acceptance s.call.timer s.analyser s.account.phase) : LineHeld (grantCustomer s) := by
  obtain ⟨a, ha⟩ := Option.ne_none_iff_exists'.1 (hf.numbered rfl)
  have hp := hl.preempting_none ho
  have owned : LineSound { s.line with owner := .customer } s.report.state :=
    ⟨by simp [hl.slot_none ho], hl.oneClaim, fun h => absurd hp h, by rw [← hl.inCall, ho]; simp, hl.claimed⟩
  obtain ⟨hline, hcall, hwrites⟩ := grantCustomer_granted ha (hl.slot_none ho)
  rw [hwrites, hline, hcall]
  refine ⟨⟨?_, ⟨?_, ?_, ?_⟩, ?_⟩, ?_⟩
  · exact LineSound.posted (s := { s with line := { s.line with owner := .customer } }) owned rfl (fun h => absurd hp h)
  · simp [lineWithOrder, holdsLine]
  · simp [lineWithOrder, hp, hw]
  · rintro o ho hb
    obtain rfl := Option.some.inj ho
    cases hb
  · exact .of_plain (hf.plain (by decide) (by decide)) (hf.no_analysis (by decide)) nofun nofun
  · exact nofun

/-- A claim on an owned line: held already, pre-empting with its ABORT, or waiting. -/
theorem makeCustomerClaim_keeps (e : Bool) (hx : s.call.state = .waitLine) (h : LineHeld s) :
    LineHeld (makeCustomerClaim e s) := by
  have hcustomer : s.line.owner ≠ .customer := fun ho => by simpa [hx, holdsLine] using h.call.owns.1 ho
  by_cases hc : customerClaimHeld s.line = true
  · rwa [makeCustomerClaim_held hc]
  have hc : customerClaimHeld s.line = false := by simpa using hc
  have unheld := (customerClaimHeld_iff s.line).not.1 (by simp [hc])
  simp only [not_or, not_not] at unheld
  obtain ⟨-, hw, hp⟩ := unheld
  by_cases ho : s.line.owner = .nobody
  · rw [makeCustomerClaim_free ho hc]
    exact grantCustomer_held h.line ho hw (hx ▸ h.fits)
  obtain ⟨preempts, waits⟩ := makeCustomerClaim_owned (e := e) ho hc
  have free {l : Line} (hl : l.owner = s.line.owner) : FreeOfClaims l := fun hn => absurd (hl.symm.trans hn) ho
  by_cases hpre : Preempts e s
  · have kept (hk : currentKind s.line = some .abort) : LineSound { s.line with preempting := some e } s.report.state :=
      ⟨h.line.slot, .inl hw, fun _ => hk, h.line.inCall, h.line.claimed⟩
    rw [preempts hpre]
    by_cases hk : currentKind s.line = some .abort
    · rw [startPreemption_current hk]
      exact ⟨⟨kept hk, ⟨h.call.owns, fun _ => hx, h.call.released⟩, h.fits⟩, free rfl⟩
    · rw [startPreemption_posts hk]
      have serve : serves (.abort false) s.line.owner := by
        cases hown : s.line.owner with
        | nobody => exact absurd hown ho
        | customer => exact absurd hown hcustomer
        | report => exact .inl rfl
        | centre => exact .inr rfl
      refine ⟨⟨⟨fun o hso => ?_, .inl hw, fun _ => rfl, h.line.inCall, h.line.claimed⟩,
        ⟨h.call.owns, fun _ => hx, fun o hso hb => ?_⟩, h.fits⟩, free rfl⟩
      · obtain rfl := Option.some.inj hso
        exact ⟨rfl, serve⟩
      · obtain rfl := Option.some.inj hso
        cases hb
  · rw [waits hpre]
    exact ⟨⟨⟨h.line.slot, .inr hp, fun hne => absurd hp hne, h.line.inCall, h.line.claimed⟩,
      ⟨h.call.owns, fun _ => hx, h.call.released⟩, h.fits⟩, free rfl⟩

/-- A call with a number claims the line (R67). -/
theorem enterWaitLine_held (h : LineHeld s) (holds : holdsLine s.call.state = false) (ha : s.call.state ≠ .afterCall)
    (hs : s.call.state ≠ .settling) (hnumber : s.call.acceptance ≠ none) (hanalyser : s.analyser.timer = none) :
    LineHeld (enterWaitLine s) := by
  refine makeCustomerClaim_keeps _ (congrArg Call.state (setCallState_call .waitLine s)) ?_
  obtain ⟨p, hp⟩ := setCallState_writes .waitLine s
  have line : CallLine s.line .waitLine :=
    h.call.move holds.symm (fun _ => rfl) (fun hx => by simp [hx, holdsLine] at holds)
  rw [hp]
  refine ⟨⟨h.line, line, .of_plain (h.fits.plain ha hs) hanalyser (fun _ => hnumber) fun k u hk => ?_⟩, h.free⟩
  obtain ⟨rfl, -⟩ := Prod.mk.inj (Option.some.inj hk)
  rfl

/-! ### The number (R53 to R58, R65, R68) -/

/-- A call in COLLECTING goes on without a digit timer to a state that holds nothing of the line. -/
theorem LineHeld.decided (h : LineHeld s) (hx : s.call.state = .collecting) (ha : s.analyser.timer = none)
    (holds : holdsLine x = false) (hw : x ≠ .waitLine) : LineHeld (setCallState x s) := by
  refine setCallState_held h.line h.free ((h.call.unclaimed (by simp [hx, holdsLine]) (by simp [hx])).callLine holds)
    (.of_plain (h.fits.plain (by simp [hx]) (by simp [hx])) ha (fun e => absurd e hw) (h.fits.timer_moves ?_ ?_ ?_))
  all_goals simp [hx]

/-- The analyser's part of a call in COLLECTING changes, with a timer only where it runs. -/
theorem LineHeld.analysed (h : LineHeld s) (hx : s.call.state = .collecting) (a : Analyser)
    (ha : a.timer ≠ none → analysisRuns a = true) (n : Option Acceptance) :
    LineHeld { s with call := { s.call with acceptance := n }, analyser := a } :=
  ⟨⟨h.line, h.call, ⟨by simp [hx], h.fits.timer, fun hn => ⟨hx, ha hn⟩, h.fits.carry, h.fits.settling⟩⟩, h.free⟩

theorem takeAcceptance_held {a : Acceptance} (h : LineHeld s) (hx : s.call.state = .collecting)
    (ha : s.analyser.timer = none) (hn : s.call.acceptance ≠ none) : LineHeld (takeAcceptance a s) := by
  unfold takeAcceptance
  split
  · exact enterWaitLine_held h (by simp [hx, holdsLine]) (by simp [hx]) (by simp [hx]) hn ha
  · obtain ⟨⟨hline, hcall, hfits⟩, hfree⟩ := h.decided hx ha (x := .waitCoins) rfl (by decide)
    refine ⟨⟨hline, hcall, { hfits with timer := fun k u hk => ?_ }⟩, hfree⟩
    obtain ⟨rfl, -⟩ := Prod.mk.inj (Option.some.inj hk)
    exact congrArg Call.state (setCallState_call .waitCoins s)

theorem acceptNumber_held (e : PlanEntry) (h : LineHeld s) (hx : s.call.state = .collecting) :
    LineHeld (acceptNumber e s) := by
  unfold acceptNumber
  exact takeAcceptance_held ((postNotice_steady _ _ _).held (h.analysed hx _ (by simp) _)) (by simpa using hx) (by simp)
    (by simp)

theorem fixOutcome_steady (o : CallOutcome) (k : Option Reason) (s : State) : Steady s (fixOutcome o k s) := by
  rw [fixOutcome_eq]
  exact .of_view rfl

theorem refuseNumber_held (k : Reason) (h : LineHeld s) (hx : s.call.state = .collecting) :
    LineHeld (refuseNumber k s) := by
  have refused : LineHeld { s with
      call := { s.call with acceptance := none }
      analyser := { s.analyser with state := .decided, timer := none, decision := some (.refused k) } } :=
    h.analysed hx _ (by simp) none
  have noted := (postNotice_steady .numberRefused (byte1 (reasonByte k) ++ byte1 s.analyser.buffer.length) _).held refused
  have fixed := (fixOutcome_steady .refused (some k) _).held noted
  exact fixed.decided (by simpa [fixOutcome_eq] using hx) (by simp) rfl (by decide)

theorem decideNumber_held (e : PlanEntry) (h : LineHeld s) (hx : s.call.state = .collecting) :
    LineHeld (decideNumber e s) := by
  unfold decideNumber
  split
  · exact refuseNumber_held _ h hx
  · exact acceptNumber_held _ h hx

theorem awaitNext_held (h : LineHeld s) (hx : s.call.state = .collecting) : LineHeld (awaitNext s) :=
  h.analysed hx _ (by simp [analysisRuns]) s.call.acceptance

theorem analyseDigit_held (d : Nat) (h : LineHeld s) (hx : s.call.state = .collecting) : LineHeld (analyseDigit d s) := by
  have keyed : LineHeld { s with analyser :=
      { s.analyser with buffer := s.analyser.buffer ++ [d], timer := none, decision := none } } :=
    h.analysed hx _ (by simp) s.call.acceptance
  unfold analyseDigit
  simp only
  split
  · exact refuseNumber_held _ keyed hx
  split
  · exact awaitNext_held keyed hx
  split
  · exact decideNumber_held _ keyed hx
  · exact awaitNext_held keyed hx

theorem interDigitEnds_held (h : LineHeld s) (hx : s.call.state = .collecting) : LineHeld (interDigitEnds s) := by
  unfold interDigitEnds
  split
  · exact refuseNumber_held _ h hx
  split
  · exact decideNumber_held _ h hx
  · exact refuseNumber_held _ h hx

/-- A digit timer runs in COLLECTING alone (R52, R53). -/
theorem LineHeld.collecting (h : LineHeld s) {k : DigitTimer} (hk : digitTimerRuns k s = true) :
    s.call.state = .collecting := by
  refine (h.fits.analysis ?_).1
  intro hn
  simp [digitTimerRuns, hn] at hk

/-- The call begins to collect a number: its analysis starts afresh. -/
theorem startAnalysis_held (hl : LineSound s.line s.report.state) (hfree : FreeOfClaims s.line) (hu : Unclaimed s.line)
    (hp : PlainPhase s.account.phase) (ht : ∀ k u, s.call.timer = some (k, u) → timerBelongs k .collecting) :
    LineHeld (setCallState .collecting (startAnalysis s)) := by
  refine setCallState_held hl hfree (hu.callLine rfl) ⟨by simp, ht, fun _ => ⟨rfl, rfl⟩, fun h => absurd h hp.carry,
    fun stage h => absurd h (hp.settling stage)⟩

theorem abandonNumber_held (hl : LineSound s.line s.report.state) (hfree : FreeOfClaims s.line) (hu : Unclaimed s.line)
    (hp : PlainPhase s.account.phase) : LineHeld (abandonNumber s) := by
  unfold abandonNumber
  exact startAnalysis_held (s := { stopCallTimer s with call := { (stopCallTimer s).call with acceptance := none } }) hl hfree
    hu hp (by simp)

/-- The call's claim is withdrawn: it has nothing of the line (R114). -/
theorem withdrawCustomerClaim_unclaimed (hc : CallLine s.line x) (holds : holdsLine x = false) :
    Unclaimed (withdrawCustomerClaim s).line :=
  ⟨fun ho => by simpa [holds] using hc.owns.1 ho, rfl, rfl, fun o ho hb => by
    simp [hc.released o ho hb, holdsLine] at holds⟩

theorem withdrawCustomerClaim_sound (hl : LineSound s.line r) : LineSound (withdrawCustomerClaim s).line r :=
  ⟨hl.slot, .inl rfl, fun h => absurd rfl h, hl.inCall, hl.claimed⟩

theorem withdrawCustomerClaim_free (hf : FreeOfClaims s.line) : FreeOfClaims (withdrawCustomerClaim s).line :=
  fun ho => ⟨rfl, (hf ho).2⟩

theorem keyForCancel_held (h : LineHeld s) : LineHeld (keyForCancel s).1 := by
  unfold keyForCancel
  split
  case h_1 hx => exact h.analysed hx { state := .awaitingFirst, timer := _ } (by simp [analysisRuns]) s.call.acceptance
  case h_2 hx =>
    exact abandonNumber_held h.line h.free (h.call.unclaimed (by simp [hx, holdsLine]) (by simp [hx]))
      (h.fits.plain (by simp [hx]) (by simp [hx]))
  case h_3 hx =>
    exact abandonNumber_held (withdrawCustomerClaim_sound h.line) (withdrawCustomerClaim_free h.free)
      (withdrawCustomerClaim_unclaimed h.call (by simp [hx, holdsLine])) (h.fits.plain (by simp [hx]) (by simp [hx]))
  all_goals exact h

/-! ### The report of credit (R32, R66, R107, R110) -/

theorem reportToCall_held (h : LineHeld s) : LineHeld (reportToCall s) := by
  unfold reportToCall
  split
  · next a hx ha =>
    refine .ite h fun _ => ?_
    have stopped : LineHeld (stopCallTimer s) := ⟨⟨h.line, h.call, { h.fits with timer := by simp }⟩, h.free⟩
    exact enterWaitLine_held stopped (by simp [hx, holdsLine]) (by simp [hx]) (by simp [hx]) (by simp [ha])
      (h.fits.no_analysis (by simp [hx]))
  · exact h

theorem setMeter_steady (m : Metering) (s : State) : Steady s (setMeter m s) := setTariff_steady _ s

/-- CONNECTED and WARNING are one state but for the warning (R72). -/
theorem answered_moves (h : LineHeld s) (hx : answered s.call.state = true) (hy : answered y = true) :
    LineHeld (setCallState y s) := by
  have hx : s.call.state = .connected ∨ s.call.state = .warning := by simpa [answered] using hx
  have hy : y = .connected ∨ y = .warning := by simpa [answered] using hy
  have fits : CallFits y s.call.acceptance s.call.timer s.analyser s.account.phase := by
    rcases hx with hx | hx
    all_goals
      exact .of_plain (h.fits.plain (by simp [hx]) (by simp [hx])) (h.fits.no_analysis (by simp [hx]))
        (by rcases hy with hy | hy <;> simp [hy]) (h.fits.timer_moves (by simp [hx]) (by simp [hx]) (by simp [hx]))
  refine setCallState_held h.line h.free (h.call.move ?_ ?_ ?_) fits
  · rcases hx with hx | hx <;> rcases hy with hy | hy <;> simp [hx, hy, holdsLine]
  · rcases hx with hx | hx <;> simp [hx]
  · rcases hx with hx | hx <;> simp [hx]

theorem sendWarning_held (amount : Nat) (h : LineHeld s) : LineHeld (sendWarning amount s) := by
  have warned : LineHeld (setWarned true s) := (setTariff_steady _ s).held h
  unfold sendWarning
  refine (postNotice_steady _ _ _).held (warned.ite fun hx => answered_moves warned ?_ rfl)
  simpa [answered] using .inl hx

theorem sendOk_held (h : LineHeld s) : LineHeld (sendOk s) := by
  have warned : LineHeld (setWarned false s) := (setTariff_steady _ s).held h
  unfold sendOk
  refine (postNotice_steady _ _ _).held (warned.ite fun hx => answered_moves warned ?_ rfl)
  simpa [answered] using .inr hx

theorem judge_held (amount : Nat) (h : LineHeld s) : LineHeld (judge amount s) := by
  unfold judge
  split
  · split
    · exact h
    · exact sendWarning_held _ h
  · exact h.ite fun _ => sendOk_held h

theorem reportCredit_held (h : LineHeld s) : LineHeld (reportCredit s) := by
  have told := reportToCall_held h
  unfold reportCredit reportToTariff
  split
  · exact judge_held _ told
  · exact told

/-! ### Clearing (R74, R75, R108) -/

/-- A call that holds the line claims none. -/
theorem CallLine.claimless (h : CallLine l x) (ho : l.owner = .customer) :
    l.waitingCustomer = none ∧ l.preempting = none := by
  have unclaimed : ¬ (l.waitingCustomer ≠ none ∨ l.preempting ≠ none) := fun hc => by
    simpa [h.waits hc, holdsLine] using h.owns.1 ho
  simpa only [not_or, not_not] using unclaimed

/-- A call that holds the line enters CLEARING. -/
theorem enterClearing_held (o : CallOutcome) (h : LineHeld s) (holds : holdsLine s.call.state = true) :
    LineHeld (enterClearing o s) := by
  have howner : s.line.owner = .customer := h.call.owns.2 holds
  obtain ⟨hw, hp⟩ := h.call.claimless howner
  have fits : CallFits .clearing s.call.acceptance none s.analyser s.account.phase :=
    .of_plain (h.fits.plain (fun hx => by simp [hx, holdsLine] at holds) (fun hx => by simp [hx, holdsLine] at holds))
      (h.fits.no_analysis (fun hx => by simp [hx, holdsLine] at holds)) (by simp) (by simp)
  obtain ⟨p, hwrites⟩ := enterClearing_writes o s
  rw [hwrites, if_pos howner]
  exact ⟨⟨h.line.posted howner (fun hne => absurd hp hne),
    ⟨by simp [lineWithOrder, howner, holdsLine], by simp [lineWithOrder, hw, hp], fun _ _ _ => rfl⟩, fits⟩,
    fun hn => absurd (howner.symm.trans hn) (by decide)⟩

theorem holdsLine_of_answered (hx : answered x = true) : holdsLine x = true := by
  have hx : x = .connected ∨ x = .warning := by simpa [answered] using hx
  rcases hx with rfl | rfl <;> rfl

theorem forcedClear_held (h : LineHeld s) : LineHeld (forcedClear s) := by
  have forced : LineHeld { s with tariff := { s.tariff with meter :=
      { s.tariff.meter with state := .forced, periodUntil := none } } } := (setTariff_steady _ s).held h
  unfold forcedClear
  exact forced.ite fun hx => enterClearing_held _ forced (holdsLine_of_answered hx)

/-! ### Charges and metering (R33, R34, R103 to R110) -/

theorem shortfallFor_steady (k : Nat) (s : State) : Steady s (shortfallFor k s) := by
  induction k generalizing s with
  | zero => exact .refl s
  | succ k ih =>
    unfold shortfallFor
    refine .ite (.refl s) ?_
    split
    · exact .refl s
    · next t ht =>
      have posted : Steady s { t with account := { t.account with n := t.account.n + 1 } } := by
        unfold postCollect at ht
        split at ht
        · cases ht
        · obtain rfl := Option.some.inj ht
          exact .of_view rfl
      exact posted.trans (ih _)

theorem shortfall_steady (s : State) : Steady s (shortfall s) := shortfallFor_steady _ s

theorem chargedAccount_phase (m : Nat) (a : Account) : (chargedAccount m a).phase = a.phase := by
  unfold chargedAccount
  split <;> rfl

theorem charge_steady (m : Nat) (s : State) : Steady s (charge m s) := by
  have charged : Steady s { s with account := chargedAccount m s.account } :=
    .of_view (by simp [lineView, chargedAccount_phase])
  unfold charge
  exact .ite (charged.trans (shortfall_steady _)) (.refl s)

theorem forceQuietly_steady (s : State) : Steady s (forceQuietly s) := setMeter_steady _ s

theorem startStep_held (first : Bool) (e : TariffEntry) (h : LineHeld s) : LineHeld (startStep first e s) := by
  unfold startStep
  exact ((setMeter_steady _ s).held h).ite fun _ => sendOk_held ((setMeter_steady _ s).held h)

theorem stepDue_held (first : Bool) (h : LineHeld s) : LineHeld (stepDue first s) := by
  have charged (m : Nat) := (charge_steady m s).held h
  unfold stepDue
  simp only
  split
  · exact forcedClear_held h
  split
  · exact startStep_held first _ (charged _)
  · exact forcedClear_held (charged _)
  · exact (forceQuietly_steady s).held h
  · exact (forceQuietly_steady s).held h

theorem setThreshold_held (h : LineHeld s) : LineHeld (setThreshold s) := by
  unfold setThreshold
  exact judge_held _ ((setMeter_steady _ s).held h)

theorem afterConnection_held (h : LineHeld s) : LineHeld (afterConnection s) := by
  unfold afterConnection
  simp only
  split
  · exact setThreshold_held ((setMeter_steady _ s).held h)
  split
  · exact stepDue_held true h
  · exact (setMeter_steady _ s).held h

theorem connectionCharge_held (h : LineHeld s) : LineHeld (connectionCharge s) := by
  have charged (m : Nat) := (charge_steady m s).held h
  unfold connectionCharge
  simp only
  split
  · exact afterConnection_held h
  split
  · refine forcedClear_held ?_
    split
    · exact h
    · exact charged _
  split
  · exact afterConnection_held (charged _)
  · exact forcedClear_held (charged _)
  · exact (forceQuietly_steady s).held h
  · exact (forceQuietly_steady s).held h

theorem startMetering_held (row : List TariffEntry) (h : LineHeld s) : LineHeld (startMetering row s) := by
  unfold startMetering
  split
  · exact h
  · exact connectionCharge_held ((setMeter_steady _ s).held h)

theorem meterPulse_held (h : LineHeld s) : LineHeld (meterPulse s) := by
  have counted (m : Nat) : LineHeld (countStep (charge m s)) :=
    (setMeter_steady _ _).held ((charge_steady m s).held h)
  unfold meterPulse
  simp only
  split
  · exact h
  split
  · exact setThreshold_held (counted _)
  · exact forcedClear_held (counted _)
  · exact (forceQuietly_steady s).held h
  · exact (forceQuietly_steady s).held h

theorem warningPoint_held (h : LineHeld s) : LineHeld (warningPoint s) := by
  unfold warningPoint
  exact judge_held _ ((setMeter_steady _ s).held h)

/-- ANSWER in ALERTING (R71). -/
theorem answerCall_held (h : LineHeld s) (hx : s.call.state = .alerting) : LineHeld (answerCall s) := by
  have connected : LineHeld (setCallState .connected (stopCallTimer s)) := by
    refine setCallState_held h.line h.free (h.call.move ?_ ?_ ?_)
      (.of_plain (h.fits.plain ?_ ?_) (h.fits.no_analysis ?_) (by simp) (by simp))
    all_goals simp [hx, holdsLine]
  have noted (b : Option Nat) (c : Option Nat) (d : Nat) (u : State) :
      Steady u { u with call := { u.call with bandAtAnswer := b, connectedSince := c, duration := d } } := .of_view rfl
  unfold answerCall
  simp only
  split
  · exact startMetering_held _ ((noted _ _ _ _).held connected)
  · exact (noted _ _ _ _).held connected

end Sys2Proof.Proofs
end

section
/-! PROOFS. The ends of a call and of a line ownership keep the laws of the line (O7). -/

namespace Sys2Proof.Proofs

open Sys2Proof Sys2Proof.Machine Sys2Proof.Laws

variable {s t u : State} {x y : CallState}

theorem LineHeld.of_view (h : LineHeld s) (hv : (lineView t, t.account.phase) = (lineView s, s.account.phase)) :
    LineHeld t := (Steady.of_view hv).held h

theorem LineHeld.of_phase (h : LineHeld s) (hv : lineView t = lineView s)
    (carry : t.account.phase = .opened true → s.account.phase = .opened true)
    (settling : ∀ stage, t.account.phase = .settling stage false → ∃ stage, s.account.phase = .settling stage false) :
    LineHeld t := (Steady.of_phase hv carry settling).held h

/-! ### A call that has nothing of the line -/

/-- A call in a state that neither holds the line nor claims it, with its timers and account as that state asks. -/
structure Parted (s : State) : Prop where
  holds : holdsLine s.call.state = false
  waits : s.call.state ≠ .waitLine
  fits : CallFits s.call.state s.call.acceptance s.call.timer s.analyser s.account.phase

/-- From `s` to `t` the call has come to have nothing of the line, which has moved by weighings alone. -/
structure Parts (s t : State) : Prop extends LineMoves s t where
  parted : Parted t

theorem LineMoves.unclaimed (h : LineMoves s t) (hu : Unclaimed s.line) : Unclaimed t.line :=
  ⟨fun ho => hu.owner (h.customer_iff.1 ho), h.waiting.trans hu.waiting, h.preempting.trans hu.preempting,
    fun o ho hb => hu.released o (h.released o ho hb) hb⟩

theorem Parts.owed (h : Parts s t) (hl : LineSound s.line s.report.state) (hu : Unclaimed s.line) : LineOwed t :=
  ⟨h.sound hl, (h.unclaimed hu).callLine h.parted.holds, h.parted.fits⟩

theorem Parts.held (h : Parts s t) (hl : LineSound s.line s.report.state) (hu : Unclaimed s.line)
    (hf : FreeOfClaims s.line) : LineHeld t := ⟨h.owed hl hu, h.free hl hf⟩

theorem Parts.after (hm : LineMoves s t) (h : Parts t u) : Parts s u := ⟨hm.trans h.toLineMoves, h.parted⟩

theorem Parts.of_line (h : Parts t u) (hl : t.line = s.line) (hr : t.report.state = s.report.state) : Parts s u :=
  .after (.of_eq hl hr) h

theorem Parts.then (h : Parts s t) (h' : Steady t u) : Parts s u where
  toLineMoves := h.toLineMoves.trans h'.toLineMoves
  parted := by
    refine ⟨h'.state ▸ h.parted.holds, h'.state ▸ h.parted.waits, ?_⟩
    rw [h'.state, h'.acceptance, h'.timer, h'.analyser]
    exact h.parted.fits.steady h'.carry h'.settling

theorem Steady.plain (h : Steady s t) (hp : PlainPhase s.account.phase) : PlainPhase t.account.phase :=
  ⟨fun ht => hp.carry (h.carry ht), fun stage ht => by
    obtain ⟨stage, hs⟩ := h.settling stage ht
    exact hp.settling stage hs⟩

theorem setCallState_moves (x : CallState) (s : State) : LineMoves s (setCallState x s) := by
  obtain ⟨p, hp⟩ := setCallState_writes x s
  rw [hp]
  exact .of_eq rfl rfl

theorem setCallState_parts (holds : holdsLine x = false) (hw : x ≠ .waitLine)
    (hf : CallFits x s.call.acceptance s.call.timer s.analyser s.account.phase) : Parts s (setCallState x s) := by
  obtain ⟨p, hp⟩ := setCallState_writes x s
  rw [hp]
  exact ⟨.of_eq rfl rfl, holds, hw, hf⟩

/-! ### The beginning of a call (R26, R64) -/

theorem openAccount_plain (hp : PlainPhase s.account.phase) : PlainPhase (openAccount s).account.phase := by
  unfold openAccount
  split
  · exact ⟨by simp, by simp⟩
  · exact hp

theorem openAccount_eq (s : State) : openAccount s = { s with account := (openAccount s).account } := by
  unfold openAccount
  split <;> rfl

theorem beginCall_parts (hp : PlainPhase s.account.phase)
    (ht : ∀ k u, s.call.timer = some (k, u) → timerBelongs k .collecting) : Parts s (beginCall s) := by
  have plain := openAccount_plain hp
  unfold beginCall
  simp only
  rw [openAccount_eq]
  refine Parts.of_line (setCallState_parts rfl nofun ⟨nofun, ?_, ?_, ?_, ?_⟩) rfl rfl
  · exact ht
  · exact fun _ => ⟨rfl, rfl⟩
  · exact fun h => absurd h plain.carry
  · exact fun stage h => absurd h (plain.settling stage)

/-! ### The end of a call (R36, R76, R84) -/

theorem postCallRecord_steady (f : Figures) (forfeited : Option Nat) (followOn : Bool) (s : State) :
    Steady s (postCallRecord f forfeited followOn s) := by
  unfold postCallRecord
  exact .ite (postCallRing_steady _ s) (.refl s)

/-- SETTLED ends the call: it is in IDLE, or in COLLECTING where an off-hook was held. -/
theorem finishCall_parts (f : Figures) (forfeited : Nat) (hp : PlainPhase s.account.phase) :
    Parts s (finishCall f forfeited s) := by
  have posted := postCallRecord_steady f (some forfeited) false s
  obtain ⟨p, hfinish⟩ := finishCall_eq (s := s) (f := f) (forfeited := forfeited) rfl
  rw [hfinish]
  generalize hu : { postCallRecord f (some forfeited) false s with
    call := _, analyser := _, supply := _, ports := p : State } = u
  have moves : LineMoves s u := hu ▸ posted.toLineMoves.trans (.of_eq rfl rfl)
  have plain : PlainPhase u.account.phase := hu ▸ posted.plain hp
  have stopped : u.call.timer = none := hu ▸ rfl
  unfold takeHeldOffHook
  split
  · exact .after moves ((beginCall_parts (s := { u with call := { u.call with heldOffHook := false } }) plain
      (by simp [stopped])).of_line rfl rfl)
  · have idle : u.call.state = .idle := hu ▸ rfl
    exact ⟨moves, by simp [idle, holdsLine], by simp [idle], .of_plain plain (hu ▸ rfl) (by simp [idle]) (by simp [stopped])⟩

theorem enterRefund_steady (s : State) : Steady s (enterRefund s) := by
  unfold enterRefund
  split
  · next r hr =>
    refine .ite ?_ (.refl s)
    have entered : Steady s { s with account := { s.account with phase := .settling .refund r } } :=
      .of_phase rfl nofun fun stage h => ⟨.collect, by cases h; exact hr⟩
    unfold postRefundAll
    exact entered.trans (.ite (.refl _) (setCoin_steady _ _))
  · exact .refl s

theorem leaveFlightStage_steady (s : State) : Steady s (leaveFlightStage s) := by
  unfold leaveFlightStage
  split
  · next r hr =>
    refine .ite ?_ (.refl s)
    have left : Steady s { s with account := { s.account with phase := .settling .collect r } } :=
      .of_phase rfl nofun fun stage h => ⟨.flight, by cases h; exact hr⟩
    exact left.trans ((shortfall_steady _).trans (enterRefund_steady _))
  · exact .refl s

theorem settleAccount_parts (hx : s.call.state = .settling) (ht : s.call.timer = none) (ha : s.analyser.timer = none) :
    Parts s (settleAccount s) := by
  have parted (b : Account) (hb : b.phase ≠ .opened true) : Parts s { s with account := b } :=
    ⟨.of_eq rfl rfl, by simp [hx, holdsLine], by simp [hx], ⟨by simp [hx], by simp [ht], fun h => absurd ha h,
      fun h => absurd h hb, fun _ _ => hx⟩⟩
  unfold settleAccount
  split
  · next hp => exact finishCall_parts _ _ ⟨by simp [hp], by simp [hp]⟩
  · exact (parted { s.account with phase := .settling .flight false } (by simp)).then (leaveFlightStage_steady _)
  · next hp => exact parted s.account (by simp [hp])

theorem enterSettling_parts (ha : s.analyser.timer = none) : Parts s (enterSettling s) := by
  obtain ⟨p, hp⟩ := setCallState_writes .settling (stopCallTimer s)
  unfold enterSettling
  rw [hp]
  exact (settleAccount_parts (s := { stopCallTimer s with
    call := { (stopCallTimer s).call with state := .settling }, ports := p }) rfl rfl ha).of_line rfl rfl

/-! ### Leaving CLEARING (R39, R77 to R79) -/

theorem leaveByMarks_parts (hp : PlainPhase s.account.phase) (ha : s.analyser.timer = none)
    (ht : ∀ k u, s.call.timer = some (k, u) → timerBelongs k .afterCall) : Parts s (leaveByMarks s) := by
  obtain ⟨p, hwrites⟩ := setCallState_writes .afterCall s
  unfold leaveByMarks
  split
  · exact enterSettling_parts ha
  split
  · rw [hwrites]
    unfold beginCarry
    split
    · refine .then (t := { s with
        call := { s.call with state := .afterCall }, account := { s.account with phase := .opened true }, ports := p }) ?_
        (shortfall_steady _)
      exact ⟨.of_eq rfl rfl, rfl, nofun, nofun, ht, fun h => absurd ha h, fun _ => rfl, nofun⟩
    · exact ⟨.of_eq rfl rfl, rfl, nofun, .of_plain hp ha nofun ht⟩
  · rw [hwrites]
    refine ⟨.of_eq rfl rfl, rfl, nofun, .of_plain hp ha nofun fun k u hk => ?_⟩
    obtain ⟨rfl, -⟩ := Prod.mk.inj (Option.some.inj hk)
    trivial

theorem stopCallWork_parts (o : CallOutcome) (hp : PlainPhase s.account.phase) (ha : s.analyser.timer = none) :
    Parts s (leaveByMarks (stopCallWork (fixOutcome o none s))) := by
  refine Parts.of_line (t := stopCallWork (fixOutcome o none s)) (leaveByMarks_parts ?_ ?_ ?_) ?_ ?_
  all_goals simp [stopCallWork_eq, fixOutcome_eq, hp, ha]

/-- A call that holds the line is told that its ownership has failed (R78). -/
theorem callFailed_parts (holds : holdsLine s.call.state = true)
    (hf : CallFits s.call.state s.call.acceptance s.call.timer s.analyser s.account.phase) : Parts s (callFailed s) := by
  have plain : PlainPhase s.account.phase :=
    hf.plain (fun hx => by simp [hx, holdsLine] at holds) (fun hx => by simp [hx, holdsLine] at holds)
  have quiet : s.analyser.timer = none := hf.no_analysis fun hx => by simp [hx, holdsLine] at holds
  unfold callFailed
  split
  case h_5 hx => exact leaveByMarks_parts plain quiet (hf.timer_moves (by simp [hx]) (by simp [hx]) (by simp [hx]))
  case h_1 | h_2 | h_3 | h_4 => exact stopCallWork_parts _ plain quiet
  all_goals
    rename_i hx
    simp [hx, holdsLine] at holds

/-- The call is told that its RELEASE is done (R77). -/
theorem releaseDone_parts (hx : s.call.state = .clearing)
    (hf : CallFits s.call.state s.call.acceptance s.call.timer s.analyser s.account.phase) : Parts s (releaseDone s) := by
  rw [releaseDone, if_pos hx]
  exact leaveByMarks_parts (hf.plain (by simp [hx]) (by simp [hx])) (hf.no_analysis (by simp [hx]))
    (hf.timer_moves (by simp [hx]) (by simp [hx]) (by simp [hx]))

/-! ### Hanging up (R76, R85) -/

theorem stopAnalysis_eq (s : State) : stopAnalysis s = { s with analyser := (stopAnalysis s).analyser } := by
  unfold stopAnalysis
  split <;> rfl

/-- A timer of an analysis goes with the analysis. -/
theorem stopAnalysis_timer (h : s.analyser.timer ≠ none → analysisRuns s.analyser = true) :
    (stopAnalysis s).analyser.timer = none := by
  unfold stopAnalysis
  split
  · rfl
  · next hr =>
    by_contra ht
    exact hr (h ht)

/-- A call that has nothing of the line settles. -/
theorem settles_held (h : LineHeld s) (holds : holdsLine s.call.state = false) (hw : s.call.state ≠ .waitLine)
    (hm : LineMoves s t) (ha : t.analyser.timer = none) : LineHeld (enterSettling t) :=
  (Parts.after hm (enterSettling_parts ha)).held h.line (h.call.unclaimed holds hw) h.free

theorem fixOutcome_moves (o : CallOutcome) (k : Option Reason) (s : State) : LineMoves s (fixOutcome o k s) :=
  (fixOutcome_steady o k s).toLineMoves

theorem hangUpCall_held (h : LineHeld s) : LineHeld (hangUpCall s) := by
  have marked : LineHeld (markHangUp s) := h.of_view rfl
  unfold hangUpCall
  split
  case h_1 => exact h
  case h_2 hx =>
    have stopped := stopAnalysis_timer fun hn => (h.fits.analysis hn).2
    have stops : LineMoves s (stopAnalysis s) := by
      rw [stopAnalysis_eq]
      exact .of_eq rfl rfl
    exact settles_held h (by simp [hx, holdsLine]) (by simp [hx]) (stops.trans (fixOutcome_moves _ _ _)) (by simpa using stopped)
  case h_3 hx =>
    exact settles_held h (by simp [hx, holdsLine]) (by simp [hx]) (fixOutcome_moves _ _ s)
      (by simpa using h.fits.no_analysis (by simp [hx]))
  case h_4 hx =>
    exact (Parts.after (fixOutcome_moves _ _ _)
        (enterSettling_parts (by simpa using h.fits.no_analysis (by simp [hx])))).held
      (withdrawCustomerClaim_sound h.line) (withdrawCustomerClaim_unclaimed h.call (by simp [hx, holdsLine]))
      (withdrawCustomerClaim_free h.free)
  case h_5 hx | h_6 hx | h_7 hx | h_8 hx =>
    exact enterClearing_held _ marked (by simp [markHangUp, hx, holdsLine])
  case h_9 => exact marked
  case h_10 hx | h_11 hx =>
    exact settles_held h (by simp [hx, holdsLine]) (by simp [hx]) (.of_eq rfl rfl) (h.fits.no_analysis (by simp [hx]))
  case h_12 => exact h.of_view rfl

theorem tellCallEnded_steady (s : State) : Steady s (tellCallEnded s) := by
  rw [tellCallEnded_eq]
  exact .of_view rfl

theorem endCallForRestart_held (h : LineHeld s) : LineHeld (endCallForRestart s) := by
  have ordered : LineHeld { s with call := { s.call with restartEnd := true, heldOffHook := false } } :=
    h.of_view rfl
  unfold endCallForRestart
  split
  · exact h
  simp only
  split
  · exact (tellCallEnded_steady _).held ordered
  · exact hangUpCall_held ordered

theorem requestRestart_held (m : Option RestartMode) (h : LineHeld s) : LineHeld (requestRestart m s).1 := by
  have ordered (x : RestartMode) : LineHeld (setRestart x s) := (setSupply_steady _ s).held h
  unfold requestRestart
  split
  · exact h
  · simp only
    split
    · exact h
    · exact ordered _
  · simp only
    split
    · exact h
    · exact endCallForRestart_held (ordered _)

theorem offHookEvent_held (h : LineHeld s) : LineHeld (offHookEvent s) := by
  have lifted : LineHeld { s with call := { s.call with hook := .off } } := h.of_view rfl
  have noted : LineHeld { s with call := { s.call with hook := .off, heldOffHook := true } } := h.of_view rfl
  unfold offHookEvent
  simp only
  split
  · exact h
  split
  · exact lifted
  split
  case h_1 hx =>
    have hx : s.call.state = .idle := hx
    have begins : Parts s (beginCall { s with call := { s.call with hook := .off } }) :=
      .of_line (t := { s with call := { s.call with hook := .off } }) (beginCall_parts
        (h.fits.plain (by simp [hx]) (by simp [hx])) (h.fits.timer_moves (by simp [hx]) (by simp [hx]) (by simp [hx])))
        rfl rfl
    exact begins.held h.line (h.call.unclaimed (by simp [hx, holdsLine]) (by simp [hx])) h.free
  case h_2 => exact noted
  case h_3 => exact lifted.ite fun _ => noted
  all_goals exact lifted

theorem offHook_held (h : LineHeld s) : LineHeld (offHook s) := by
  have lifted : LineHeld { s with call := { s.call with hookInput := true, holdFrom := none } } := h.of_view rfl
  unfold offHook
  simp only
  split
  · exact lifted
  · exact offHookEvent_held lifted

theorem onHook_held (h : LineHeld s) : LineHeld (onHook s) := by
  unfold onHook
  exact h.ite fun _ => hangUpCall_held (h.of_view rfl)

theorem hookFalls_held (h : LineHeld s) : LineHeld (hookFalls s) := by
  unfold hookFalls
  split <;> exact h.of_view rfl

/-! ### The call's timers (R66, R67, R71, R79) -/

/-- The call timer that runs belongs to the call's state. -/
theorem LineHeld.timer_state (h : LineHeld s) {k : CallTimer} (hk : callTimerRuns k s = true) :
    timerBelongs k s.call.state := by
  unfold callTimerRuns at hk
  split at hk
  · next k' u ht =>
    obtain rfl : k' = k := by simpa using hk
    exact h.fits.timer _ _ ht
  · cases hk

theorem stopCallTimer_held (h : LineHeld s) : LineHeld (stopCallTimer s) :=
  ⟨⟨h.line, h.call, { h.fits with timer := nofun }⟩, h.free⟩

theorem refuseCall_parts (k : Reason) (hp : PlainPhase s.account.phase) (ha : s.analyser.timer = none) :
    Parts s (refuseCall k s) := by
  refine Parts.of_line (t := fixOutcome .refused (some k) (stopCallTimer s))
    (setCallState_parts rfl nofun (.of_plain ?_ ?_ nofun ?_)) ?_ ?_
  all_goals simp [fixOutcome_eq, hp, ha]

theorem depositTimerEnds_held (h : LineHeld s) (hk : callTimerRuns .deposit s = true) :
    LineHeld (refuseCall .noDeposit s) := by
  have hx : s.call.state = .waitCoins := h.timer_state hk
  exact (refuseCall_parts _ (h.fits.plain (by simp [hx]) (by simp [hx])) (h.fits.no_analysis (by simp [hx]))).held h.line
    (h.call.unclaimed (by simp [hx, holdsLine]) (by simp [hx])) h.free

theorem lineWaitTimerEnds_held (h : LineHeld s) (hk : callTimerRuns .lineWait s = true) :
    LineHeld (refuseCall .lineBusy (withdrawCustomerClaim s)) := by
  have hx : s.call.state = .waitLine := h.timer_state hk
  exact (refuseCall_parts (s := withdrawCustomerClaim s) _ (h.fits.plain (by simp [hx]) (by simp [hx]))
      (h.fits.no_analysis (by simp [hx]))).held
    (withdrawCustomerClaim_sound h.line) (withdrawCustomerClaim_unclaimed h.call (by simp [hx, holdsLine]))
    (withdrawCustomerClaim_free h.free)

theorem ringTimerEnds_held (h : LineHeld s) (hk : callTimerRuns .ring s = true) :
    LineHeld (enterClearing .unanswered s) := by
  have hx : s.call.state = .alerting := h.timer_state hk
  exact enterClearing_held _ h (by simp [hx, holdsLine])

/-! ### The keys of an answered call (R80, R82) -/

/-- The oldest digit of the after-dial queue is posted as a TONE. -/
theorem postTone_held (h : LineHeld s) : LineHeld (postTone s) := by
  unfold postTone
  split
  · exact h
  next d rest _ =>
    refine h.ite fun hfree => ?_
    obtain ⟨⟨-, howner⟩, hslot⟩ : (answered s.call.state = true ∧ s.line.owner = .customer) ∧ s.line.slot = none := by
      simpa using hfree
    obtain ⟨hw, hp⟩ := h.call.claimless howner
    simp only [postOrder, postingOf, orderKind, howner, hslot, ne_eq, not_true_eq_false, if_false, Option.isNone_none,
      if_true, reduceCtorEq, false_and]
    refine ⟨⟨h.line.posted (body := .tone d) (limit := 50) howner (fun hne => absurd hp hne),
      ⟨h.call.owns, fun hc => h.call.waits hc, fun o ho hb => ?_⟩, h.fits⟩, h.free⟩
    obtain rfl := Option.some.inj ho
    cases hb

theorem queueDigit_held (d : Nat) (h : LineHeld s) : LineHeld (queueDigit d s).1 := by
  unfold queueDigit
  split
  · exact h
  · exact postTone_held (h.of_view rfl)

theorem keyForDigit_held (d : Nat) (h : LineHeld s) : LineHeld (keyForDigit d s).1 := by
  unfold keyForDigit
  split
  case h_1 hx => exact analyseDigit_held d h hx
  case h_2 | h_3 => exact queueDigit_held d h
  all_goals exact h

theorem beginCarry_held (h : LineHeld s) (hx : s.call.state = .afterCall) : LineHeld (beginCarry s) := by
  unfold beginCarry
  refine h.ite fun _ => (shortfall_steady _).held ⟨⟨h.line, h.call, ?_⟩, h.free⟩
  exact { h.fits with carry := fun _ => hx, settling := nofun }

theorem keyForFollowOn_held (h : LineHeld s) : LineHeld (keyForFollowOn s).1 := by
  have marked : LineHeld (markFollowOn s) := h.of_view rfl
  unfold keyForFollowOn
  split
  case h_1 hx | h_2 hx => exact enterClearing_held _ marked (by simp [markFollowOn, hx, holdsLine])
  case h_3 =>
    split
    · exact h
    · exact marked
  case h_4 hx =>
    split
    · exact beginCarry_held ((stopCallTimer_held h).of_view rfl) hx
    · exact h
  all_goals exact h

theorem keyPressed_held (key : Nat) (h : LineHeld s) : LineHeld (keyPressed key s).1 := by
  unfold keyPressed
  split
  · exact keyForDigit_held key h
  split
  · exact keyForFollowOn_held h
  split
  · exact keyForCancel_held h
  · exact h

/-! ### The account's ends (R37, R40) -/

theorem carryCompletes_held (h : LineHeld s) (hp : s.account.phase = .opened true) : LineHeld (carryCompletes s) := by
  have hx : s.call.state = .afterCall := h.fits.carry hp
  have carried : Steady s { s with account := carriedAccount s.account } :=
    .of_phase rfl (by simp [carriedAccount]) (by simp [carriedAccount])
  have posted := carried.trans (postCallRecord_steady (figuresOf s.account) none true _)
  have held := posted.held h
  have stays := posted.state.trans hx
  have plain : PlainPhase { s with account := carriedAccount s.account }.account.phase :=
    ⟨by simp [carriedAccount], by simp [carriedAccount]⟩
  unfold carryCompletes
  refine reportCredit_held ?_
  simp only
  refine startAnalysis_held held.line held.free (held.call.unclaimed (by simp [stays, holdsLine]) (by simp [stays]))
    ((postCallRecord_steady _ none true _).plain plain) (held.fits.timer_moves (by simp [stays]) (by simp [stays]) (by simp [stays]))

theorem settlementEnds_held (h : LineHeld s) : LineHeld (settlementEnds s) := by
  unfold settlementEnds
  split
  · next forRecovery hp =>
    refine h.ite fun _ => ?_
    have ended : LineHeld { s with
        coin := { s.coin with gateQueue := s.coin.gateQueue.filter (· != .refundAll) }, account := {} } :=
      h.of_phase rfl (by simp) (by simp)
    unfold settled
    simp only
    split
    · split
      · exact (setRecovery_steady _ _).held ended
      · exact ended
    · next hr =>
      have hx : s.call.state = .settling := h.fits.settling .refund (by simpa [hr] using hp)
      exact (finishCall_parts _ _ ⟨by simp, by simp⟩).held ended.line
        (ended.call.unclaimed (by simp [hx, holdsLine]) (by simp [hx])) ended.free
  · exact h

end Sys2Proof.Proofs
end

section
/-! PROOFS. The ends of a line ownership, the coins and every command keep the laws of the line (O7). -/

namespace Sys2Proof.Proofs

open Sys2Proof Sys2Proof.Machine Sys2Proof.Laws

variable {s t u : State} {x : CallState} {r : ReportState} {l : Line}

/-! ### A freed line (R115, R117, R118) -/

theorem freeLine_writes (s : State) :
    ∃ p, freeLine s = { s with line := { s.line with slot := none, owner := .nobody }, ports := p } :=
  setOwner_writes .nobody (emptySlot s)

theorem freeLine_frees (s : State) : (freeLine s).line = { s.line with slot := none, owner := .nobody } := by
  obtain ⟨p, hp⟩ := freeLine_writes s
  rw [hp]

/-- The claims of a line whose ownership has just ended may be granted. -/
structure LineFreed (s : State) : Prop where
  owner : s.line.owner = .nobody
  line : LineSound { s.line with preempting := none } s.report.state
  oneClaim : s.line.waitingCustomer = none ∨ s.line.preempting = none
  call : CallLine s.line s.call.state
  fits : CallFits s.call.state s.call.acceptance s.call.timer s.analyser s.account.phase

theorem grantWaitingCustomer_held (ho : s.line.owner = .nobody) (hl : LineSound s.line s.report.state)
    (hc : CallLine s.line s.call.state) (hw : s.line.waitingCustomer ≠ none)
    (hf : CallFits s.call.state s.call.acceptance s.call.timer s.analyser s.account.phase) :
    LineHeld (grantWaitingCustomer s) := by
  have granted : LineSound { s.line with waitingCustomer := none } s.report.state :=
    ⟨hl.slot, .inl rfl, hl.aborts, hl.inCall, hl.claimed⟩
  refine grantCustomer_held (s := { s with line := { s.line with waitingCustomer := none } }) granted ho rfl ?_
  rw [← hc.waits (.inl hw)]
  exact hf

/-- The waiting report claim is granted, or is answered NOTHING and a waiting customer comes next. -/
theorem grantWaitingReport_held (ho : s.line.owner = .nobody) (hl : LineSound s.line s.report.state)
    (hc : CallLine s.line s.call.state)
    (hf : CallFits s.call.state s.call.acceptance s.call.timer s.analyser s.account.phase) :
    LineHeld (grantWaitingReport s) := by
  have unclaimed : LineSound { s.line with waitingReport := none } .standby :=
    ⟨hl.slot, hl.oneClaim, hl.aborts, by simp [ho], by simp⟩
  unfold grantWaitingReport
  simp only
  generalize hu : { s with line := { s.line with waitingReport := none } } = u
  obtain ⟨-, -, -, -, haccount, hanalyser, hcall, -, -, -⟩ := grantReport_same u
  have fits : CallFits (grantReport u).call.state (grantReport u).call.acceptance (grantReport u).call.timer
      (grantReport u).analyser (grantReport u).account.phase := by
    rw [haccount, hanalyser, hcall, ← hu]
    exact hf
  rcases grantReport_ends (s := u) (hu ▸ ho) with ⟨hold, hinCall⟩ | ⟨hline, hstandby⟩
  · have howner := hold.owner
    rw [if_neg (by simp [howner])]
    subst hu
    refine ⟨⟨hinCall ▸ hold.sound unclaimed ho rfl, ?_, fits⟩, fun h => absurd (h.symm.trans howner) (by decide)⟩
    rw [hcall]
    refine ⟨?_, ?_, fun o hso hb => hc.released o (hold.released hso hb) hb⟩
    · rw [howner, ← hc.owns, ho]
      decide
    · rw [hold.waiting, hold.preempting]
      exact hc.waits
  · have line : LineSound (grantReport u).line (grantReport u).report.state := by
      rw [hline, hstandby, ← hu]
      exact unclaimed
    have call : CallLine (grantReport u).line (grantReport u).call.state := by
      rw [hline, hcall, ← hu]
      exact ⟨hc.owns, hc.waits, hc.released⟩
    have howner : (grantReport u).line.owner = .nobody := by
      rw [hline, ← hu]
      exact ho
    split
    · next hw =>
      exact grantWaitingCustomer_held howner line call (Option.isSome_iff_ne_none.1 hw.2) fits
    · next hw =>
      have waiting : (grantReport u).line.waitingCustomer = none := by simpa [howner] using hw
      exact ⟨⟨line, call, fits⟩, fun _ => ⟨waiting, by rw [hline, ← hu]⟩⟩

/-- The arbiter on a free line. -/
theorem arbiter_held (ho : s.line.owner = .nobody) (h : LineOwed s) : LineHeld (arbiter s) := by
  have customer (hw : s.line.waitingCustomer ≠ none) := grantWaitingCustomer_held ho h.line h.call hw h.fits
  have report := grantWaitingReport_held ho h.line h.call h.fits
  unfold arbiter
  split
  case h_1 hw => exact customer (by simp [hw])
  case h_2 => exact report
  case h_3 hw _ | h_4 hw _ => exact customer (by simp [hw])
  case h_5 => exact report
  case h_6 hw hr => exact ⟨h, fun _ => ⟨hw, hr⟩⟩

theorem LineFreed.owed (h : LineFreed s) (hp : s.line.preempting = none) : LineOwed s where
  line := by
    have hline := h.line
    rwa [← hp] at hline
  call := h.call
  fits := h.fits

/-- After an ABORT or a failure the pre-empting claim comes first (R117). -/
theorem handOn_held (h : LineFreed s) : LineHeld (handOn s) := by
  unfold handOn
  split
  · next hp =>
    have hp := Option.isSome_iff_ne_none.1 hp
    refine grantCustomer_held (s := { s with line := { s.line with preempting := none } }) h.line h.owner
      (h.oneClaim.resolve_right hp) ?_
    rw [← h.call.waits (.inr hp)]
    exact h.fits
  · next hp => exact arbiter_held h.owner (h.owed (by simpa using hp))

/-! ### The end of the customer's ownership (R77, R78) -/

/-- The call that held the line has been told of its end: nothing is claimed for it, and the line is free, or a weighing on
the way has granted it to the report unit. -/
theorem customerEnds_held (h : LineHeld s) (ho : s.line.owner = .customer) (hp : Parts (freeLine s) t) :
    LineHeld (arbiter t) ∧ LineHeld (handOn t) := by
  obtain ⟨p, hfree⟩ := freeLine_writes s
  obtain ⟨hw, hpre⟩ := h.call.claimless ho
  have notInCall : s.report.state ≠ .inCall := fun hr => absurd (ho.symm.trans (h.line.inCall.2 hr)) (by decide)
  have line : LineSound (freeLine s).line (freeLine s).report.state := by
    rw [hfree]
    exact ⟨nofun, h.line.oneClaim, fun hne => absurd hpre hne, by simpa using notInCall, h.line.claimed⟩
  have unclaimed : Unclaimed (freeLine s).line := by
    rw [hfree]
    exact ⟨nofun, hw, hpre, nofun⟩
  have owed := hp.owed line unclaimed
  have after := hp.unclaimed unclaimed
  have arbited : LineHeld (arbiter t) := by
    rcases hp.owner with howner | ⟨-, howner⟩
    · exact arbiter_held (by rw [howner, hfree]) owed
    · have unasked : t.line.waitingReport = none := by
        by_contra hr
        exact absurd ((owed.line.claimed.1 hr).symm.trans (owed.line.inCall.1 howner)) (by decide)
      have stays : arbiter t = t := by
        unfold arbiter
        simp only [after.waiting, unasked]
      rw [stays]
      exact ⟨owed, fun hn => absurd (hn.symm.trans howner) (by decide)⟩
  refine ⟨arbited, ?_⟩
  rw [handOn, if_neg (by simp [after.preempting])]
  exact arbited

/-! ### The end of a report call (R158 to R163) -/

theorem deliverItem_weighing (i : BatchItem) (s : State) : Weighing s (deliverItem i s) := by
  refine (leaveReporting_weighing .delivered i.source s).trans ?_
  unfold deliverItem
  simp only
  cases h : moveSource .resumed i.source (leaveReporting .delivered i.source s) with
  | none => exact .refl _
  | some t => exact moveSource_weighing h

theorem forItems_weighing {f : BatchItem → State → State} (hf : ∀ i s, Weighing s (f i s)) (l : List BatchItem) (s : State) :
    Weighing s (forItems f l s) := by
  induction l generalizing s with
  | nil => exact .refl s
  | cons i rest ih => exact (hf i s).trans (ih _)

theorem leaveReporting_same (m : AlarmMove) (i : Nat) (s : State) : SameOutsideAlarm s (leaveReporting m i s) := by
  unfold leaveReporting
  split
  · exact same_refl s
  next h =>
    split
    · exact same_trans (moveSource_same h) (clearSource_same i _ _)
    · exact moveSource_same h

theorem deliverItem_same (i : BatchItem) (s : State) : SameOutsideAlarm s (deliverItem i s) := by
  refine same_trans (leaveReporting_same .delivered i.source s) ?_
  unfold deliverItem
  simp only
  cases h : moveSource .resumed i.source (leaveReporting .delivered i.source s) with
  | none => exact same_refl _
  | some t => exact moveSource_same h

theorem forItems_same {f : BatchItem → State → State} (hf : ∀ i s, SameOutsideAlarm s (f i s)) (l : List BatchItem)
    (s : State) : SameOutsideAlarm s (forItems f l s) := by
  induction l generalizing s with
  | nil => exact same_refl s
  | cons i rest ih => exact same_trans (hf i s) (ih _)

/-- The report call in `s` is over in `t`: the line is as it was, and the report unit is in STANDBY or in BACKOFF. -/
structure ReportOver (s t : State) : Prop where
  same : SameOutsideAlarm s t
  line : t.line = s.line
  state : t.report.state = .standby ∨ t.report.state = .backoff

/-- What goes before the end keeps a report unit that is IN_CALL where it is. -/
theorem ReportOver.after (hr : s.report.state = .inCall) (hs : SameOutsideAlarm s t) (hw : Weighing s t)
    (h : ReportOver t u) : ReportOver s u :=
  ⟨same_trans hs h.same, h.line.trans (hw.inCall hr).1, h.state⟩

theorem reportDelivered_over (hr : s.report.state = .inCall) : ReportOver s (reportDelivered s) := by
  have moved := forItems_weighing deliverItem_weighing s.report.batch s
  have movedSame := forItems_same deliverItem_same s.report.batch s
  have marked := forItems_weighing (fun i => postReportedMark_weighing i.place) s.report.batch
    (forItems deliverItem s.report.batch s)
  have markedSame := forItems_same (fun i => postReportedMark_same i.place) s.report.batch
    (forItems deliverItem s.report.batch s)
  refine .after hr (same_trans movedSame markedSame) (moved.trans marked) ⟨?_, ?_, .inl rfl⟩
  · simp [SameOutsideAlarm, reportDelivered, postReportEnded]
  · simp [reportDelivered, postReportEnded]

theorem returnItems_weighing (is : List BatchItem) (s : State) : Weighing s (forItems returnItem is s) :=
  forItems_weighing (fun i => leaveReporting_weighing .returned i.source) is s

theorem returnItems_same (is : List BatchItem) (s : State) : SameOutsideAlarm s (forItems returnItem is s) :=
  forItems_same (fun i => leaveReporting_same .returned i.source) is s

theorem reportFailed_over (o : ReportOutcome) (hr : s.report.state = .inCall) : ReportOver s (reportFailed o s) := by
  refine .after hr (returnItems_same s.report.batch s) (returnItems_weighing s.report.batch s) ⟨?_, ?_, .inr rfl⟩
  · simp [SameOutsideAlarm, reportFailed, postReportEnded]
  · simp [reportFailed, postReportEnded]

theorem reportAborted_over (hr : s.report.state = .inCall) : ReportOver s (reportAborted s) := by
  refine .after hr (returnItems_same s.report.batch s) (returnItems_weighing s.report.batch s) ⟨?_, ?_, .inl rfl⟩
  · simp [SameOutsideAlarm, reportAborted, postReportEnded]
  · simp [reportAborted, postReportEnded]

/-- The report unit is told how its call ended: the sources of the batch move, and the unit leaves IN_CALL. -/
theorem reportEnded_over (o : ReportOutcome) (hr : s.report.state = .inCall) : ReportOver s (reportEnded o s) := by
  have settled := settleWaiting_weighing s
  have hu : (settleWaiting s).report.state = .inCall := by
    rw [(settled.inCall hr).2]
    exact hr
  refine .after hr (settleWaiting_same s) settled ?_
  cases o with
  | delivered => exact reportDelivered_over hu
  | aborted => exact reportAborted_over hu
  | noAnswer | busy | failed => exact reportFailed_over _ hu

/-- After a report call the customer's claim, which had to wait or to pre-empt it, may be granted. -/
theorem reportEnds_freed (h : LineHeld s) (ho : s.line.owner = .report) (o : ReportOutcome) :
    LineFreed (reportEnded o (freeLine s)) := by
  obtain ⟨p, hfree⟩ := freeLine_writes s
  have hinCall := h.line.inCall.1 ho
  have unasked : s.line.waitingReport = none := by
    by_contra hr
    exact absurd ((h.line.claimed.1 hr).symm.trans hinCall) (by decide)
  obtain ⟨hsame, hline, hstate⟩ := reportEnded_over (s := freeLine s) o (by rw [hfree]; exact hinCall)
  obtain ⟨-, -, -, -, haccount, hanalyser, hcall, -, -, -⟩ := hsame
  have left : (reportEnded o (freeLine s)).report.state ≠ .inCall ∧ (reportEnded o (freeLine s)).report.state ≠ .claimed := by
    rcases hstate with e | e <;> simp [e]
  rw [freeLine_frees] at hline
  refine ⟨by rw [hline], ?_, by rw [hline]; exact h.line.oneClaim, ?_, ?_⟩
  · rw [hline]
    exact ⟨nofun, .inr rfl, fun hne => absurd rfl hne, by simp [left.1], by simp [unasked, left.2]⟩
  · rw [hline, hcall, hfree]
    refine ⟨?_, h.call.waits, nofun⟩
    rw [← h.call.owns, ho]
    simp
  · rw [haccount, hanalyser, hcall, hfree]
    exact h.fits

/-! ### The end of a centre session (R117, R128) -/

theorem endCentreSession_writes (c : CentreCause) (s : State) :
    ∃ p, endCentreSession c s = { s with line := { s.line with centreUntil := none }, ports := p } :=
  ⟨_, postNotice_eq _ _ _⟩

theorem centreEnds_freed (h : LineHeld s) (ho : s.line.owner = .centre) (c : CentreCause) :
    LineFreed (endCentreSession c (freeLine s)) := by
  obtain ⟨p, hfree⟩ := freeLine_writes s
  obtain ⟨q, hend⟩ := endCentreSession_writes c (freeLine s)
  have notInCall : s.report.state ≠ .inCall := fun hr => absurd (ho.symm.trans (h.line.inCall.2 hr)) (by decide)
  rw [hend, hfree]
  refine ⟨rfl, ⟨nofun, .inr rfl, fun hne => absurd rfl hne, by simpa using notInCall, h.line.claimed⟩, h.line.oneClaim,
    ⟨?_, h.call.waits, nofun⟩, h.fits⟩
  rw [← h.call.owns, ho]
  simp

/-! ### Failures, ABORTs and orders done (R70, R117, R122 to R124) -/

theorem weighAfter_steady (o : Owner) (s : State) : Steady s (weighAfter o s) := by
  unfold weighAfter
  exact .ite (weigh_steady s) (.refl s)

theorem failOwnership_held (c : CentreCause) (h : LineHeld s) : LineHeld (failOwnership c s) := by
  unfold failOwnership
  simp only
  split
  · exact h
  refine (weighAfter_steady _ _).held ?_
  cases ho : s.line.owner with
  | nobody => contradiction
  | customer =>
    obtain ⟨p, hfree⟩ := freeLine_writes s
    refine (customerEnds_held h ho (callFailed_parts ?_ ?_)).2
    · rw [hfree]
      exact h.call.owns.1 ho
    · rw [hfree]
      exact h.fits
  | report => exact handOn_held (reportEnds_freed h ho .failed)
  | centre => exact handOn_held (centreEnds_freed h ho c)

/-- An ABORT's end: only REPORT and the centre have one in the slot (R120). -/
theorem abortDone_held (atLimit : Bool) (h : LineHeld s) (ho : s.line.owner = .report ∨ s.line.owner = .centre) :
    LineHeld (abortDone atLimit s) := by
  unfold abortDone
  simp only
  refine (weighAfter_steady _ _).held ?_
  rcases ho with ho | ho
  · simp only [ho]
    exact handOn_held (reportEnds_freed h ho .aborted)
  · simp only [ho]
    exact handOn_held (centreEnds_freed h ho _)

/-- An order leaves the slot of a line on which no claim pre-empts. -/
theorem emptySlot_held (h : LineHeld s) (ho : s.line.owner = .customer) : LineHeld (emptySlot s) :=
  ⟨⟨⟨nofun, h.line.oneClaim, fun hp => absurd (h.call.claimless ho).2 hp, h.line.inCall, h.line.claimed⟩,
    ⟨h.call.owns, h.call.waits, nofun⟩, h.fits⟩, h.free⟩

theorem connectDone_held (o : OrderOutcome) (h : LineHeld s) : LineHeld (connectDone o s) := by
  unfold connectDone
  split
  · exact h
  next hx =>
    have hx : s.call.state = .connecting := by simpa using hx
    split
    · obtain ⟨p, hp⟩ := setCallState_writes .alerting s
      rw [hp]
      refine ⟨⟨h.line, h.call.move (by simp [hx, holdsLine]) (by simp [hx]) (by simp [hx]),
        .of_plain (h.fits.plain (by simp [hx]) (by simp [hx])) (h.fits.no_analysis (by simp [hx])) nofun fun k u hk => ?_⟩,
        h.free⟩
      obtain ⟨rfl, -⟩ := Prod.mk.inj (Option.some.inj hk)
      rfl
    · exact enterClearing_held _ h (by simp [hx, holdsLine])

theorem endOrder_held {o : Order} (outcome : OrderOutcome) (h : LineHeld s) (hs : s.line.slot = some o) :
    LineHeld (endOrder o.body outcome s) := by
  have serve := (h.line.slot o hs).2
  have released := h.call.released o hs
  obtain ⟨p, hfree⟩ := freeLine_writes s
  cases hb : o.body with
  | connect => exact connectDone_held _ (emptySlot_held h (by simpa [hb, serves] using serve))
  | tone => exact postTone_held (emptySlot_held h (by simpa [hb, serves] using serve))
  | release =>
    refine (customerEnds_held h (by simpa [hb, serves] using serve) (releaseDone_parts ?_ ?_)).1
    · rw [hfree]
      exact released hb
    · rw [hfree]
      exact h.fits
  | report =>
    have ho : s.line.owner = .report := by simpa [hb, serves] using serve
    have freed := reportEnds_freed h ho (reportOutcomeOf outcome)
    have unpreempted : s.line.preempting = none := by
      by_contra hp
      simpa [currentKind, hs, hb, orderKind] using h.line.aborts hp
    refine (weigh_steady _).held (arbiter_held freed.owner (freed.owed ?_))
    rw [(reportEnded_over _ (by rw [hfree]; exact h.line.inCall.1 ho)).line, hfree]
    exact unpreempted
  | abort atLimit => exact abortDone_held atLimit h (by simpa [hb, serves] using serve)

theorem orderDone_held (kind : Option OrderKind) (number : Nat) (outcome : Option OrderOutcome) (h : LineHeld s) :
    LineHeld (orderDone kind number outcome s).1 := by
  unfold orderDone completeOrder
  split
  · split
    · split
      · exact h
      · next hs =>
        split
        · exact h
        · exact endOrder_held _ h hs
    · exact h
  · exact h

/-! ### Fetches, line events and centre sessions (R121, R124 to R128) -/

theorem fetchOrder_held (part : Nat) (h : LineHeld s) : LineHeld (fetchOrder part s).1 := by
  unfold fetchOrder
  split
  · exact h
  split
  · exact h
  next o hs =>
    split
    · exact h
    refine ⟨⟨⟨fun o' ho => ?_, h.line.oneClaim, fun hp => ?_, h.line.inCall, h.line.claimed⟩,
      ⟨h.call.owns, h.call.waits, fun o' ho hb => ?_⟩, h.fits⟩, h.free⟩
    · obtain rfl := Option.some.inj ho
      exact h.line.slot o hs
    · simpa [currentKind, hs] using h.line.aborts hp
    · obtain rfl := Option.some.inj ho
      exact h.call.released o hs hb

theorem callEvent_held (fits : CallState → Bool) {effect : State → State}
    (he : fits s.call.state = true → LineHeld (effect s)) (h : LineHeld s) : LineHeld (callEvent fits effect s).1 := by
  unfold callEvent
  split
  · next hfits =>
    simp only [Bool.and_eq_true] at hfits
    exact he hfits.2
  · exact h

theorem lineLost_held (h : LineHeld s) : LineHeld (lineLost s) := by
  have raised := (raise_steady srcLineFault .lineAllocator s).held h
  unfold lineLost
  split
  · exact raised
  · exact failOwnership_held _ raised

theorem orderLimitEnds_held (h : LineHeld s) : LineHeld (orderLimitEnds s) := by
  unfold orderLimitEnds
  split
  · exact h
  · exact failOwnership_held _ ((raise_steady _ _ s).held h)

theorem claimCentre_held (h : LineHeld s) : LineHeld (claimCentre s).1 := by
  unfold claimCentre
  split
  · next hfree =>
    obtain ⟨ho, hw, hr⟩ := hfree
    have hp := h.line.preempting_none ho
    obtain ⟨p, hwrites⟩ := setOwner_writes .centre
      { s with line := { s.line with centreUntil := some (s.now + Config.centreSession) } }
    have notInCall : s.report.state ≠ .inCall := fun hi => absurd (ho.symm.trans (h.line.inCall.2 hi)) (by decide)
    have notHolding : holdsLine s.call.state = false := by
      rw [← Bool.not_eq_true, ← h.call.owns, ho]
      decide
    rw [hwrites]
    exact ⟨⟨⟨by simp [h.line.slot_none ho], h.line.oneClaim, fun hne => absurd hp hne, by simpa using notInCall,
      h.line.claimed⟩, ⟨by simp [notHolding], h.call.waits, h.call.released⟩, h.fits⟩, nofun⟩
  · exact h

theorem endCentre_held (h : LineHeld s) : LineHeld (endCentre s).1 := by
  unfold endCentre
  split
  · next ho => exact handOn_held (centreEnds_freed h ho .ended)
  · exact h

/-- An ABORT of the present owner, where none is current. -/
theorem postAbort_held {o : Owner} (b : Bool) (h : LineHeld s) (howner : s.line.owner = o)
    (ho : o = .report ∨ o = .centre) : LineHeld (postOrder o (.abort b) s) := by
  subst howner
  by_cases hk : currentKind s.line = some .abort
  · rwa [postOrder_abort_current b hk]
  · rw [postOrder_abort b hk]
    refine ⟨⟨h.line.posted ho fun _ => rfl, ⟨h.call.owns, h.call.waits, fun o hs hb => ?_⟩, h.fits⟩, h.free⟩
    obtain rfl := Option.some.inj hs
    cases hb

theorem centreSessionEnds_held (h : LineHeld s) : LineHeld (centreSessionEnds s) := by
  unfold centreSessionEnds
  refine h.ite fun hends => ?_
  have ho : s.line.owner = .centre := by
    simp only [Bool.and_eq_true, beq_iff_eq] at hends
    exact hends.2
  have untimed : LineHeld { s with line := { s.line with centreUntil := none } } :=
    ⟨⟨⟨h.line.slot, h.line.oneClaim, h.line.aborts, h.line.inCall, h.line.claimed⟩,
      ⟨h.call.owns, h.call.waits, h.call.released⟩, h.fits⟩, h.free⟩
  exact postAbort_held true untimed ho (.inr rfl)

/-! ### The coins (R3 to R23, R30, R31) -/

theorem loseFlight_steady (s : State) : Steady s (loseFlight s) := by
  unfold loseFlight
  exact .ite (setCoin_steady _ s) ((setCoin_steady _ s).trans (raise_steady _ _ _))

theorem acceptPulse_steady (k : Nat) (s : State) : Steady s (acceptPulse k s) := by
  unfold acceptPulse
  exact .ite (.refl s) (.ite (loseFlight_steady s) (setCoin_steady _ s))

theorem flightWindowEnds_steady (s : State) : Steady s (flightWindowEnds s) := by
  unfold flightWindowEnds
  exact .ite (.refl s) (((setCoin_steady _ s).trans (loseFlight_steady _)).trans (leaveFlightStage_steady _))

theorem bankCoin_steady (channel value : Nat) (s : State) : Steady s (bankCoin channel value s) :=
  (setCoin_steady _ s).trans ((checkNear_steady _).trans (checkFull_steady _ _))

/-- A credit opens an IDLE account and moves no other. -/
theorem openForCredit_keeps (a : Account) : ((openForCredit a).phase = .opened true → a.phase = .opened true)
    ∧ ∀ stage, (openForCredit a).phase = .settling stage false → a.phase = .settling stage false := by
  unfold openForCredit
  split <;> simp

theorem confirmEscrow_held (f : Flight) (h : LineHeld s) : LineHeld (confirmEscrow f s) := by
  obtain ⟨carry, settling⟩ := openForCredit_keeps s.account
  unfold confirmEscrow
  refine (leaveFlightStage_steady _).held (reportCredit_held ((postNotice_steady _ _ _).held ?_))
  exact h.of_phase rfl carry fun stage hs => ⟨stage, settling stage hs⟩

theorem confirmOverflow_held (f : Flight) (h : LineHeld s) : LineHeld (confirmOverflow f s) := by
  obtain ⟨carry, settling⟩ := openForCredit_keeps s.account
  unfold confirmOverflow
  refine (leaveFlightStage_steady _).held (reportCredit_held ((postNotice_steady _ _ _).held ((bankCoin_steady _ _ _).held ?_)))
  exact h.of_phase rfl carry fun stage hs => ⟨stage, settling stage hs⟩

theorem withdrawCoin_held (x : EscrowCoin) (h : LineHeld s) : LineHeld (withdrawCoin x s) := by
  unfold withdrawCoin
  exact reportCredit_held ((postNotice_steady _ _ _).held (h.of_view rfl))

theorem strayPass_held (h : LineHeld s) : LineHeld (strayPass s) := by
  unfold strayPass
  refine (raise_steady _ _ _).held ?_
  split
  · exact withdrawCoin_held _ (h.of_view rfl)
  · exact h.of_view rfl

theorem escrowEntry_held (h : LineHeld s) : LineHeld (escrowEntry s) := by
  unfold escrowEntry
  split
  · split
    · exact confirmEscrow_held _ h
    · exact strayPass_held h
  · exact strayPass_held h

/-- The end of a COLLECT or of its entry, by what it moves between the amounts. -/
theorem collectEnded_held {f : Account → Account} (hf : (f s.account).phase = s.account.phase) (h : LineHeld s) :
    LineHeld (collectEnded f s) := by
  unfold collectEnded
  refine reportCredit_held ((enterRefund_steady _).held ((shortfall_steady _).held (h.of_phase rfl ?_ ?_)))
  · exact fun hp => hf.symm.trans hp
  · exact fun stage hp => ⟨stage, hf.symm.trans hp⟩

theorem confirmCollect_held (h : LineHeld s) : LineHeld (confirmCollect s) := by
  have released : LineHeld (releaseGate s) := h.of_view rfl
  unfold confirmCollect
  split
  · exact collectEnded_held rfl ((bankCoin_steady _ _ _).held released)
  · exact released

theorem confirmRefund_held (h : LineHeld s) : LineHeld (confirmRefund s) := by
  unfold confirmRefund
  simp only
  split
  · exact reportCredit_held (h.of_view rfl)
  · exact h.of_view rfl

theorem jamCollect_held (h : LineHeld s) : LineHeld (jamCollect s) := by
  unfold jamCollect
  simp only
  split
  · exact (raise_steady _ _ _).held (collectEnded_held rfl (h.of_view rfl))
  · exact (raise_steady _ _ _).held (h.of_view rfl)

theorem countRefundRun_steady (s : State) : Steady s (countRefundRun s) := by
  unfold countRefundRun
  exact .ite (setCoin_steady _ s) ((setCoin_steady _ s).trans (raise_steady _ _ _))

theorem loseRefund_held (h : LineHeld s) : LineHeld (loseRefund s) := by
  unfold loseRefund
  split
  · exact (countRefundRun_steady _).held (reportCredit_held (h.of_view rfl))
  · exact (countRefundRun_steady _).held (h.of_view rfl)

theorem gateWindowEnds_held (g : GateOp) (h : LineHeld s) : LineHeld (gateWindowEnds g s) := by
  unfold gateWindowEnds
  split
  · exact h.of_view rfl
  split
  · exact jamCollect_held h
  · exact loseRefund_held h
  · exact h

theorem gateWindow_held (h : LineHeld s) : LineHeld (match s.coin.gateOp with
    | some g => gateWindowEnds g s
    | none => s) := by
  split
  · exact gateWindowEnds_held _ h
  · exact h

theorem takeGateWork_held (h : LineHeld s) : LineHeld (takeGateWork s) := by
  unfold takeGateWork
  split
  · simp only
    split
    · exact collectEnded_held rfl (h.of_view rfl)
    · exact h.of_view rfl
  split
  · split
    · exact h.of_view rfl
    · exact h.of_view rfl
  · exact h

theorem boxEntry_held (h : LineHeld s) : LineHeld (boxEntry s) := by
  unfold boxEntry
  split
  · split
    · exact confirmCollect_held h
    · exact confirmOverflow_held _ h
  · exact confirmCollect_held h
  · exact confirmOverflow_held _ h
  · exact h

theorem endGateTest_steady (outcome : Nat) (s : State) : Steady s (endGateTest outcome s) :=
  (setCoin_steady _ s).trans (postNotice_steady _ _ _)

theorem returnChute_held (h : LineHeld s) : LineHeld (returnChute s) := by
  unfold returnChute
  split
  · split
    · exact confirmRefund_held h
    · exact h
  · exact (endGateTest_steady 0 s).held h
  · split
    · unfold countFlushed
      exact (Steady.ite (.refl s) (setRecovery_steady _ s)).held h
    · exact h
  · exact h

theorem recordReject_steady (s : State) : Steady s (recordReject s) := by
  rw [recordReject_eq]
  split
  · exact (setCoin_steady _ s).trans (raise_steady _ _ _)
  · exact setCoin_steady _ s

theorem openCollection_steady (code : Digits) (s : State) : Steady s (openCollection code s).1 := by
  unfold openCollection compareCode
  split
  · exact .refl s
  split
  · exact .refl s
  split
  · rw [openWindow_eq]
    exact .of_view rfl
  split
  · exact setCoin_steady _ s
  · simp only
    exact (setCoin_steady _ s).trans (raise_steady _ _ _)

theorem closeCollection_steady (s : State) : Steady s (closeCollection s).1 := by
  unfold closeCollection
  split
  · exact .refl s
  simp only
  split
  · exact settleWaiting_steady s
  · next hp =>
    exact (settleWaiting_steady s).trans ((postRecord_steady hp).trans ((setCoin_steady _ _).trans (autoClear_steady _ _)))

theorem testGate_steady (s : State) : Steady s (testGate s).1 := by
  unfold testGate
  repeat' split
  all_goals exact .of_view rfl

/-! ### Resets and recovery (R187, R192 to R198) -/

/-- A part that has lost its volatile state has a free line and no call. -/
theorem resetVolatile_held (c : StartCause) (x : Supply) (s : State) : LineHeld { resetVolatile c s with supply := x } where
  line := ⟨nofun, .inl rfl, fun h => absurd rfl h, by simp [resetVolatile, State.reset], by simp [resetVolatile, State.reset]⟩
  call := ⟨by simp [resetVolatile, State.reset, holdsLine], by simp [resetVolatile, State.reset], nofun⟩
  fits := ⟨by simp [resetVolatile, State.reset], nofun, fun h => absurd rfl h, nofun, nofun⟩
  free _ := ⟨rfl, rfl⟩

theorem supplyFails_held (h : LineHeld s) : LineHeld (supplyFails s) := by
  unfold supplyFails
  split
  · exact h
  · exact resetVolatile_held _ _ s

theorem loadConfiguration_steady (s : State) : Steady s (loadConfiguration s) := by
  unfold loadConfiguration
  split
  · exact .of_view rfl
  · refine .trans ?_ (postNotice_steady _ _ _)
    exact .of_view rfl

theorem forSources_steady {f : Nat → State → State} (hf : ∀ i s, Steady s (f i s)) (l : List Nat) (s : State) :
    Steady s (forSources f l s) := by
  induction l generalizing s with
  | nil => exact .refl s
  | cons i rest ih => exact (hf i s).trans (ih _)

theorem restoreSource_steady (i : Nat) (s : State) : Steady s (restoreSource i s) := by
  unfold restoreSource
  simp only
  split
  · refine .ite (.refl s) (.trans ?_ (deriveService_steady _))
    exact .of_view rfl
  · exact .refl s

theorem raiseActive_steady (i : Nat) (s : State) : Steady s (raiseActive i s) := by
  unfold raiseActive
  exact .ite (raise_steady _ _ s) (.refl s)

theorem takeLevels_steady (levels : List Bool) (s : State) : Steady s (takeLevels levels s) := .of_view rfl

theorem stageTwo_steady (levels : List Bool) (s : State) : Steady s (stageTwo levels s) := by
  unfold stageTwo
  simp only
  generalize hu : forSources raiseActive (List.range 8) _ = u
  have sensed : Steady s u := hu ▸ ((forSources_steady restoreSource_steady _ s).trans (takeLevels_steady levels _)).trans
    (forSources_steady raiseActive_steady _ _)
  generalize hv : (if u.supply.loaded = true then u else _) = v
  have loaded : Steady u v := hv ▸ .ite (.refl u) (raise_steady _ _ u)
  exact (sensed.trans loaded).trans (.ite (.refl v) (raise_steady _ _ v))

theorem stageThree_steady (found : Option (Place × SaveRecord)) (s : State) : Steady s (stageThree found s) := by
  unfold stageThree
  simp only
  generalize hu : (if s.supply.cause = .restart then s else _) = u
  have tallied : Steady s u := hu ▸ .ite (.refl s) (.of_view rfl)
  refine tallied.trans (.ite ?_ (setCoin_steady _ u))
  exact (setCoin_steady _ u).trans (raise_steady _ _ _)

theorem forPlaces_steady {f : Place → State → State} (hf : ∀ p s, Steady s (f p s)) (l : List Place) (s : State) :
    Steady s (forPlaces f l s) := by
  induction l generalizing s with
  | nil => exact .refl s
  | cons p rest ih => exact (hf p s).trans (ih _)

/-- A reconstituted account settles for recovery, not for a call. -/
theorem reconstitute_steady (a : Account) (s : State) : Steady s (reconstitute a s) := by
  refine .trans ?_ ((shortfall_steady _).trans (enterRefund_steady _))
  exact .of_phase rfl nofun nofun

theorem stageFour_steady (found : Option (Place × SaveRecord)) (s : State) : Steady s (stageFour found s) := by
  unfold stageFour
  simp only
  generalize (if found.isSome then _ else _) = marks
  refine (forPlaces_steady postResolvedMark_steady marks s).trans ?_
  split
  · exact setRecovery_steady _ _
  · refine (setCoin_steady _ _).trans (.ite (setRecovery_steady _ _) ((setRecovery_steady _ _).trans (reconstitute_steady _ _)))

theorem recover_steady (levels : Levels) (s : State) : Steady s (recover levels s) := by
  unfold recover
  simp only
  refine .trans (.trans ?_ (stageTwo_steady _ _)) ((stageThree_steady _ _).trans (stageFour_steady _ _))
  exact ((setSupply_steady _ s).trans (setStore_steady _ _)).trans (loadConfiguration_steady _)

theorem recover_reset_held (levels : Levels) (c : StartCause) (s : State) :
    LineHeld (recover levels (resetVolatile c s)) :=
  (recover_steady levels _).held (resetVolatile_held c (resetVolatile c s).supply s)

end Sys2Proof.Proofs
end

section
/-! PROOFS. Every step keeps the laws of the line (O7). -/

namespace Sys2Proof.Proofs

open Sys2Proof Sys2Proof.Machine Sys2Proof.Laws

variable {s : State}

theorem holdsLine_of_alerting {x : CallState} (hx : isAlerting x = true) : holdsLine x = true := by
  rw [show x = .alerting by simpa [isAlerting] using hx]
  rfl

theorem exec_keeps_lineHeld (c : Instr) (h : LineHeld s) : ∃ t, exec c s = .next t ∧ LineHeld t := by
  have steady {u : State} (hu : Steady s u) : LineHeld u := hu.held h
  cases c with
  | readAccount | readCall | readStatus | readClock | readAlarmsSensor | readIdentity | readTally =>
    exact ⟨_, rfl, steady (takeRequest_steady _ _ .refl s)⟩
  | readPlan p entry => exact ⟨_, rfl, steady (takeRequest_steady _ p (fun s => .of_state (readPlan_state entry s)) s)⟩
  | readTariff p b cls band =>
    exact ⟨_, rfl, steady (takeRequest_steady _ p (fun s => .of_state (readTariff_state b cls band s)) s)⟩
  | readAlarmsSource p first count =>
    exact ⟨_, rfl, steady (takeRequest_steady _ p (fun s => .of_state (readSources_state first count s)) s)⟩
  | keyDigit p | keyCancel p | keyFollowOn p => exact ⟨_, rfl, takeRequest_held p (keyPressed_held _) h⟩
  | fetchNotices p => exact ⟨_, rfl, steady (takeRequest_steady _ p (fetchNotices_steady p) s)⟩
  | setNoticeMask p mask => exact ⟨_, rfl, steady (takeRequest_steady _ p (setNoticeMask_steady p mask) s)⟩
  | fetchOrder p part => exact ⟨_, rfl, takeRequest_held p (fetchOrder_held part) h⟩
  | orderDone p kind number outcome => exact ⟨_, rfl, takeRequest_held p (orderDone_held kind number outcome) h⟩
  | answer p =>
    exact ⟨_, rfl, takeRequest_held p (fun hs => callEvent_held isAlerting
      (fun hx => answerCall_held hs (by simpa [isAlerting] using hx)) hs) h⟩
  | busy p => exact ⟨_, rfl, takeRequest_held p (fun hs => callEvent_held isAlerting
      (fun hx => enterClearing_held .busy hs (holdsLine_of_alerting hx)) hs) h⟩
  | farClear p => exact ⟨_, rfl, takeRequest_held p (fun hs => callEvent_held answered
      (fun hx => enterClearing_held .answered hs (holdsLine_of_answered hx)) hs) h⟩
  | meterPulse p => exact ⟨_, rfl, takeRequest_held p (fun hs => callEvent_held answered (fun _ => meterPulse_held hs) hs) h⟩
  | lineLost p => exact ⟨_, rfl, takeRequest_held p lineLost_held h⟩
  | lineRestored p =>
    exact ⟨_, rfl, steady (takeRequest_steady _ p (fun s => (settleWaiting_steady s).trans (autoClear_steady _ _)) s)⟩
  | claimCentre p => exact ⟨_, rfl, takeRequest_held p claimCentre_held h⟩
  | endCentre p => exact ⟨_, rfl, takeRequest_held p endCentre_held h⟩
  | setClock p time => exact ⟨_, rfl, steady (takeRequest_steady _ p (setClock_steady time) s)⟩
  | writeCalendarDayType p day points => exact ⟨_, rfl, steady (takeRequest_steady _ p (writeDayType_steady day points) s)⟩
  | writeCalendarHoliday p slot date => exact ⟨_, rfl, steady (takeRequest_steady _ p (writeHoliday_steady slot date) s)⟩
  | writeTariff p cls band e => exact ⟨_, rfl, steady (takeRequest_steady _ p (writeTariff_steady cls band e) s)⟩
  | activateTariff p time => exact ⟨_, rfl, steady (takeRequest_steady _ p (activateTariff_steady time) s)⟩
  | writePlan p entry f => exact ⟨_, rfl, steady (takeRequest_steady _ p (writePlan_steady entry f) s)⟩
  | writeCoin p k v => exact ⟨_, rfl, steady (takeRequest_steady _ p (writeCoin_steady k v) s)⟩
  | writeAlarmSetupSource p i v m e => exact ⟨_, rfl, steady (takeRequest_steady _ p (writeSourceSetup_steady i v m e) s)⟩
  | writeAlarmSetupSensor p i mode threshold window =>
    exact ⟨_, rfl, steady (takeRequest_steady _ p (writeSensorSetup_steady i mode threshold window) s)⟩
  | writeSettingInterDigit p n => exact ⟨_, rfl, steady (takeRequest_steady _ p (writeInterDigit_steady n) s)⟩
  | writeSettingRing p n => exact ⟨_, rfl, steady (takeRequest_steady _ p (writeRing_steady n) s)⟩
  | writeSettingBoxCapacity p n => exact ⟨_, rfl, steady (takeRequest_steady _ p (writeCapacity_steady n) s)⟩
  | writeSettingCollectionCode p code => exact ⟨_, rfl, steady (takeRequest_steady _ p (writeCode_steady code) s)⟩
  | writeSettingReportThreshold p x => exact ⟨_, rfl, steady (takeRequest_steady _ p (writeThreshold_steady x) s)⟩
  | writeSettingPriorityMode p m => exact ⟨_, rfl, steady (takeRequest_steady _ p (writePriority_steady m) s)⟩
  | writeSettingPrimaryCentre p n => exact ⟨_, rfl, steady (takeRequest_steady _ p (writePrimary_steady n) s)⟩
  | writeSettingFallbackCentre p n => exact ⟨_, rfl, steady (takeRequest_steady _ p (writeFallback_steady n) s)⟩
  | commitConfig p => exact ⟨_, rfl, steady (takeRequest_steady _ p commitConfig_steady s)⟩
  | readRecords p r offset count => exact ⟨_, rfl, steady (takeRequest_steady _ p (readRecords_steady r offset count) s)⟩
  | ackRecords p r count => exact ⟨_, rfl, steady (takeRequest_steady _ p (ackRecords_steady r count) s)⟩
  | ackAlarms p l => exact ⟨_, rfl, steady (takeRequest_steady _ p (ackAlarms_steady l) s)⟩
  | clearAlarm p i => exact ⟨_, rfl, steady (takeRequest_steady _ p (clearAlarm_steady p i) s)⟩
  | writeIdentity p t site => exact ⟨_, rfl, steady (takeRequest_steady _ p (writeIdentity_steady t site) s)⟩
  | lockIdentity p => exact ⟨_, rfl, steady (takeRequest_steady _ p lockIdentity_steady s)⟩
  | restart p mode => exact ⟨_, rfl, takeRequest_held p (requestRestart_held mode) h⟩
  | openCollection p code => exact ⟨_, rfl, steady (takeRequest_steady _ p (openCollection_steady code) s)⟩
  | closeCollection p => exact ⟨_, rfl, steady (takeRequest_steady _ p closeCollection_steady s)⟩
  | testGate p => exact ⟨_, rfl, steady (takeRequest_steady _ p testGate_steady s)⟩
  | requestFrameError p bytes => exact ⟨_, rfl, steady (frameEnds_steady p bytes s)⟩
  | readSelectPeriod p clocked => exact ⟨_, rfl, steady (.ite (.refl s) (updatePort_steady p _ s))⟩
  | acceptPulse k => exact ⟨_, rfl, steady (whenAwake_steady (acceptPulse_steady k) s)⟩
  | escrowEntryEvent => exact ⟨_, rfl, whenAwake_held escrowEntry_held h⟩
  | boxEntryEvent => exact ⟨_, rfl, whenAwake_held boxEntry_held h⟩
  | returnChuteEvent => exact ⟨_, rfl, whenAwake_held returnChute_held h⟩
  | rejectPulse => exact ⟨_, rfl, steady (whenAwake_steady recordReject_steady s)⟩
  | flightWindowExpiry => exact ⟨_, rfl, steady (whenAwake_steady flightWindowEnds_steady s)⟩
  | gateOperationStart => exact ⟨_, rfl, whenAwake_held (fun hs => hs.ite fun _ => takeGateWork_held hs) h⟩
  | gateWindowExpiry => exact ⟨_, rfl, whenAwake_held gateWindow_held h⟩
  | gateTestWindowExpiry => exact ⟨_, rfl, steady (whenAwake_steady (fun s => .ite (endGateTest_steady 1 s) (.refl s)) s)⟩
  | collectionWindowExpiry => exact ⟨_, rfl, steady (whenAwake_steady (fun s => setCoin_steady _ s) s)⟩
  | collectionLockoutExpiry => exact ⟨_, rfl, steady (whenAwake_steady (fun s => setCoin_steady _ s) s)⟩
  | carryCompletes =>
    exact ⟨_, rfl, whenAwake_held (fun hs => hs.ite fun hc => carryCompletes_held hs hc.1) h⟩
  | settlementEnds => exact ⟨_, rfl, whenAwake_held settlementEnds_held h⟩
  | offHook => exact ⟨_, rfl, offHook_held h⟩
  | onHook => exact ⟨_, rfl, onHook_held h⟩
  | debouncedChangeToOnHook => exact ⟨_, rfl, hookFalls_held h⟩
  | firstDigitTimerExpiry =>
    exact ⟨_, rfl, whenAwake_held (fun hs => hs.ite fun hk => refuseNumber_held _ hs (hs.collecting hk)) h⟩
  | interDigitTimerExpiry =>
    exact ⟨_, rfl, whenAwake_held (fun hs => hs.ite fun hk => interDigitEnds_held hs (hs.collecting hk)) h⟩
  | depositTimerExpiry => exact ⟨_, rfl, whenAwake_held (fun hs => hs.ite fun hk => depositTimerEnds_held hs hk) h⟩
  | lineWaitTimerExpiry => exact ⟨_, rfl, whenAwake_held (fun hs => hs.ite fun hk => lineWaitTimerEnds_held hs hk) h⟩
  | ringTimerExpiry => exact ⟨_, rfl, whenAwake_held (fun hs => hs.ite fun hk => ringTimerEnds_held hs hk) h⟩
  | followOnTimerExpiry => exact ⟨_, rfl, whenAwake_held (fun hs => hs.ite fun _ => stopCallTimer_held hs) h⟩
  | stepFallsDue => exact ⟨_, rfl, whenAwake_held (fun hs => hs.ite fun _ => stepDue_held _ hs) h⟩
  | warningPoint => exact ⟨_, rfl, whenAwake_held (fun hs => hs.ite fun _ => warningPoint_held hs) h⟩
  | scheduledActivationDue => exact ⟨_, rfl, steady (whenAwake_steady scheduledActivation_steady s)⟩
  | clockBecomesUnset => exact ⟨_, rfl, steady (whenAwake_steady clockEnds_steady s)⟩
  | orderLimitExpiry => exact ⟨_, rfl, whenAwake_held orderLimitEnds_held h⟩
  | centreSessionExpiry => exact ⟨_, rfl, whenAwake_held centreSessionEnds_held h⟩
  | sensorEdge i high => exact ⟨_, rfl, steady (whenAwake_steady (sensorEdge_steady i high) s)⟩
  | backoffExpiry => exact ⟨_, rfl, steady (whenAwake_steady backoffEnds_steady s)⟩
  | storeOperationStart => exact ⟨_, rfl, steady (whenAwake_steady (fun s => setStore_steady _ s) s)⟩
  | programDone => exact ⟨_, rfl, steady (whenAwake_steady programDone_steady s)⟩
  | markProgramDone => exact ⟨_, rfl, steady (whenAwake_steady markProgramDone_steady s)⟩
  | eraseDone => exact ⟨_, rfl, steady (whenAwake_steady eraseDone_steady s)⟩
  | eraseSliceEnd => exact ⟨_, rfl, steady (whenAwake_steady (fun s => setStore_steady _ s) s)⟩
  | commitDone => exact ⟨_, rfl, steady (whenAwake_steady commitDone_steady s)⟩
  | readRecordsReady => exact ⟨_, rfl, steady (whenAwake_steady readReady_steady s)⟩
  | owedEraseQueued r =>
    exact ⟨_, rfl, steady (whenAwake_steady (fun s =>
      .ite ((queueRingErase_steady r s).trans (freedPlace_steady _)) (.refl s)) s)⟩
  | overflowRecord => exact ⟨_, rfl, steady (whenAwake_steady (fun s => .ite (postOverflow_steady s) (.refl s)) s)⟩
  | warnFalling => exact ⟨_, rfl, steady (whenAwake_steady (fun s => .ite (warnFalls_steady s) (.refl s)) s)⟩
  | warnRising => exact ⟨_, rfl, steady (whenAwake_steady (fun s => .ite (warnRises_steady s) (.refl s)) s)⟩
  | supplyReset => exact ⟨_, rfl, supplyFails_held h⟩
  | powerOnReset levels => exact ⟨_, rfl, recover_reset_held levels _ s⟩
  | restartFallsDue levels => exact ⟨_, rfl, h.ite fun _ => recover_reset_held levels _ s⟩
  | supplyRisesPastFail levels => exact ⟨_, rfl, h.ite fun _ => recover_reset_held levels _ s⟩
  | sensorCheck coins => exact ⟨_, rfl, steady (whenAwake_steady (sensorCheck_steady coins) s)⟩
  | flushWindowExpiry coins => exact ⟨_, rfl, steady (whenAwake_steady (flushWindowEnds_steady coins) s)⟩
  | saveSectorHousekeeping => exact ⟨_, rfl, steady (whenAwake_steady housekeeping_steady s)⟩

theorem idle_keeps_lineHeld (h : LineHeld s) : LineHeld (idle s).1 := by
  rcases idle_cases s with he | he | ⟨-, he⟩
  · exact he ▸ (tick_steady s).held h
  · exact he.symm ▸ h
  · exact he ▸ (recover_steady (heldLevels s) s).held h

/-- Settles O7: the laws of the line, with the claims that wait on it, the call it is held for and the call's timers, are one
invariant, which a command either does not touch or carries through the ends of an ownership. -/
theorem lineLawsAreKept : Obligations.LineLawsAreKept := by
  intro s t h hstep
  have held := (lineLaws_iff s).1 h
  have ends {u : State} {c : Instr} (hu : LineHeld u) (he : exec c u = .next t) : LineLaws t := by
    obtain ⟨v, hv, hlaws⟩ := exec_keeps_lineHeld c hu
    obtain rfl := Host.Outcome.next.inj (hv.symm.trans he)
    exact (lineLaws_iff v).2 hlaws
  unfold step at hstep
  split at hstep
  · rename_i rest _
    exact ends (LineHeld.of_view (t := { s with pending := rest }) held rfl) hstep
  · split at hstep
    · exact ends (idle_keeps_lineHeld held) hstep
    · exact Host.Outcome.next.inj hstep ▸ (lineLaws_iff _).2 (idle_keeps_lineHeld held)

end Sys2Proof.Proofs
end

section
/-! PROOFS. Keys outside COLLECTING (O19, O20, O24). -/

namespace Sys2Proof.Proofs

open Sys2Proof Sys2Proof.Machine Sys2Proof.Laws

variable {s t u : State}

/-! ### A request whose owner does more than answer -/

theorem answerPort_writes (p : Port) (r : Reply) (s : State) : ∃ q, answerPort p r s = { s with ports := q } := ⟨_, rfl⟩

/-- A request ends in the state its owner leaves, with the answer in the slot. -/
theorem request_ends {q : Request} {p : Port} {owner : State → State × Reply} {code : ResultCode} {fields : List Byte}
    (h : Running s) (hf : SlotFree p s) (hp : permitted q p = true)
    (ho : owner (frameTaken p s) = (u, some (code, fields))) :
    ∃ x, (Host.Outcome.next (takeRequest q p owner s) : Host.Outcome State Fault Refusal) = .next { u with ports := x }
      ∧ (portOf x p).slot = .ready code fields := by
  obtain ⟨x, hx⟩ := answerPort_writes p (some (code, fields)) u
  refine ⟨x, ?_, ?_⟩
  · rw [takeRequest_frameTaken h hf hp, ho, hx]
  · have slot := answerPort_slot p code fields u
    rwa [hx] at slot

/-! ### Keys by the call state (R69) -/

theorem keyForDigit_refused {d : Nat} (hx : s.call.state = .idle ∨ s.call.state = .settling) :
    keyForDigit d s = (s, refuseState) := by
  rcases hx with hx | hx <;> simp only [keyForDigit, hx]

theorem keyForDigit_discarded {d : Nat} (hx : s.call.state = .waitCoins ∨ s.call.state = .waitLine
      ∨ s.call.state = .connecting ∨ s.call.state = .alerting ∨ s.call.state = .refused ∨ s.call.state = .clearing
      ∨ s.call.state = .afterCall) : keyForDigit d s = (s, keyDiscarded) := by
  rcases hx with hx | hx | hx | hx | hx | hx | hx <;> simp only [keyForDigit, hx]

theorem keyForCancel_refused (hc : s.call.state ≠ .collecting) (hw : s.call.state ≠ .waitCoins)
    (hl : s.call.state ≠ .waitLine) : keyForCancel s = (s, refuseState) := by
  unfold keyForCancel
  split
  case h_1 hx => exact absurd hx hc
  case h_2 hx => exact absurd hx hw
  case h_3 hx => exact absurd hx hl
  all_goals rfl

theorem keyForFollowOn_refused (hx : s.call.state = .idle ∨ s.call.state = .settling ∨ s.call.state = .waitCoins
      ∨ s.call.state = .waitLine ∨ s.call.state = .connecting ∨ s.call.state = .alerting ∨ s.call.state = .refused) :
    keyForFollowOn s = (s, refuseState) := by
  rcases hx with hx | hx | hx | hx | hx | hx | hx <;> simp only [keyForFollowOn, hx]

/-- Settles O19: the branches of the three keys that leave the state alone. -/
theorem keysByCallState : Obligations.KeysByCallState := by
  intro s h hf
  refine ⟨fun d hd => ⟨fun hx => ?_, fun hx => ?_⟩, fun hc hw hl => ?_, fun hx => ?_⟩
  · exact request_answered h hf rfl
      ((keyPressed_digit hd).trans (keyForDigit_refused (s := frameTaken .set s) hx))
  · exact request_answered h hf rfl
      ((keyPressed_digit hd).trans (keyForDigit_discarded (s := frameTaken .set s) hx))
  · exact request_answered h hf rfl (keyForCancel_refused (s := frameTaken .set s) hc hw hl)
  · exact request_answered h hf rfl (keyForFollowOn_refused (s := frameTaken .set s) hx)

/-! ### CANCEL of an accepted number (R68) -/

theorem abandonNumber_writes (s : State) : ∃ p, abandonNumber s = { s with
    call := { s.call with state := .collecting, acceptance := none, timer := none }
    analyser := { state := .awaitingFirst, timer := some (.firstDigit, s.now + Config.firstDigit) }, ports := p } :=
  ⟨_, setCallState_eq _ _⟩

/-- Settles O20: the number is abandoned, in WAIT_LINE with its claim. -/
theorem cancelAbandonsTheNumber : Obligations.CancelAbandonsTheNumber := by
  intro s h hf hx
  rcases hx with hx | hx
  · obtain ⟨p, abandoned⟩ := abandonNumber_writes (frameTaken .set s)
    have key : keyForCancel (frameTaken .set s) = (abandonNumber (frameTaken .set s), keyMore) := by
      simp only [keyForCancel, show (frameTaken .set s).call.state = .waitCoins from hx]
    obtain ⟨q, ends, slot⟩ := request_ends (q := .key) (owner := keyPressed 13) h hf rfl key
    refine ⟨_, ends, slot, ?_⟩
    rw [abandoned]
    exact ⟨rfl, rfl, fun _ => rfl, fun hl => absurd (hx.symm.trans hl) (by decide), rfl⟩
  · obtain ⟨p, abandoned⟩ := abandonNumber_writes (withdrawCustomerClaim (frameTaken .set s))
    have key : keyForCancel (frameTaken .set s) = (abandonNumber (withdrawCustomerClaim (frameTaken .set s)), keyMore) := by
      simp only [keyForCancel, show (frameTaken .set s).call.state = .waitLine from hx]
    obtain ⟨q, ends, slot⟩ := request_ends (q := .key) (owner := keyPressed 13) h hf rfl key
    refine ⟨_, ends, slot, ?_⟩
    rw [abandoned]
    exact ⟨rfl, rfl, fun hw => absurd (hx.symm.trans hw) (by decide), fun _ => rfl, rfl⟩

/-! ### A digit after dialling (R82) -/

theorem keyForDigit_answered {d : Nat} (hx : s.call.state = .connected ∨ s.call.state = .warning) :
    keyForDigit d s = queueDigit d s := by
  rcases hx with hx | hx <;> simp only [keyForDigit, hx]

theorem queueDigit_full {d : Nat} (h : 8 ≤ s.call.afterDial.length) : queueDigit d s = (s, refuseBusy) := if_pos h

theorem queueDigit_room {d : Nat} (h : s.call.afterDial.length < 8) : queueDigit d s
    = (postTone { s with call := { s.call with afterDial := s.call.afterDial ++ [d] } }, keyQueued) :=
  if_neg (Nat.not_le_of_gt h)

/-- An order stands in the slot: no TONE is posted. -/
theorem postTone_waits (h : s.line.slot ≠ none) : postTone s = s := by
  unfold postTone
  split
  · rfl
  · rw [if_neg (by simp [h])]

theorem postTone_posts {d : Nat} {rest : List Nat} (hq : s.call.afterDial = d :: rest)
    (hx : answered s.call.state = true) (ho : s.line.owner = .customer) (hs : s.line.slot = none) :
    postTone s = { s with call := { s.call with afterDial := rest }, line := lineWithOrder (.tone d) 50 s } := by
  simp [postTone, hq, hx, ho, hs, postOrder, postingOf, orderKind, enterSlot_eq, Config.orderLimit, lineWithOrder]

theorem answered_iff {x : CallState} : answered x = true ↔ x = .connected ∨ x = .warning := by simp [answered]

theorem queueDigit_waits {d : Nat} (room : s.call.afterDial.length < 8) (busy : s.line.slot ≠ none) :
    queueDigit d s = ({ s with call := { s.call with afterDial := s.call.afterDial ++ [d] } }, keyQueued) := by
  rw [queueDigit_room room, postTone_waits (by exact busy)]

theorem queueDigit_sends {d : Nat} (empty : s.call.afterDial = []) (hx : answered s.call.state = true)
    (ho : s.line.owner = .customer) (hs : s.line.slot = none) :
    queueDigit d s = ({ s with line := lineWithOrder (.tone d) 50 s }, keyQueued) := by
  rw [queueDigit_room (by simp [empty]), postTone_posts (s := { s with call := { s.call with
    afterDial := s.call.afterDial ++ [d] } }) (d := d) (rest := []) (by simp [empty]) hx ho hs, ← empty]
  rfl

/-! ### FOLLOW_ON (R39, R80, R81) -/

theorem keyForFollowOn_answered (hx : s.call.state = .connected ∨ s.call.state = .warning) :
    keyForFollowOn s = (enterClearing .answered (markFollowOn s), keyFollowOn) := by
  rcases hx with hx | hx <;> simp only [keyForFollowOn, hx]

theorem keyForFollowOn_clearing (hx : s.call.state = .clearing) :
    keyForFollowOn s = if s.call.hangUp then (s, refuseState) else (markFollowOn s, keyFollowOn) := by
  simp only [keyForFollowOn, hx]

theorem keyForFollowOn_afterCall (hx : s.call.state = .afterCall) :
    keyForFollowOn s = if callTimerRuns .followOn s then (beginCarry (markFollowOn (stopCallTimer s)), keyFollowOn)
      else (s, refuseState) := by
  simp only [keyForFollowOn, hx]

/-- The entry to CLEARING is said of neither the marks nor the notices. -/
theorem entersClearing_of_marks {o : CallOutcome} {hangUp followOn restartEnd : Bool} {p q : Ports}
    (h : EntersClearing o { s with
      call := { s.call with hangUp := hangUp, followOn := followOn, restartEnd := restartEnd }, ports := p } u) :
    EntersClearing o s { u with ports := q } := by
  obtain ⟨state, fixed, kept, timer, queue, since, duration, acceptance, start, band, heldOff, tariff, stopped, steps, line,
    writes⟩ := h
  refine ⟨state, fixed, kept, timer, queue, since, duration, acceptance, start, band, heldOff, tariff, stopped, steps, line, ?_⟩
  rw [writes]

/-- A carry begins: the shortfall check is made for it (R34, R39). -/
theorem beginCarry_checked (hp : s.account.phase = .opened false) :
    CollectionsChecked { s.account with phase := .opened true } s.coin (beginCarry s)
      ∧ beginCarry s = { s with account := (beginCarry s).account, coin := (beginCarry s).coin } := by
  unfold beginCarry
  rw [if_pos hp]
  exact shortfall_checked (s := { s with account := { s.account with phase := .opened true } }) nofun

/-- Settles O24: a digit by the room in the queue and the slot, FOLLOW_ON by the call state. -/
theorem keysOfAnAnsweredCall : Obligations.KeysOfAnAnsweredCall := by
  refine ⟨fun d s h hf hx hd => ⟨fun full => ?_, fun room busy => ?_, fun empty free owned => ?_⟩,
    fun s h hf => ⟨fun hx => ?_, fun hx unmarked => ?_, fun hx marked => ?_, fun hx still => ?_, fun hx runs hp => ?_⟩⟩
  · exact request_answered h hf rfl (((keyPressed_digit hd).trans
      (keyForDigit_answered (s := frameTaken .set s) hx)).trans (queueDigit_full full))
  · exact request_answered h hf rfl (((keyPressed_digit hd).trans
      (keyForDigit_answered (s := frameTaken .set s) hx)).trans (queueDigit_waits room busy))
  · exact request_answered h hf rfl (((keyPressed_digit hd).trans
      (keyForDigit_answered (s := frameTaken .set s) hx)).trans (queueDigit_sends empty (answered_iff.2 hx) owned free))
  · obtain ⟨entered, -, followOn⟩ := enterClearing_enters .answered (markFollowOn (frameTaken .set s))
    obtain ⟨q, ends, slot⟩ := request_ends (q := .key) (owner := keyPressed 12) h hf rfl
      (keyForFollowOn_answered (s := frameTaken .set s) hx)
    exact ⟨_, ends, entersClearing_of_marks (hangUp := s.call.hangUp) (restartEnd := s.call.restartEnd) entered, followOn, slot⟩
  · exact request_answered h hf rfl ((keyForFollowOn_clearing (s := frameTaken .set s) hx).trans (if_neg (ne_true_of_eq_false unmarked)))
  · exact request_answered h hf rfl ((keyForFollowOn_clearing (s := frameTaken .set s) hx).trans (if_pos marked))
  · exact request_answered h hf rfl ((keyForFollowOn_afterCall (s := frameTaken .set s) hx).trans
      (if_neg (ne_true_of_eq_false still)))
  · obtain ⟨checked, writes⟩ := beginCarry_checked (s := markFollowOn (stopCallTimer (frameTaken .set s))) hp
    obtain ⟨q, ends, slot⟩ := request_ends (q := .key) (owner := keyPressed 12) h hf rfl
      ((keyForFollowOn_afterCall (s := frameTaken .set s) hx).trans (if_pos runs))
    refine ⟨_, ends, ?_, checked, slot, ?_⟩
    · rw [writes]
      rfl
    · rw [writes]
      rfl

end Sys2Proof.Proofs
end

section
/-! PROOFS. Line events (O26), the start of metering (O38) and meter pulses (O39). -/

namespace Sys2Proof.Proofs

open Sys2Proof Sys2Proof.Machine Sys2Proof.Laws

variable {s t u : State}

/-! ### Line events by the owner and the call state (R73) -/

theorem callEvent_refused {fits : CallState → Bool} {effect : State → State}
    (h : s.line.owner ≠ .customer ∨ fits s.call.state = false) : callEvent fits effect s = (s, refuseState) := by
  refine if_neg ?_
  rcases h with h | h <;> simp [h]

theorem callEvent_taken {fits : CallState → Bool} {effect : State → State} (ho : s.line.owner = .customer)
    (hx : fits s.call.state = true) : callEvent fits effect s = (effect s, replyOk []) := by
  refine if_pos ?_
  simp [ho, hx]

theorem isAlerting_iff {x : CallState} : isAlerting x = true ↔ x = .alerting := by simp [isAlerting]

theorem not_answered {x : CallState} (hc : x ≠ .connected) (hw : x ≠ .warning) : answered x = false := by
  simp [answered, hc, hw]

/-- The call that has been answered, before its metering starts (R71). -/
def answeredCall (s : State) : Call :=
  { s.call with
    state := .connected, timer := none, bandAtAnswer := some (bandInForce s), connectedSince := some s.now, duration := 0 }

theorem answerCall_unmetered (h : ∀ a, s.call.acceptance = some a → a.row = none) :
    ∃ p, answerCall s = { s with call := answeredCall s, ports := p } := by
  have unmetered : s.call.acceptance.bind (·.row) = none := by
    cases ha : s.call.acceptance with
    | none => rfl
    | some a => exact h a ha
  unfold answerCall
  rw [setCallState_eq]
  simp only [stopCallTimer_call, unmetered]
  exact ⟨_, rfl⟩

/-- Settles O26: each event by its owner and its call state, BUSY and FAR_CLEAR by the entry to CLEARING. -/
theorem lineEventsFitTheCallState : Obligations.LineEventsFitTheCallState := by
  intro s h hf
  refine ⟨fun misfit => ⟨?_, ?_⟩, fun misfit => ⟨?_, ?_⟩, fun ho hx => ⟨?_, fun unmetered => ?_⟩, fun ho hx => ?_⟩
  · have misfit := misfit.imp_right fun hx => Bool.eq_false_of_not_eq_true (hx ∘ isAlerting_iff.1)
    exact request_answered h hf rfl (callEvent_refused (s := frameTaken .line s) misfit)
  · have misfit := misfit.imp_right fun hx => Bool.eq_false_of_not_eq_true (hx ∘ isAlerting_iff.1)
    exact request_answered h hf rfl (callEvent_refused (s := frameTaken .line s) misfit)
  · have misfit := misfit.imp_right fun hx => not_answered hx.1 hx.2
    exact request_answered h hf rfl (callEvent_refused (s := frameTaken .line s) misfit)
  · have misfit := misfit.imp_right fun hx => not_answered hx.1 hx.2
    exact request_answered h hf rfl (callEvent_refused (s := frameTaken .line s) misfit)
  · obtain ⟨q, ends, slot⟩ := request_ends (q := .lineEvent) h hf rfl
      (callEvent_taken (s := frameTaken .line s) (effect := enterClearing .busy) ho (isAlerting_iff.2 hx))
    obtain ⟨entered, -, -⟩ := enterClearing_enters .busy (frameTaken .line s)
    exact ⟨_, ends, entersClearing_of_marks (hangUp := s.call.hangUp) (followOn := s.call.followOn)
      (restartEnd := s.call.restartEnd) entered, slot⟩
  · obtain ⟨q, ends, slot⟩ := request_ends (q := .lineEvent) h hf rfl
      (callEvent_taken (s := frameTaken .line s) (effect := answerCall) ho (isAlerting_iff.2 hx))
    obtain ⟨p, hanswer⟩ := answerCall_unmetered (s := frameTaken .line s) unmetered
    refine ⟨_, ends, ?_, slot, ?_⟩
    · rw [hanswer]
      rfl
    · rw [hanswer]
      rfl
  · obtain ⟨q, ends, slot⟩ := request_ends (q := .lineEvent) h hf rfl
      (callEvent_taken (s := frameTaken .line s) (effect := enterClearing .answered) ho (answered_iff.2 hx))
    obtain ⟨entered, -, -⟩ := enterClearing_enters .answered (frameTaken .line s)
    exact ⟨_, ends, entersClearing_of_marks (hangUp := s.call.hangUp) (followOn := s.call.followOn)
      (restartEnd := s.call.restartEnd) entered, slot⟩

/-! ### Charges (R33, R34) -/

/-- An account `a` with the coin unit `c` stands at `b` and `d` after its shortfall check. -/
structure ChargedTo (a : Account) (c : CoinUnit) (b : Account) (d : CoinUnit) : Prop where
  account : b = { a with n := b.n }
  checked : ∀ t : State, t.account = b → t.coin = d → CollectionsChecked a c t

theorem shortfall_chargedTo (hp : ∀ r, s.account.phase ≠ .settling .collect r) :
    ∃ b d, shortfall s = { s with account := b, coin := d } ∧ ChargedTo s.account s.coin b d := by
  obtain ⟨⟨k, posted, -, left⟩, writes⟩ := shortfall_checked hp
  obtain ⟨account, coin⟩ := left (.inl hp)
  refine ⟨_, _, writes, ⟨by rw [account], fun t ht hc => ⟨k, posted, fun r hr => absurd hr (hp r), fun _ => ?_⟩⟩⟩
  exact ⟨ht.trans account, hc.trans coin⟩

theorem chargedAccount_covered {m : Nat} {a : Account} (hp : a.phase = .opened false) (hm : m ≤ available a) :
    chargedAccount m a = { a with c := a.c + m } := by
  simp [chargedAccount, chargeAnswer, hp, hm]

theorem chargedAccount_short {m : Nat} {a : Account} (hp : a.phase = .opened false) (hm : available a < m) :
    chargedAccount m a = { a with c := a.c + available a } := by
  simp [chargedAccount, chargeAnswer, hp, Nat.not_le.2 hm]

theorem charge_chargedTo (m : Nat) (hp : s.account.phase = .opened false) :
    ∃ b d, charge m s = { s with account := b, coin := d } ∧ ChargedTo (chargedAccount m s.account) s.coin b d := by
  rw [charge, if_pos hp]
  refine shortfall_chargedTo (s := { s with account := chargedAccount m s.account }) fun r => ?_
  simp [chargedAccount_phase, hp]

theorem charge_covers {m : Nat} (hp : s.account.phase = .opened false) (hm : m ≤ available s.account) :
    ∃ b d, charge m s = { s with account := b, coin := d }
      ∧ ChargedTo { s.account with c := s.account.c + m } s.coin b d :=
  chargedAccount_covered hp hm ▸ charge_chargedTo m hp

theorem charge_exhausts {m : Nat} (hp : s.account.phase = .opened false) (hm : available s.account < m) :
    ∃ b d, charge m s = { s with account := b, coin := d }
      ∧ ChargedTo { s.account with c := s.account.c + available s.account } s.coin b d :=
  chargedAccount_short hp hm ▸ charge_chargedTo m hp

theorem ChargedTo.available {a b : Account} {c d : CoinUnit} (h : ChargedTo a c b d) : available b = available a := by
  rw [h.account]
  rfl

theorem chargeAnswer_charged {m : Nat} {a : Account} (hp : a.phase = .opened false) (hm : m ≤ available a) :
    chargeAnswer m a = .charged := by
  simp [chargeAnswer, hp, hm]

theorem chargeAnswer_short {m : Nat} {a : Account} (hp : a.phase = .opened false) (hm : available a < m) :
    chargeAnswer m a = .short := by
  simp [chargeAnswer, hp, Nat.not_le.2 hm]

/-! ### The warning (R107, R110) -/

/-- The call state once A has been compared with an amount. -/
def judgedState (amount : Nat) (s : State) : CallState :=
  if available s.account < amount then
    if s.tariff.meter.warned = false ∧ s.call.state = .connected then .warning else s.call.state
  else if s.tariff.meter.warned = true ∧ s.call.state = .warning then .connected else s.call.state

theorem judgedState_unwarned {amount : Nat} (hw : s.tariff.meter.warned = false) (hx : s.call.state = .connected) :
    judgedState amount s = if available s.account < amount then .warning else .connected := by
  simp [judgedState, hw, hx]

theorem sendWarning_writes (amount : Nat) (s : State) : ∃ p, sendWarning amount s = { s with
    tariff := { s.tariff with meter := { s.tariff.meter with warned := true } }
    call := { s.call with state := if s.call.state = .connected then .warning else s.call.state }, ports := p } := by
  unfold sendWarning
  simp only
  rw [postNotice_eq]
  split
  · next hx =>
    rw [setCallState_eq, if_pos (by exact hx)]
    exact ⟨_, rfl⟩
  · next hx =>
    rw [if_neg (by exact hx)]
    exact ⟨_, rfl⟩

theorem sendOk_writes (s : State) : ∃ p, sendOk s = { s with
    tariff := { s.tariff with meter := { s.tariff.meter with warned := false } }
    call := { s.call with state := if s.call.state = .warning then .connected else s.call.state }, ports := p } := by
  unfold sendOk
  simp only
  rw [postNotice_eq]
  split
  · next hx =>
    rw [setCallState_eq, if_pos (by exact hx)]
    exact ⟨_, rfl⟩
  · next hx =>
    rw [if_neg (by exact hx)]
    exact ⟨_, rfl⟩

/-- The mark and the call state that a comparison of A leaves. -/
theorem judge_writes (amount : Nat) (s : State) : ∃ p, judge amount s = { s with
    tariff := { s.tariff with meter := { s.tariff.meter with warned := decide (available s.account < amount) } }
    call := { s.call with state := judgedState amount s }, ports := p } := by
  have same {w : Bool} (hw : s.tariff.meter.warned = w) : ∃ p, s = { s with
      tariff := { s.tariff with meter := { s.tariff.meter with warned := w } }
      call := { s.call with state := s.call.state }, ports := p } := ⟨s.ports, by rw [← hw]⟩
  unfold judge judgedState
  by_cases short : available s.account < amount
  · cases hw : s.tariff.meter.warned with
    | true => simpa [short] using same hw
    | false => simpa [short] using sendWarning_writes amount s
  · cases hw : s.tariff.meter.warned with
    | true => simpa [short] using sendOk_writes s
    | false => simpa [short] using same hw

theorem setThreshold_writes (s : State) : ∃ p, setThreshold s = { s with
    tariff := { s.tariff with meter := { s.tariff.meter with
      threshold := some (2 * (entryInForce s).step)
      warned := decide (available s.account < 2 * (entryInForce s).step) } }
    call := { s.call with state := judgedState (2 * (entryInForce s).step) s }, ports := p } :=
  judge_writes (2 * (entryInForce s).step)
    (setMeter { s.tariff.meter with threshold := some (2 * (entryInForce s).step) } s)

/-! ### The forced clear (R75, R108, R111) -/

/-- The forced clear of an answered call: its metering is STOPPED with nothing left of it, and RELEASE is posted. -/
theorem forcedClear_answered (hx : answered s.call.state = true) (ho : s.line.owner = .customer) :
    ∃ p, forcedClear s = { s with
      call := { s.call with
        state := .clearing
        outcome := s.call.outcome.or (some .forcedClear), reason := if s.call.outcome = none then none else s.call.reason
        timer := none, afterDial := [], connectedSince := none, duration := connectedDuration s
        steps := s.tariff.meter.steps }
      tariff := { s.tariff with meter := {} }, line := lineWithOrder .release 50 s, ports := p } := by
  obtain ⟨p, writes⟩ := enterClearing_writes .forcedClear
    { s with tariff := { s.tariff with meter := { s.tariff.meter with state := .forced, periodUntil := none } } }
  refine ⟨p, ?_⟩
  unfold forcedClear
  simp only
  rw [if_pos hx, writes]
  simp [ho, lineWithOrder, connectedDuration]

/-! ### The connection charge and what follows it (R104, R105, R110) -/

theorem connectionCharge_covers (hp : s.account.phase = .opened false)
    (hm : (entryInForce s).connection ≤ available s.account) :
    ∃ b d, connectionCharge s = afterConnection { s with account := b, coin := d }
      ∧ b = { s.account with c := s.account.c + (entryInForce s).connection, n := b.n }
      ∧ ∀ t : State, t.account = b → t.coin = d →
          if (entryInForce s).connection = 0 then t.account = s.account ∧ t.coin = s.coin
          else CollectionsChecked { s.account with c := s.account.c + (entryInForce s).connection } s.coin t := by
  by_cases free : (entryInForce s).connection = 0
  · refine ⟨s.account, s.coin, ?_, by rw [free]; rfl, fun t ht hc => ?_⟩
    · rw [connectionCharge, if_pos free]
    · rw [if_pos free]
      exact ⟨ht, hc⟩
  · obtain ⟨b, d, hcharge, paid⟩ := charge_covers hp hm
    refine ⟨b, d, ?_, paid.account, fun t ht hc => ?_⟩
    · simp only [connectionCharge, if_neg free, if_neg (Nat.not_lt.2 hm), chargeAnswer_charged hp hm, hcharge]
    · rw [if_neg free]
      exact paid.checked t ht hc

/-- A short of the connection charge is charged itself, where there is any. -/
theorem connectionCharge_exhausts (hp : s.account.phase = .opened false)
    (hm : available s.account < (entryInForce s).connection) :
    ∃ b d, connectionCharge s = forcedClear { s with account := b, coin := d }
      ∧ b = { s.account with c := s.account.c + available s.account, n := b.n }
      ∧ ∀ t : State, 0 < available s.account → t.account = b → t.coin = d →
          CollectionsChecked { s.account with c := s.account.c + available s.account } s.coin t := by
  have due : (entryInForce s).connection ≠ 0 := Nat.ne_of_gt (Nat.zero_lt_of_lt hm)
  by_cases none : available s.account = 0
  · refine ⟨s.account, s.coin, ?_, by rw [none]; rfl, fun t some => absurd none (Nat.ne_of_gt some)⟩
    simp only [connectionCharge, if_neg due, if_pos hm, if_pos none]
  · obtain ⟨b, d, hcharge, paid⟩ := charge_covers hp (Nat.le_refl _)
    refine ⟨b, d, ?_, paid.account, fun t _ ht hc => paid.checked t ht hc⟩
    simp only [connectionCharge, if_neg due, if_pos hm, if_neg none, hcharge]

theorem afterConnection_free (hmode : s.tariff.meter.mode = .localSteps) (hf : (entryInForce s).free ≠ 0) :
    afterConnection s = setMeter { s.tariff.meter with
      state := .freeInterval, entry := some (entryInForce s), warnPassed := false, warnCharge := none
      periodUntil := some (s.now + (entryInForce s).free) } s := by
  simp only [afterConnection, hmode, if_neg hf]

theorem afterConnection_step (hmode : s.tariff.meter.mode = .localSteps) (hf : (entryInForce s).free = 0) :
    afterConnection s = stepDue true s := by
  simp only [afterConnection, hmode, if_pos hf]

theorem afterConnection_pulsed (hmode : s.tariff.meter.mode = .exchange) :
    afterConnection s = setThreshold (setMeter { s.tariff.meter with state := .pulsed } s) := by
  simp only [afterConnection, hmode]

theorem stepDue_short (first : Bool) (hm : available s.account < (entryInForce s).step) :
    stepDue first s = forcedClear s := by
  simp only [stepDue, if_pos hm]

theorem stepLength_first (e : TariffEntry) :
    stepLength true e = if e.firstPeriod ≠ 0 then e.firstPeriod else e.period := by
  simp [stepLength]

/-- A step that A covers starts its period, counted and charged. -/
theorem stepDue_covers (first : Bool) (hp : s.account.phase = .opened false) (hw : s.tariff.meter.warned = false)
    (hm : (entryInForce s).step ≤ available s.account) :
    ∃ b d, stepDue first s = setMeter { s.tariff.meter with
          state := .stepping, steps := cap16 (s.tariff.meter.steps + 1), entry := some (entryInForce s)
          warnPassed := false, warnCharge := none, periodUntil := some (s.now + stepLength first (entryInForce s)) }
        { s with account := b, coin := d }
      ∧ ChargedTo { s.account with c := s.account.c + (entryInForce s).step } s.coin b d := by
  obtain ⟨b, d, hcharge, paid⟩ := charge_covers hp hm
  refine ⟨b, d, ?_, paid⟩
  simp only [stepDue, if_neg (Nat.not_lt.2 hm), chargeAnswer_charged hp hm, startStep, hcharge, hw, Bool.false_eq_true,
    if_false]

/-! ### ANSWER of a METERED call (R71, R103) -/

/-- The state in which the connection charge of an answered call falls due. -/
def meteringStarted (row : List TariffEntry) (mode : Source) (p : Ports) (s : State) : State :=
  { s with
    call := answeredCall s, ports := p, tariff := { s.tariff with meter := { row := some row, mode := mode } } }

theorem answerCall_metered {a : Acceptance} {row : List TariffEntry} {mode : Source}
    (hstop : s.tariff.meter.state = .stopped) (ha : s.call.acceptance = some a) (hr : a.row = some row)
    (hmode : (row.getD (bandInForce s) TariffEntry.initial).source = mode) :
    ∃ p, answerCall s = connectionCharge (meteringStarted row mode p s) := by
  have metered : s.call.acceptance.bind (·.row) = some row := by
    rw [ha]
    exact hr
  subst hmode
  unfold answerCall
  rw [setCallState_eq]
  simp only [stopCallTimer_call, metered, startMetering]
  rw [if_neg (by exact not_not_intro hstop)]
  exact ⟨_, rfl⟩

/-- ANSWER is taken, and leaves what the connection charge leaves. -/
theorem exec_answer_metered {a : Acceptance} {row : List TariffEntry} {mode : Source} (h : Running s)
    (hf : SlotFree .line s) (ho : s.line.owner = .customer) (hx : s.call.state = .alerting)
    (hstop : s.tariff.meter.state = .stopped) (ha : s.call.acceptance = some a) (hr : a.row = some row)
    (hmode : (row.getD (bandInForce s) TariffEntry.initial).source = mode) :
    ∃ p q, exec (.answer .line) s = .next { connectionCharge (meteringStarted row mode p s) with ports := q }
      ∧ (portOf q .line).slot = .ready .ok [] := by
  obtain ⟨q, ends, slot⟩ := request_ends (q := .lineEvent) h hf rfl
    (callEvent_taken (s := frameTaken .line s) (effect := answerCall) ho (isAlerting_iff.2 hx))
  obtain ⟨p, metered⟩ := answerCall_metered (s := frameTaken .line s) hstop ha hr hmode
  rw [metered] at ends
  exact ⟨p, q, ends, slot⟩

/-- Settles O38: what follows the answer is the connection charge of the row in force, and then by mode and free interval. -/
theorem answerStartsMetering : Obligations.AnswerStartsMetering := by
  intro s h hf ho hx hstop hp a ha row hr
  refine ⟨fun hm hmode hfree => ?_, fun hm hmode hfree hstep => ?_, fun hm hmode hfree hstep => ?_, fun hm hmode => ?_,
    fun hm => ?_⟩
  · obtain ⟨p, q, ends, slot⟩ := exec_answer_metered h hf ho hx hstop ha hr hmode
    obtain ⟨b, d, hpaid, hb, checked⟩ := connectionCharge_covers (s := meteringStarted row .localSteps p s) hp hm
    rw [hpaid, afterConnection_free (by exact rfl) (by exact hfree)] at ends
    exact ⟨_, ends, rfl, hb, checked _ rfl rfl, rfl, slot, rfl⟩
  · obtain ⟨p, q, ends, slot⟩ := exec_answer_metered h hf ho hx hstop ha hr hmode
    obtain ⟨b, d, hpaid, hb, checked⟩ := connectionCharge_covers (s := meteringStarted row .localSteps p s) hp hm
    generalize hu : ({ meteringStarted row .localSteps p s with account := b, coin := d } : State) = u at hpaid
    have left : available u.account = available { s.account with c := s.account.c +
        (row.getD (bandInForce s) TariffEntry.initial).connection } := by
      rw [← hu, hb]
      rfl
    obtain ⟨b', d', hstepped, paid⟩ := stepDue_covers (s := u) true (by rw [← hu, hb]; exact hp) (by rw [← hu]; rfl)
      (by rw [left, ← hu]; exact hstep)
    rw [hpaid, afterConnection_step (by rw [← hu]; rfl) (by rw [← hu]; exact hfree), hstepped, stepLength_first] at ends
    subst hu
    refine ⟨_, ends, rfl, ?_, ⟨_, checked _ rfl rfl, paid.checked _ rfl rfl⟩, ?_⟩
    · exact paid.account.trans (by rw [hb]; rfl)
    · rfl
  · obtain ⟨p, q, ends, slot⟩ := exec_answer_metered h hf ho hx hstop ha hr hmode
    obtain ⟨b, d, hpaid, hb, checked⟩ := connectionCharge_covers (s := meteringStarted row .localSteps p s) hp hm
    obtain ⟨p', hcleared⟩ := forcedClear_answered (s := { meteringStarted row .localSteps p s with account := b, coin := d })
      rfl ho
    rw [hpaid, afterConnection_step (by exact rfl) (by exact hfree), stepDue_short, hcleared] at ends
    · refine ⟨_, ends, rfl, fun unfixed => ?_, hb, checked _ rfl rfl, rfl, rfl, rfl⟩
      simp [meteringStarted, answeredCall, unfixed]
    · rw [hb]
      exact hstep
  · obtain ⟨p, q, ends, slot⟩ := exec_answer_metered h hf ho hx hstop ha hr hmode
    obtain ⟨b, d, hpaid, hb, checked⟩ := connectionCharge_covers (s := meteringStarted row .exchange p s) hp hm
    rw [hpaid, afterConnection_pulsed (by exact rfl)] at ends
    have left : available b = available { s.account with c := s.account.c +
        (row.getD (bandInForce s) TariffEntry.initial).connection } := by
      rw [hb]
      rfl
    generalize hu : setMeter _ _ = u at ends
    obtain ⟨p', hjudged⟩ := setThreshold_writes u
    rw [hjudged, ← hu] at ends
    refine ⟨_, ends, (judgedState_unwarned rfl rfl).trans ?_, hb, checked _ rfl rfl, ?_⟩
    · rw [← left]
      rfl
    · rw [← left]
      rfl
  · obtain ⟨p, q, ends, slot⟩ := exec_answer_metered h hf ho hx hstop ha hr rfl
    obtain ⟨b, d, hpaid, hb, checked⟩ := connectionCharge_exhausts (s := meteringStarted row _ p s) hp hm
    obtain ⟨p', hcleared⟩ := forcedClear_answered (s := { meteringStarted row _ p s with account := b, coin := d })
      rfl ho
    rw [hpaid, hcleared] at ends
    refine ⟨_, ends, rfl, fun unfixed => ?_, hb, fun some => checked _ some rfl rfl, rfl, rfl⟩
    simp [meteringStarted, answeredCall, unfixed]

/-! ### METER_PULSE (R108, R109) -/

theorem meterPulse_idle (h : s.tariff.meter.state ≠ .pulsed) : meterPulse s = s := if_pos h

theorem meterPulse_covers (h : s.tariff.meter.state = .pulsed) (hp : s.account.phase = .opened false)
    (hm : (entryInForce s).step ≤ available s.account) :
    meterPulse s = setThreshold (countStep (charge (entryInForce s).step s)) := by
  simp only [meterPulse, h, ne_eq, not_true_eq_false, if_false, chargeAnswer_charged hp hm]

theorem meterPulse_exhausts (h : s.tariff.meter.state = .pulsed) (hp : s.account.phase = .opened false)
    (hm : available s.account < (entryInForce s).step) :
    meterPulse s = forcedClear (countStep (charge (entryInForce s).step s)) := by
  simp only [meterPulse, h, ne_eq, not_true_eq_false, if_false, chargeAnswer_short hp hm]

/-- An account that is being closed takes no charge. -/
theorem meterPulse_closing (h : s.tariff.meter.state = .pulsed)
    (hp : ∀ carry, s.account.phase = .opened carry → carry = true) : meterPulse s = forceQuietly s := by
  have closed : chargeAnswer (entryInForce s).step s.account = .notOpen
      ∨ chargeAnswer (entryInForce s).step s.account = .closing := by
    unfold chargeAnswer
    split
    case h_4 hopen => exact absurd (hp false hopen) (by decide)
    all_goals simp
  rcases closed with closed | closed <;>
    simp only [meterPulse, h, ne_eq, not_true_eq_false, if_false, closed]

/-- Settles O39: a pulse by the metering state, the account's phase and A. -/
theorem meterPulseCharges : Obligations.MeterPulseCharges := by
  intro s h hf ho hx
  have taken := callEvent_taken (s := frameTaken .line s) (effect := meterPulse) ho (answered_iff.2 hx)
  refine ⟨fun idle => ?_, fun pulsed => ⟨fun hp hm => ?_, fun hp hm => ?_, fun closing => ?_⟩⟩
  · rw [meterPulse_idle (by exact idle)] at taken
    exact request_answered h hf rfl taken
  · obtain ⟨q, ends, slot⟩ := request_ends (q := .lineEvent) h hf rfl taken
    obtain ⟨b, d, hcharge, paid⟩ := charge_covers (s := frameTaken .line s)
      (m := (entryInForce (frameTaken .line s)).step) hp hm
    rw [meterPulse_covers (s := frameTaken .line s) pulsed hp hm, hcharge] at ends
    generalize hu : countStep _ = u at ends
    obtain ⟨p, hjudged⟩ := setThreshold_writes u
    rw [hjudged, ← hu] at ends
    refine ⟨_, ends, paid.checked _ rfl rfl, pulsed, rfl, rfl, ?_, rfl⟩
    exact congrArg (fun a => decide (a < _)) paid.available
  · obtain ⟨q, ends, slot⟩ := request_ends (q := .lineEvent) h hf rfl taken
    obtain ⟨b, d, hcharge, paid⟩ := charge_exhausts (s := frameTaken .line s)
      (m := (entryInForce (frameTaken .line s)).step) hp hm
    rw [meterPulse_exhausts (s := frameTaken .line s) pulsed hp hm, hcharge] at ends
    generalize hu : countStep _ = u at ends
    obtain ⟨p, hcleared⟩ := forcedClear_answered (s := u) (by rw [← hu]; exact answered_iff.2 hx) (by rw [← hu]; exact ho)
    rw [hcleared, ← hu] at ends
    refine ⟨_, ends, rfl, rfl, fun unfixed => ?_, paid.account, paid.checked _ rfl rfl, rfl, rfl⟩
    simp [countStep, setMeter, frameTaken, unfixed]
  · rw [meterPulse_closing (by exact pulsed) (by exact closing)] at taken
    exact request_answered h hf rfl taken

end Sys2Proof.Proofs
end

section
/-! PROOFS. The hook (O25) and RESTART (O59): how a call is hung up in each state. -/

namespace Sys2Proof.Proofs

open Sys2Proof Sys2Proof.Machine Sys2Proof.Laws

variable {s t u : State}

/-! ### The entry to SETTLING (R36, R76, R84) -/

theorem collectionsChecked_settling {a : Account} {c : CoinUnit} {r : Bool}
    (h : CollectionsChecked { a with phase := .settling .collect r } c t) :
    (∃ stage, t.account.phase = .settling stage r) ∧ t.account = { a with phase := t.account.phase, n := t.account.n }
      ∧ t.coin = { c with gateQueue := t.coin.gateQueue } := by
  obtain ⟨k, -, refunds, stays⟩ := h
  by_cases hn : a.n + k = 0
  · obtain ⟨account, coin⟩ := refunds r rfl hn
    rw [account, coin]
    exact ⟨⟨_, rfl⟩, rfl, rfl⟩
  · obtain ⟨account, coin⟩ := stays (.inr hn)
    rw [account, coin]
    exact ⟨⟨_, rfl⟩, rfl, rfl⟩

/-- The settle request to an OPEN account (R36). -/
theorem settleAccount_settles (h : ∃ carry, s.account.phase = .opened carry) :
    AccountSettles s (settleAccount s)
      ∧ settleAccount s = { s with account := (settleAccount s).account, coin := (settleAccount s).coin } := by
  obtain ⟨carry, hp⟩ := h
  generalize hstart : ({ s with account := { s.account with phase := .settling .flight false } } : State) = start
  have leaves : settleAccount s = leaveFlightStage start := by
    simp only [settleAccount, hp, ← hstart]
  rw [leaves]
  by_cases hf : s.coin.flight = none
  · obtain ⟨checked, writes⟩ := leaveFlightStage_checked (s := start) (r := false) (by rw [← hstart]) (by rw [← hstart]; exact hf)
    rw [← hstart] at checked writes ⊢
    obtain ⟨stage, account, coin⟩ := collectionsChecked_settling checked
    exact ⟨⟨stage, fun flies => absurd hf flies, fun _ => checked, account, coin⟩, writes⟩
  · rw [leaveFlightStage_stays (s := start) (.inr (by rw [← hstart]; exact hf)), ← hstart]
    exact ⟨⟨⟨_, rfl⟩, fun _ => ⟨rfl, rfl⟩, fun landed => absurd landed hf, rfl, rfl⟩, rfl⟩

/-- The settlement is said of the account and the coin unit alone. -/
theorem accountSettles_congr {s' t' : State} (h : AccountSettles s t) (hsa : s'.account = s.account)
    (hsc : s'.coin = s.coin) (hta : t'.account = t.account) (htc : t'.coin = t.coin) : AccountSettles s' t' := by
  unfold AccountSettles CollectionsChecked at h ⊢
  rwa [hsa, hsc, hta, htc]

/-- A call with an OPEN account enters SETTLING. -/
theorem enterSettling_settles (h : ∃ carry, s.account.phase = .opened carry) :
    AccountSettles s (enterSettling s) ∧ ∃ a c p, enterSettling s = { s with
      call := { s.call with state := .settling, timer := none }, account := a, coin := c, ports := p } := by
  rw [enterSettling, setCallState_eq]
  generalize (setCallState .settling (stopCallTimer s)).ports = p
  obtain ⟨settles, settled⟩ := settleAccount_settles
    (s := { s with call := { s.call with state := .settling, timer := none }, ports := p }) h
  exact ⟨accountSettles_congr settles rfl rfl rfl rfl, _, _, _, settled⟩

/-! ### Hanging up by the call state (R76) -/

/-- In `t` the call of `s` has left its states before the line is owned, or after the call, for SETTLING. -/
structure HungUp (s t : State) : Prop where
  enters : EntersSettling s t
  hook : t.call.hook = s.call.hook
  held : t.call.heldOffHook = s.call.heldOffHook
  restartEnd : t.call.restartEnd = s.call.restartEnd
  outcome : s.call.state = .collecting ∨ s.call.state = .waitCoins ∨ s.call.state = .waitLine →
    s.call.outcome = none → t.call.outcome = some .unanswered
  analysis : s.call.state = .collecting → t.analyser.timer = none ∨ analysisRuns s.analyser = false
  claim : s.call.state = .waitLine → t.line.waitingCustomer = none ∧ t.line.preempting = none

/-- What the outcome, the claim and the analysis are when the call enters SETTLING. -/
theorem hungUp_of_settling {o : Option CallOutcome} {r : Option Reason} {a : Analyser} {l : Line}
    (h : ∃ carry, s.account.phase = .opened carry)
    (outcome : s.call.state = .collecting ∨ s.call.state = .waitCoins ∨ s.call.state = .waitLine →
      s.call.outcome = none → o = some .unanswered)
    (analysis : s.call.state = .collecting → a.timer = none ∨ analysisRuns s.analyser = false)
    (claim : s.call.state = .waitLine → l.waitingCustomer = none ∧ l.preempting = none) :
    HungUp s (enterSettling { s with
      call := { s.call with outcome := o, reason := r }, analyser := a, line := l }) := by
  obtain ⟨settles, b, c, p, writes⟩ := enterSettling_settles
    (s := { s with call := { s.call with outcome := o, reason := r }, analyser := a, line := l }) h
  have settles := accountSettles_congr (s' := s) settles rfl rfl rfl rfl
  rw [writes] at settles ⊢
  exact ⟨⟨rfl, rfl, settles, rfl⟩, rfl, rfl, rfl, outcome, analysis, claim⟩

theorem stopAnalysis_stops (s : State) : (stopAnalysis s).analyser.timer = none ∨ analysisRuns s.analyser = false := by
  unfold stopAnalysis
  split
  · exact .inl rfl
  · next hr => exact .inr (Bool.eq_false_of_not_eq_true hr)

theorem hangUpCall_settles (h : ∃ carry, s.account.phase = .opened carry)
    (hx : s.call.state = .collecting ∨ s.call.state = .waitCoins ∨ s.call.state = .waitLine ∨ s.call.state = .afterCall
      ∨ s.call.state = .refused) : HungUp s (hangUpCall s) := by
  have unfixed (hn : s.call.outcome = none) : s.call.outcome.or (some .unanswered) = some .unanswered := by rw [hn]; rfl
  rcases hx with hx | hx | hx | hx | hx
  · have acts : hangUpCall s = enterSettling (fixOutcome .unanswered none (stopAnalysis s)) := by simp only [hangUpCall, hx]
    rw [acts, fixOutcome_eq, stopAnalysis_eq]
    exact hungUp_of_settling h (fun _ => unfixed) (fun _ => stopAnalysis_stops s) (by simp [hx])
  · have acts : hangUpCall s = enterSettling (fixOutcome .unanswered none s) := by simp only [hangUpCall, hx]
    rw [acts, fixOutcome_eq]
    exact hungUp_of_settling h (fun _ => unfixed) (by simp [hx]) (by simp [hx])
  · have acts : hangUpCall s = enterSettling (fixOutcome .unanswered none (withdrawCustomerClaim s)) := by
      simp only [hangUpCall, hx]
    rw [acts, fixOutcome_eq]
    exact hungUp_of_settling h (fun _ => unfixed) (by simp [hx]) (fun _ => ⟨rfl, rfl⟩)
  all_goals
    have acts : hangUpCall s = enterSettling s := by simp only [hangUpCall, hx]
    rw [acts]
    exact hungUp_of_settling h (by simp [hx]) (by simp [hx]) (by simp [hx])

/-- The call of `s` that owns the line is being cleared in `t`, marked as hung up. -/
structure HungUpOnLine (o : CallOutcome) (s t : State) : Prop where
  enters : EntersClearing o s t
  hook : t.call.hook = s.call.hook
  restartEnd : t.call.restartEnd = s.call.restartEnd
  hangUp : t.call.hangUp = true
  followOn : t.call.followOn = false

theorem enterClearing_hungUp (o : CallOutcome) (s : State) : HungUpOnLine o s (enterClearing o (markHangUp s)) := by
  obtain ⟨p, writes⟩ := enterClearing_writes o (markHangUp s)
  obtain ⟨entered, hangUp, followOn⟩ := enterClearing_enters o (markHangUp s)
  refine ⟨entersClearing_of_marks (restartEnd := s.call.restartEnd) (q := (enterClearing o (markHangUp s)).ports) entered,
    ?_, ?_, hangUp, followOn⟩
  · rw [writes]
    rfl
  · rw [writes]
    rfl

theorem hangUpCall_dialled (hx : s.call.state = .connecting ∨ s.call.state = .alerting) :
    HungUpOnLine .unanswered s (hangUpCall s) := by
  have clears : hangUpCall s = enterClearing .unanswered (markHangUp s) := by
    rcases hx with hx | hx <;> simp only [hangUpCall, hx]
  exact clears ▸ enterClearing_hungUp _ s

theorem hangUpCall_answered (hx : s.call.state = .connected ∨ s.call.state = .warning) :
    HungUpOnLine .answered s (hangUpCall s) := by
  have clears : hangUpCall s = enterClearing .answered (markHangUp s) := by
    rcases hx with hx | hx <;> simp only [hangUpCall, hx]
  exact clears ▸ enterClearing_hungUp _ s

theorem hangUpCall_clearing (hx : s.call.state = .clearing) : hangUpCall s = markHangUp s := by
  simp only [hangUpCall, hx]

theorem hangUpCall_settling (hx : s.call.state = .settling) :
    hangUpCall s = { s with call := { s.call with heldOffHook := false } } := by
  simp only [hangUpCall, hx]

theorem hangUpCall_idle (hx : s.call.state = .idle) : hangUpCall s = s := by
  simp only [hangUpCall, hx]

/-! ### The hook (R61, R62, R64) -/

theorem hookWatched_of_running (h : Running s) : hookWatched s = true := by
  simp [hookWatched, awake_of_running h, recovering_of_running h]

/-- The pin has changed to off-hook, and no on-hook is held any more. -/
def hookLifted (s : State) : State := { s with call := { s.call with hookInput := true, holdFrom := none } }

theorem exec_offHook (h : offHook s = t) : exec .offHook s = .next t := congrArg Host.Outcome.next h

theorem offHook_only_lifts (h : s.call.holdFrom ≠ none ∨ s.call.hookInput = true ∨ s.call.hook = .stale) :
    offHook s = hookLifted s := by
  unfold offHook
  simp only
  split
  · rfl
  · next hacts =>
    simp only [Bool.or_eq_true, not_or, Option.not_isSome_iff_eq_none] at hacts
    obtain ⟨⟨-, hhold⟩, hinput⟩ := hacts
    have stale : (hookLifted s).call.hook = .stale := (h.resolve_left (absurd hhold)).resolve_left hinput
    exact if_pos stale

theorem offHook_acts (h : Running s) (hhold : s.call.holdFrom = none) (hinput : s.call.hookInput = false) :
    offHook s = offHookEvent (hookLifted s) := by
  unfold offHook
  simp only
  rw [if_neg (by simp [hookWatched_of_running h, hhold, hinput])]
  rfl

theorem offHookEvent_idle (hstale : s.call.hook ≠ .stale) (hr : s.call.restartEnd = false) (hx : s.call.state = .idle) :
    offHookEvent s = beginCall { s with call := { s.call with hook := .off } } := by
  simp only [offHookEvent, hstale, hr, hx, if_false, Bool.false_eq_true]

theorem offHookEvent_settling (hstale : s.call.hook ≠ .stale) (hr : s.call.restartEnd = false)
    (hx : s.call.state = .settling) :
    offHookEvent s = { s with call := { s.call with hook := .off, heldOffHook := true } } := by
  simp only [offHookEvent, hstale, hr, hx, if_false, Bool.false_eq_true]

theorem beginCall_idle (h : s.account.phase = .idle) : ∃ p, beginCall s = { s with
    account := { phase := .opened false }
    call := { s.call with state := .collecting, startTime := timeOfDay s, connectedSince := none, duration := 0
                          bandAtAnswer := none, steps := 0 }
    analyser := { state := .awaitingFirst, timer := some (.firstDigit, s.now + Config.firstDigit) }, ports := p } := by
  rw [beginCall, setCallState_eq, openAccount, if_pos h]
  exact ⟨_, rfl⟩

/-- The hook has been taken as ON. -/
def hookDown (s : State) : State :=
  { s with call := { s.call with hook := .on, holdFrom := none, heldOffHook := false } }

theorem exec_onHook (h : Running s) (hhold : s.call.holdFrom ≠ none) : exec .onHook s = .next (hangUpCall (hookDown s)) := by
  refine congrArg Host.Outcome.next (if_pos ?_)
  rw [hookWatched_of_running h, Bool.true_and]
  exact Option.isSome_iff_ne_none.2 hhold

/-- The entry to SETTLING is said of neither the call nor the notices of before. -/
theorem entersSettling_of_call {c : Call} {p q : Ports} (h : EntersSettling { s with call := c, ports := p } u) :
    EntersSettling s { u with ports := q } := by
  obtain ⟨state, timer, settles, writes⟩ := h
  refine ⟨state, timer, accountSettles_congr settles rfl rfl rfl rfl, ?_⟩
  rw [writes]

/-- Settles O25: off-hook and on-hook by the hold, the hook and the call state. -/
theorem hookActsByCallState : Obligations.HookActsByCallState := by
  refine ⟨fun s h => ⟨fun lifts => ?_, fun hhold hinput hstale hr => ⟨fun hx hp => ?_, fun hx => ?_⟩⟩,
    fun s h => ⟨fun hinput => ?_, fun hhold => ?_, fun hhold => ?_⟩⟩
  · exact exec_offHook (offHook_only_lifts lifts)
  · obtain ⟨p, begun⟩ := beginCall_idle (s := { hookLifted s with call := { (hookLifted s).call with hook := .off } }) hp
    have acts := (offHook_acts h hhold hinput).trans ((offHookEvent_idle (s := hookLifted s) hstale hr hx).trans begun)
    exact ⟨_, exec_offHook acts, rfl, rfl, rfl, rfl⟩
  · exact exec_offHook ((offHook_acts h hhold hinput).trans (offHookEvent_settling (s := hookLifted s) hstale hr hx))
  · exact congrArg _ (if_pos (by simp [hookWatched_of_running h, hinput]))
  · exact congrArg _ (if_neg (by simp [hhold]))
  · have ends := exec_onHook h hhold
    refine ⟨fun hx => ?_, fun hx => ?_, fun hopen hx => ?_, fun hx => ?_, fun hx => ?_⟩
    · exact ends.trans (congrArg _ (hangUpCall_idle (s := hookDown s) hx))
    · exact ends.trans (congrArg _ (hangUpCall_clearing (s := hookDown s) hx))
    · have hung := hangUpCall_settles (s := hookDown s) hopen hx
      exact ⟨_, ends, entersSettling_of_call (c := (hookDown s).call) (p := s.ports) hung.enters, hung.hook, hung.outcome,
        hung.claim⟩
    · have hung := hangUpCall_dialled (s := hookDown s) hx
      exact ⟨_, ends, hung.enters, hung.hook, hung.hangUp, hung.followOn⟩
    · have hung := hangUpCall_answered (s := hookDown s) hx
      exact ⟨_, ends, hung.enters, hung.hook, hung.hangUp, hung.followOn⟩

/-! ### RESTART (R85, R191) -/

theorem awake_settled_iff (s : State) : awake s = true ∧ recovering s = false ↔ Running s := by
  refine ⟨fun ⟨hawake, hrec⟩ => ?_, fun h => ⟨awake_of_running h, recovering_of_running h⟩⟩
  have recovered : s.supply.recovery = none := Option.isNone_iff_eq_none.1 (by simpa [recovering] using hrec)
  exact ⟨by simpa [awake, recovered] using hawake, recovered⟩

theorem storeIdle_iff (st : Store) :
    storeIdle st = true ↔ st.queue = [] ∧ st.reserved = none ∧ st.program = none ∧ st.erase = none := by
  simp [storeIdle, and_assoc]

theorem restartDue_iff (s : State) : restartDue s = true ↔ Running s ∧ s.call.state = .idle
    ∧ ((s.supply.restart = some .whenIdle ∧ s.line.owner = .nobody)
        ∨ (s.supply.restart = some .now ∧ s.supply.callEnded = true))
    ∧ s.coin.gateOp = none ∧ s.coin.gateTest = none ∧ s.coin.gateQueue = []
    ∧ s.store.queue = [] ∧ s.store.reserved = none ∧ s.store.program = none ∧ s.store.erase = none
    ∧ s.supply.state = .normal := by
  rw [← awake_settled_iff]
  unfold restartDue
  simp only [Bool.and_eq_true, storeIdle_iff, and_assoc]
  cases s.supply.restart with
  | none => simp
  | some m => cases m <;> simp

/-- The restart has been ordered, and the call is asked for its end (R85). -/
def restartOrdered (s : State) : State :=
  { s with
    supply := { s.supply with restart := some .now, callEnded := false }
    call := { s.call with restartEnd := true, heldOffHook := false } }

/-- The entry to CLEARING of a call that has been asked for its end is said without the asking. -/
theorem restartOrdered_clears {o : CallOutcome} {q : Ports} (h : EntersClearing o (restartOrdered (frameTaken .line s)) u) :
    EntersClearing o { s with
      supply := { s.supply with restart := some .now, callEnded := false }
      call := { s.call with heldOffHook := false } } { u with ports := q } :=
  entersClearing_of_marks (hangUp := s.call.hangUp) (followOn := s.call.followOn) (restartEnd := true) h

theorem requestRestart_now (hnow : s.supply.restart ≠ some .now) (hr : s.call.restartEnd = false) :
    requestRestart (some .now) s = (if s.call.state = .idle then tellCallEnded (restartOrdered s)
      else hangUpCall (restartOrdered s), replyAccepted) := by
  simp only [requestRestart, if_neg hnow, endCallForRestart]
  rw [if_neg (c := (setRestart .now s).call.restartEnd = true) (ne_true_of_eq_false hr)]
  rfl

theorem requestRestart_whenIdle (h : s.supply.restart = none) :
    requestRestart (some .whenIdle) s = (setRestart .whenIdle s, replyAccepted) := by
  simp [requestRestart, h]

theorem requestRestart_pending (h : s.supply.restart ≠ none) :
    requestRestart (some .whenIdle) s = (s, replyAccepted) := by
  rw [requestRestart, if_pos (Option.isSome_iff_ne_none.2 h)]

theorem requestRestart_again (h : s.supply.restart = some .now) : requestRestart (some .now) s = (s, replyAccepted) := by
  rw [requestRestart, if_pos h]

/-- Settles O59: NOW hangs the call up by its state, with the end of the call asked for. -/
theorem restartIsRequested : Obligations.RestartIsRequested := by
  refine ⟨restartDue_iff, fun s h hf => ⟨?_, fun hn => ?_, fun hsome => ?_, fun hnow => ?_, fun hnow hr => ?_⟩⟩
  · exact request_answered h hf rfl rfl
  · exact request_answered h hf rfl (requestRestart_whenIdle (s := frameTaken .line s) hn)
  · exact request_answered h hf rfl (requestRestart_pending (s := frameTaken .line s) hsome)
  · exact request_answered h hf rfl (requestRestart_again (s := frameTaken .line s) hnow)
  have taken := requestRestart_now (s := frameTaken .line s) hnow hr
  have hung (busy : s.call.state ≠ .idle) :
      requestRestart (some .now) (frameTaken .line s) = (hangUpCall (restartOrdered (frameTaken .line s)), replyAccepted) := by
    rw [taken, if_neg (by exact busy)]
  refine ⟨fun hx => ?_, fun hx => ?_, fun hx => ?_, fun hx => ?_, fun hopen hx => ?_, fun hx => ?_⟩
  · rw [if_pos (by exact hx), tellCallEnded_eq] at taken
    obtain ⟨q, ends, slot⟩ := request_ends (q := .restart) h hf rfl taken
    refine ⟨_, ends, rfl, slot, ?_, rfl⟩
    simp [restartOrdered, frameTaken, ← hr]
  · have settled := hung (by simp [hx])
    rw [hangUpCall_clearing (by exact hx)] at settled
    exact request_answered h hf rfl settled
  · obtain ⟨q, ends, slot⟩ := request_ends (q := .restart) h hf rfl (hung (by rcases hx with hx | hx <;> simp [hx]))
    have cleared := hangUpCall_answered (s := restartOrdered (frameTaken .line s)) hx
    exact ⟨_, ends, restartOrdered_clears cleared.enters, cleared.restartEnd, cleared.hangUp, cleared.followOn, slot⟩
  · obtain ⟨q, ends, slot⟩ := request_ends (q := .restart) h hf rfl (hung (by rcases hx with hx | hx <;> simp [hx]))
    have cleared := hangUpCall_dialled (s := restartOrdered (frameTaken .line s)) hx
    exact ⟨_, ends, restartOrdered_clears cleared.enters, cleared.restartEnd, cleared.hangUp, cleared.followOn, slot⟩
  · obtain ⟨q, ends, slot⟩ := request_ends (q := .restart) h hf rfl (hung (by rcases hx with hx | hx | hx | hx | hx <;> simp [hx]))
    have settled := hangUpCall_settles (s := restartOrdered (frameTaken .line s)) hopen hx
    exact ⟨_, ends, entersSettling_of_call (s := { s with supply := (restartOrdered s).supply })
        (c := (restartOrdered s).call) (p := (frameTaken .line s).ports) settled.enters, settled.restartEnd, settled.held,
      settled.hook, settled.outcome, settled.analysis, settled.claim, slot⟩
  · have settled := hung (by simp [hx])
    rw [hangUpCall_settling (by exact hx)] at settled
    exact request_answered h hf rfl settled

end Sys2Proof.Proofs
end

section
/-! PROOFS. Orders are fetched (R121, R122), and the end of the call's own orders (R70, R77, R82). -/

namespace Sys2Proof.Proofs

open Sys2Proof Sys2Proof.Machine Sys2Proof.Laws

variable {s t u : State}

/-! ### Requests whose owner posts notices -/

/-- An owner that does nothing to the ports but post notices leaves them as the frame has left them. -/
theorem request_posted {q : Request} {p : Port} {owner : State → State × Reply} {code : ResultCode} {fields : List Byte}
    (h : Running s) (hf : SlotFree p s) (hp : permitted q p = true)
    (ho : owner (frameTaken p s) = (u, some (code, fields))) (posts : PostsOnly (frameTaken p s) u) :
    (Host.Outcome.next (takeRequest q p owner s) : Host.Outcome State Fault Refusal) = .next (answeredWith p code fields u) := by
  have fetch : (portOf u.ports p).fetch = none := posts.fetch p (by cases p <;> rfl)
  have sent : (portOf u.ports p).sent = .ofRequest := (posts.sent p).trans (by cases p <;> rfl)
  rw [takeRequest_frameTaken h hf hp, ho, answerPort_eq_answeredWith fetch sent]

/-! ### FETCH_ORDER (R121) -/

theorem fetchOrder_outOfRange {part : Nat} (h : 16 < part) : fetchOrder part s = (s, refuseRange) := if_pos h

theorem fetchOrder_empty {part : Nat} (h : part ≤ 16) (hs : s.line.slot = none) :
    fetchOrder part s = (s, replyOk (byte1 2)) := by
  simp only [fetchOrder, if_neg (Nat.not_lt.2 h), hs]

theorem fetchOrder_part {part : Nat} {o : Order} {fields : List Byte} (h : part ≤ 16) (hs : s.line.slot = some o)
    (hfields : orderPart part o = some fields) : fetchOrder part s
      = ({ s with line := { s.line with slot := some { o with taken := true } } }, replyOk fields) := by
  simp only [fetchOrder, if_neg (Nat.not_lt.2 h), hs, hfields]

theorem fetchOrder_noPart {part : Nat} {o : Order} (h : part ≤ 16) (hs : s.line.slot = some o)
    (hfields : orderPart part o = none) : fetchOrder part s = (s, refuseRange) := by
  simp only [fetchOrder, if_neg (Nat.not_lt.2 h), hs, hfields]

theorem orderPart_item {part : Nat} (o : Order) (h : 1 ≤ part) : orderPart part o
    = ((bodyBatch o.body)[part - 1]?).map (fun i => byte1 1 ++ orderHead o ++ itemBytes i) :=
  if_neg (Nat.ne_of_gt h)

/-! ### ORDER_DONE (R122) -/

theorem orderDone_otherOutcome {kind : OrderKind} {outcome : OrderOutcome} (number : Nat)
    (h : (outcomesOf kind).contains outcome = false) : orderDone (some kind) number (some outcome) s = (s, refuseRange) := by
  simp only [orderDone, h, Bool.false_eq_true, if_false]

theorem orderDone_notCurrent {kind : OrderKind} {outcome : OrderOutcome} {number : Nat}
    (h : (outcomesOf kind).contains outcome = true)
    (other : ∀ o, s.line.slot = some o → orderKind o.body ≠ kind ∨ o.number ≠ number ∨ o.taken = false) :
    orderDone (some kind) number (some outcome) s = (s, refuseState) := by
  simp only [orderDone, h, if_true, completeOrder]
  cases hs : s.line.slot with
  | none => rfl
  | some o => simp only [if_pos (other o hs)]

theorem orderDone_current {kind : OrderKind} {outcome : OrderOutcome} {number : Nat} {o : Order}
    (h : (outcomesOf kind).contains outcome = true) (hs : s.line.slot = some o) (hkind : orderKind o.body = kind)
    (hnumber : o.number = number) (htaken : o.taken = true) :
    orderDone (some kind) number (some outcome) s = (endOrder o.body outcome s, replyOk []) := by
  simp only [orderDone, h, if_true, completeOrder, hs]
  rw [if_neg (by simp [hkind, hnumber, htaken])]

/-- A part of O44: FETCH_ORDER by its part and the slot, and the two checks of ORDER_DONE. -/
theorem ordersAreFetched : OrdersAreFetched := by
  intro kind number part outcome s h hf
  refine ⟨fun high => ?_, fun hpart hs => ?_, fun o hs => ⟨?_, fun low hpart => ⟨fun i hi => ?_, fun none => ?_⟩⟩, ?_, ?_,
    fun other => ?_, fun fits other => ?_⟩
  · exact request_answered h hf rfl (fetchOrder_outOfRange high)
  · exact request_answered h hf rfl (fetchOrder_empty (s := frameTaken .line s) hpart hs)
  · exact request_answered h hf rfl (fetchOrder_part (s := frameTaken .line s) (Nat.zero_le _) hs rfl)
  · refine request_answered h hf rfl (fetchOrder_part (s := frameTaken .line s) hpart hs ?_)
    rw [orderPart_item o low, hi]
    rfl
  · refine request_answered h hf rfl (fetchOrder_noPart (s := frameTaken .line s) hpart hs ?_)
    rw [orderPart_item o low, List.getElem?_eq_none (by omega)]
    rfl
  · exact request_answered h hf rfl rfl
  · exact request_answered h hf rfl rfl
  · exact request_answered h hf rfl (orderDone_otherOutcome number other)
  · exact request_answered h hf rfl (orderDone_notCurrent (s := frameTaken .line s) fits other)

/-! ### The marks of a call that has lost its line (R77, R78) -/

theorem setCallState_posts (x : CallState) (s : State) : PostsOnly s (setCallState x s) := by
  unfold setCallState
  simp only
  split
  · exact .of_eq rfl
  · exact (postNotice_posts _ _ _).of_ports rfl

/-- The call of `s` has been moved on by its marks in `t`. -/
structure LeftByMarks (s t : State) : Prop where
  settles : s.call.hangUp = true → t.call = { s.call with state := .settling, timer := none } ∧ AccountSettles s t
  carries : s.call.hangUp = false → s.call.followOn = true → s.account.phase = .opened false →
    t.call = { s.call with state := .afterCall } ∧ CollectionsChecked { s.account with phase := .opened true } s.coin t
  rests : s.call.hangUp = false → s.call.followOn = false →
    t.call = { s.call with state := .afterCall, timer := some (.followOn, s.now + 200) }
      ∧ t.account = s.account ∧ t.coin = s.coin
  posts : PostsOnly s t
  writes : ∃ c a k p, t = { s with call := c, account := a, coin := k, ports := p }

theorem enterSettling_posts (h : ∃ carry, s.account.phase = .opened carry) : PostsOnly s (enterSettling s) := by
  obtain ⟨-, settled⟩ := settleAccount_settles (s := setCallState .settling (stopCallTimer s))
    (by simpa only [setCallState_account, stopCallTimer_account] using h)
  have posted : PostsOnly s (setCallState .settling (stopCallTimer s)) := (setCallState_posts _ _).of_ports rfl
  refine posted.trans (.of_eq ?_)
  rw [enterSettling, settled]

theorem beginCarry_writes (s : State) : ∃ a c, beginCarry s = { s with account := a, coin := c } := by
  by_cases hp : s.account.phase = .opened false
  · obtain ⟨-, writes⟩ := beginCarry_checked hp
    exact ⟨_, _, writes⟩
  · exact ⟨_, _, if_neg hp⟩

/-- A call whose account is OPEN leaves CLEARING by its marks. -/
theorem leaveByMarks_leaves (h : ∃ carry, s.account.phase = .opened carry) : LeftByMarks s (leaveByMarks s) := by
  obtain ⟨p, after⟩ := setCallState_writes .afterCall s
  have posted : PostsOnly s { s with ports := p } := (setCallState_posts .afterCall s).trans (.of_eq (by rw [after]))
  unfold leaveByMarks
  by_cases hangs : s.call.hangUp = true
  · rw [if_pos hangs]
    obtain ⟨settles, a, c, q, writes⟩ := enterSettling_settles h
    exact ⟨fun _ => ⟨by rw [writes], settles⟩, fun hn => absurd (hangs.symm.trans hn) (by decide),
      fun hn => absurd (hangs.symm.trans hn) (by decide), enterSettling_posts h, _, _, _, _, writes⟩
  rw [if_neg hangs, after]
  by_cases follows : s.call.followOn = true
  · rw [if_pos follows]
    generalize hu : ({ s with call := { s.call with state := .afterCall }, ports := p } : State) = u
    obtain ⟨a, c, writes⟩ := beginCarry_writes u
    refine ⟨fun hh => absurd hh hangs, fun _ _ hp => ?_, fun _ hn => absurd (follows.symm.trans hn) (by decide), ?_, ?_⟩
    · obtain ⟨checked, -⟩ := beginCarry_checked (s := u) (by rw [← hu]; exact hp)
      rw [← hu] at checked
      refine ⟨?_, hu ▸ checked⟩
      rw [writes, ← hu]
    · rw [writes, ← hu]
      exact posted.trans (.of_eq rfl)
    · rw [writes, ← hu]
      exact ⟨_, _, _, _, rfl⟩
  · rw [if_neg follows]
    exact ⟨fun hh => absurd hh hangs, fun _ hf => absurd hf follows, fun _ _ => ⟨rfl, rfl, rfl⟩, posted.trans (.of_eq rfl),
      _, _, _, _, rfl⟩

/-! ### Grants and the arbiter post notices alone -/

theorem postOrder_posts (o : Owner) (b : OrderBody) (s : State) : PostsOnly s (postOrder o b s) := .of_eq (by simp)

theorem grantCustomer_posts (s : State) : PostsOnly s (grantCustomer s) := by
  have owned : PostsOnly s (stopCallTimer (setOwner .customer s)) := (setOwner_posts .customer s).trans (.of_eq rfl)
  unfold grantCustomer
  simp only
  split
  · exact owned
  · exact owned.trans ((postOrder_posts _ _ _).trans (setCallState_posts _ _))

theorem grantWaitingCustomer_posts (s : State) : PostsOnly s (grantWaitingCustomer s) :=
  (grantCustomer_posts _).of_ports rfl

theorem grantWaitingReport_posts (s : State) : PostsOnly s (grantWaitingReport s) := by
  have granted : PostsOnly s (grantReport { s with line := { s.line with waitingReport := none } }) :=
    (grantReport_posts _).of_ports rfl
  unfold grantWaitingReport
  simp only
  split
  · exact granted.trans (grantWaitingCustomer_posts _)
  · exact granted

theorem arbiter_posts (s : State) : PostsOnly s (arbiter s) := by
  unfold arbiter
  split
  case h_1 | h_3 | h_4 => exact grantWaitingCustomer_posts s
  case h_2 | h_5 => exact grantWaitingReport_posts s
  case h_6 => exact .of_eq rfl

theorem handOn_posts (s : State) : PostsOnly s (handOn s) := by
  unfold handOn
  split
  · exact (grantCustomer_posts _).of_ports rfl
  · exact arbiter_posts s

theorem freeLine_posts (s : State) : PostsOnly s (freeLine s) := (setOwner_posts .nobody (emptySlot s)).of_ports rfl

/-! ### The end of the call's orders -/

theorem orderKind_connect {b : OrderBody} (h : orderKind b = .connect) : ∃ d c, b = .connect d c := by
  cases b with
  | connect d c => exact ⟨d, c, rfl⟩
  | _ => cases h

theorem orderKind_tone {b : OrderBody} (h : orderKind b = .tone) : ∃ d, b = .tone d := by
  cases b with
  | tone d => exact ⟨d, rfl⟩
  | _ => cases h

theorem orderKind_release {b : OrderBody} (h : orderKind b = .release) : b = .release := by
  cases b with
  | release => rfl
  | _ => cases h

theorem connectDone_dialled (hx : s.call.state = .connecting) : ∃ p, connectDone .dialled s = { s with
    call := { s.call with state := .alerting, timer := some (.ring, s.now + s.cfg.ring * 10) }, ports := p } := by
  obtain ⟨p, writes⟩ := setCallState_writes .alerting s
  refine ⟨p, ?_⟩
  simp only [connectDone, hx, ne_eq, not_true_eq_false, if_false, if_true, writes, startCallTimer]

theorem connectDone_failed {o : OrderOutcome} (hx : s.call.state = .connecting) (ho : o ≠ .dialled) :
    connectDone o s = enterClearing .failed s := by
  simp only [connectDone, hx, ne_eq, not_true_eq_false, if_false, if_neg ho]

theorem freeLine_releases (ho : s.line.owner ≠ .nobody) : freeLine s
    = postNotice .lineState (byte1 0) { s with line := { s.line with slot := none, owner := .nobody } } :=
  if_neg ho

/-- RELEASE takes the slot whatever stood in it. -/
theorem entersClearing_of_emptySlot {o : CallOutcome} {p q : Ports}
    (h : EntersClearing o { s with line := { s.line with slot := none }, ports := p } u) :
    EntersClearing o s { u with ports := q } := by
  obtain ⟨state, fixed, kept, timer, queue, since, duration, acceptance, start, band, heldOff, tariff, stopped, steps, line,
    writes⟩ := h
  refine ⟨state, fixed, kept, timer, queue, since, duration, acceptance, start, band, heldOff, tariff, stopped, steps, line, ?_⟩
  rw [writes]

/-- A part of O44: CONNECT by its outcome, TONE by the queue behind it, RELEASE by the marks of the call. -/
theorem callOrdersEnd : CallOrdersEnd := by
  intro number outcome s h hf o hs htaken hnumber
  have current (kind : OrderKind) (fits : (outcomesOf kind).contains outcome = true) (hkind : orderKind o.body = kind) :
      orderDone (some kind) number (some outcome) (frameTaken .line s)
        = (endOrder o.body outcome (frameTaken .line s), replyOk []) :=
    orderDone_current fits hs hkind hnumber htaken
  refine ⟨fun hkind hx => ⟨fun hout => ?_, fun hout => ?_⟩, fun hkind hout => ⟨fun hq => ?_, fun hx ho d rest hq => ?_⟩,
    fun hkind hx ho hopen hout => ?_⟩
  · obtain ⟨digits, cls, hbody⟩ := orderKind_connect hkind
    have taken := current .connect (by rw [hout]; rfl) hkind
    obtain ⟨p, dialled⟩ := connectDone_dialled (s := emptySlot (frameTaken .line s)) hx
    rw [hbody, hout, endOrder, dialled] at taken
    obtain ⟨q, ends, slot⟩ := request_ends (q := .orderDone) h hf rfl taken
    exact ⟨_, hout ▸ ends, rfl, rfl, slot, rfl⟩
  · obtain ⟨digits, cls, hbody⟩ := orderKind_connect hkind
    have taken := current .connect (by rcases hout with hout | hout <;> rw [hout] <;> rfl) hkind
    rw [hbody, endOrder, connectDone_failed (by exact hx) (by rcases hout with hout | hout <;> simp [hout])] at taken
    obtain ⟨q, ends, -⟩ := request_ends (q := .orderDone) h hf rfl taken
    obtain ⟨entered, -⟩ := enterClearing_enters .failed (emptySlot (frameTaken .line s))
    exact ⟨_, ends, entersClearing_of_emptySlot entered⟩
  · obtain ⟨digit, hbody⟩ := orderKind_tone hkind
    have taken := current .tone (by rcases hout with hout | hout <;> rw [hout] <;> rfl) hkind
    have quiet : postTone (emptySlot (frameTaken .line s)) = emptySlot (frameTaken .line s) := by
      simp only [postTone, show (emptySlot (frameTaken .line s)).call.afterDial = [] from hq]
    rw [hbody, endOrder, quiet] at taken
    exact request_answered h hf rfl taken
  · obtain ⟨digit, hbody⟩ := orderKind_tone hkind
    have taken := current .tone (by rcases hout with hout | hout <;> rw [hout] <;> rfl) hkind
    rw [hbody, endOrder, postTone_posts (s := emptySlot (frameTaken .line s)) hq (answered_iff.2 hx) ho rfl] at taken
    exact request_answered h hf rfl taken
  · have hbody := orderKind_release hkind
    have taken := current .release (by rcases hout with hout | hout <;> rw [hout] <;> rfl) hkind
    rw [hbody, endOrder] at taken
    obtain ⟨p, freed⟩ := freeLine_writes (frameTaken .line s)
    have leaves : releaseDone (freeLine (frameTaken .line s)) = leaveByMarks (freeLine (frameTaken .line s)) := by
      rw [releaseDone, freed]
      exact if_pos hx
    have left := leaveByMarks_leaves (s := freeLine (frameTaken .line s)) (by rw [freed]; exact hopen)
    have posts := (freeLine_posts (frameTaken .line s)).trans left.posts
    intro w
    have hw : leaveByMarks (freeLine (frameTaken .line s)) = w := leaves.symm
    rw [leaves, hw] at taken
    rw [hw] at left posts
    clear_value w
    rw [freed] at left
    obtain ⟨c, a, k, q, writes⟩ := left.writes
    refine ⟨request_posted (q := .orderDone) h hf rfl taken (posts.trans (arbiter_posts w)), by rw [writes]; rfl,
      fun hh hfo => ?_, fun hh hfo hp => ?_, fun hh => ?_⟩
    · obtain ⟨call, account, coin⟩ := left.rests hh hfo
      refine ⟨call, ?_⟩
      rw [writes] at account coin ⊢
      rw [show a = s.account from account, show k = s.coin from coin]
      rfl
    · obtain ⟨call, checked⟩ := left.carries hh hfo hp
      refine ⟨call, checked, ?_⟩
      rw [writes]
      rfl
    · obtain ⟨call, settles⟩ := left.settles hh
      refine ⟨by rw [call], by rw [call], accountSettles_congr settles rfl rfl rfl rfl, ?_⟩
      rw [writes]
      rfl

end Sys2Proof.Proofs
end

section
/-! PROOFS. The grant of a report claim and the arbiter's choice (R115 to R118, R155 to R157). -/

namespace Sys2Proof.Proofs

open Sys2Proof Sys2Proof.Machine Sys2Proof.Laws

variable {s t u w : State}

/-! ### The batch order (R156) -/

/-- The sources of one severity, in batch order. -/
def batchOf (s : State) (sev : Severity) : List Nat :=
  let l := (openSources s).filter (fun i => (sourceSetup s.cfg i).severity == sev)
  match s.cfg.priority, s.report.rotation with
  | .rotating, some p => l.filter (p < ·) ++ l.filter (· ≤ p)
  | _, _ => l

theorem batchOrder_eq (s : State) : batchOrder s = [Severity.critical, .high, .medium, .low].flatMap (batchOf s) := rfl

theorem mem_batchOf {i : Nat} {sev : Severity} :
    i ∈ batchOf s sev ↔ i ∈ openSources s ∧ (sourceSetup s.cfg i).severity = sev := by
  unfold batchOf
  simp only
  split
  · next p _ _ =>
    simp only [List.mem_append, List.mem_filter, beq_iff_eq, decide_eq_true_eq]
    have := Nat.lt_or_ge p i
    tauto
  · simp

theorem batchOf_nodup (s : State) (sev : Severity) : (batchOf s sev).Nodup := by
  have plain : ((openSources s).filter (fun i => (sourceSetup s.cfg i).severity == sev)).Nodup :=
    (List.nodup_range.filter _).filter _
  unfold batchOf
  simp only
  split
  · refine (plain.filter _).append (plain.filter _) fun i after before => ?_
    simp only [List.mem_filter, decide_eq_true_eq] at after before
    omega
  · exact plain

theorem mem_batchOrder {i : Nat} : i ∈ batchOrder s ↔ i ∈ openSources s := by
  rw [batchOrder_eq]
  simp only [List.mem_flatMap, mem_batchOf]
  refine ⟨fun ⟨_, _, hopen, _⟩ => hopen, fun hopen => ⟨_, ?_, hopen, rfl⟩⟩
  cases (sourceSetup s.cfg i).severity <;> simp

theorem batchOrder_nodup (s : State) : (batchOrder s).Nodup := by
  rw [batchOrder_eq, List.nodup_flatMap]
  refine ⟨fun sev _ => batchOf_nodup s sev, List.Pairwise.imp (fun hne => ?_) (by decide : List.Nodup _)⟩
  intro i hi hi'
  exact hne ((mem_batchOf.1 hi).2.symm.trans (mem_batchOf.1 hi').2)

theorem raised_of_mem_batchOrder {i : Nat} (h : i ∈ batchOrder s) : (alarmEntry s.alarm i).state = .raised := by
  have hopen := mem_batchOrder.1 h
  simp only [openSources, openSource, List.mem_filter, Bool.and_eq_true, beq_iff_eq] at hopen
  exact hopen.2.1

theorem batchOrder_ne_nil (h : reportNeeded s = true) : batchOrder s ≠ [] := by
  have urgent : urgentSources s ≠ [] := by
    simp only [reportNeeded, Bool.and_eq_true, bne_iff_ne, ne_eq] at h
    exact h.2
  obtain ⟨i, hi⟩ := List.exists_mem_of_ne_nil _ urgent
  exact List.ne_nil_of_mem (mem_batchOrder.2 (List.mem_of_mem_filter hi))

/-! ### Gathering the batch (R155) -/

theorem moveSource_batch {i : Nat} (h : (alarmEntry s.alarm i).state = .raised) :
    moveSource .batch i s = some (setEntry i { alarmEntry s.alarm i with state := .reporting } s) := by
  simp [moveSource, moveEntry, h]

theorem batchItem_congr {i : Nat} (hcfg : t.cfg = s.cfg) (he : alarmEntry t.alarm i = alarmEntry s.alarm i) :
    batchItem t i = batchItem s i := by
  simp only [batchItem, hcfg, he]

/-- Every source of a list without repetition that is RAISED is REPORTING after the gathering, and an item of the batch. -/
theorem gatherBatch_gathers {is : List Nat} (hd : is.Nodup) (hr : ∀ i ∈ is, (alarmEntry s.alarm i).state = .raised) :
    (gatherBatch is s).2 = is.map (batchItem s)
      ∧ (∀ i, alarmEntry (gatherBatch is s).1.alarm i
          = if i ∈ is then { alarmEntry s.alarm i with state := .reporting } else alarmEntry s.alarm i)
      ∧ (gatherBatch is s).1.alarm = { s.alarm with entries := (gatherBatch is s).1.alarm.entries } := by
  induction is generalizing s with
  | nil => exact ⟨rfl, by simp [gatherBatch], rfl⟩
  | cons i rest ih =>
    obtain ⟨fresh, hd⟩ := List.nodup_cons.1 hd
    have raised := hr i (by simp)
    generalize hu : setEntry i { alarmEntry s.alarm i with state := .reporting } s = u
    have other {j : Nat} (hj : j ≠ i) : alarmEntry u.alarm j = alarmEntry s.alarm j := by
      rw [← hu, alarmEntry_setEntry_other _ _ hj.symm]
    have moved : alarmEntry u.alarm i = { alarmEntry s.alarm i with state := .reporting } := by
      rw [← hu, alarmEntry_setEntry_self (lt_length_of_marked (by simp [raised]))]
    have apart {j : Nat} (hj : j ∈ rest) : j ≠ i := fun e => fresh (e ▸ hj)
    obtain ⟨items, entries, table⟩ := ih (s := u) hd fun j hj => by
      rw [other (apart hj)]
      exact hr j (by simp [hj])
    have gathers : gatherBatch (i :: rest) s = ((gatherBatch rest u).1, batchItem s i :: (gatherBatch rest u).2) := by
      simp only [gatherBatch, moveSource_batch raised, hu]
    rw [gathers]
    refine ⟨?_, fun j => ?_, ?_⟩
    · rw [items, List.map_cons]
      refine congrArg _ (List.map_congr_left fun j hj => ?_)
      exact batchItem_congr (by rw [← hu]; rfl) (other (apart hj))
    · rw [entries]
      by_cases hj : j = i
      · subst hj
        simp [fresh, moved]
      · simp [hj, other hj]
    · rw [table, ← hu]
      rfl

/-! ### The grant of a report claim (R115, R155, R157) -/

theorem settleCentre_eq (s : State) : settleCentre s = { s with report := { s.report with
    centre := centreToDial s, run := if centreToDial s = s.report.centre then s.report.run else 0 } } := by
  unfold settleCentre centreToDial
  split
  · next h => simp [h.1]
  · simp

theorem reportGranted_reports (hn : reportNeeded s = true) : ∃ a, reportGranted s
      = ({ s with
            alarm := a
            report := { s.report with
              state := .inCall, batch := (batchOrder s).map (batchItem s), dialled := centreToDial s, centre := centreToDial s
              run := if centreToDial s = s.report.centre then s.report.run else 0 } },
          some (.report (centreNumber s.cfg (centreToDial s)) s.store.identity.terminal ((batchOrder s).map (batchItem s))))
      ∧ (∀ i, alarmEntry a i
          = if i ∈ batchOrder s then { alarmEntry s.alarm i with state := .reporting } else alarmEntry s.alarm i)
      ∧ a = { s.alarm with entries := a.entries } := by
  obtain ⟨items, entries, table⟩ := gatherBatch_gathers (batchOrder_nodup s) fun i => raised_of_mem_batchOrder
  have writes := gatherBatch_eq (batchOrder s) s
  refine ⟨(gatherBatch (batchOrder s) s).1.alarm, ?_, entries, table⟩
  have some : ((batchOrder s).map (batchItem s)) ≠ [] := by simpa using batchOrder_ne_nil hn
  simp only [reportGranted, hn, Bool.not_true, Bool.false_eq_true, if_false, items, if_neg some, settleCentre_eq]
  rw [writes]
  rfl

theorem reportGranted_nothing (hn : reportNeeded s = false) : reportGranted s = (answerNothing s, none) := by
  simp only [reportGranted, hn, Bool.not_false, if_true]

theorem reportNeeded_setOwner (o : Owner) (s : State) : reportNeeded (setOwner o s) = reportNeeded s := by
  simp [reportNeeded, urgentSources, openSources, openSource]

theorem postOrder_report {n d : Digits} {items : List BatchItem} (ho : s.line.owner = .report) (hs : s.line.slot = none) :
    postOrder .report (.report n d items) s = { s with line := lineWithOrder (.report n d items) 1800 s } := by
  simp [postOrder, postingOf, orderKind, ho, hs, enterSlot_eq, Config.orderLimit]

/-- A claim that a need stands behind is granted with a REPORT order. -/
theorem grantReport_granted (hs : s.line.slot = none) (hn : reportNeeded s = true) : ReportGranted s (grantReport s) := by
  obtain ⟨p, owned⟩ := setOwner_writes .report s
  obtain ⟨a, granted, entries, table⟩ := reportGranted_reports (s := setOwner .report s)
    ((reportNeeded_setOwner .report s).trans hn)
  rw [owned] at granted entries table
  unfold grantReport
  rw [owned, granted]
  simp only
  rw [postOrder_report rfl (by exact hs)]
  exact ⟨rfl, rfl, entries, table, rfl⟩

/-- A claim that nothing stands behind any more is answered NOTHING, and the line is free again. -/
theorem grantReport_nothing (ho : s.line.owner = .nobody) (hn : reportNeeded s = false) : grantReport s = { s with
    report := { s.report with state := .standby, failures := 0, run := 0, centre := .primary }
    ports := (postNotice .lineState (byte1 0) (postNotice .lineState (byte1 2) s)).ports } := by
  have owned : setOwner .report s
      = postNotice .lineState (byte1 2) { s with line := { s.line with owner := .report } } :=
    if_neg (by rw [ho]; decide)
  have granted := reportGranted_nothing ((reportNeeded_setOwner .report s).trans hn)
  unfold grantReport
  rw [granted]
  simp only
  have freed : setOwner .nobody (answerNothing (setOwner .report s)) = postNotice .lineState (byte1 0)
      { answerNothing (setOwner .report s) with line := { (setOwner .report s).line with owner := .nobody } } :=
    if_neg (by rw [show (answerNothing (setOwner .report s)).line = (setOwner .report s).line from rfl, setOwner_line]; nofun)
  rw [freed, postNotice_eq, postNotice_ports_congr (t := postNotice .lineState (byte1 2) s)]
  · rw [owned, postNotice_eq .lineState (byte1 2)]
    simp [answerNothing, endRun, ← ho]
  · rw [owned]
    exact postNotice_ports_congr _ _ rfl rfl
  · rw [owned]
    simp [answerNothing, endRun]

/-! ### The arbiter (R117, R118) -/

theorem handOn_arbiter (h : w.line.preempting = none) : handOn w = arbiter w := by
  rw [handOn, if_neg (by simp [h])]

theorem handOn_preempting (h : w.line.preempting ≠ none) :
    handOn w = grantCustomer { w with line := { w.line with preempting := none } } := by
  rw [handOn, if_pos (Option.isSome_iff_ne_none.2 h)]

theorem arbiter_customer (h : w.line.waitingCustomer = some true
      ∨ (w.line.waitingCustomer = some false ∧ w.line.waitingReport ≠ some true)) : arbiter w = grantWaitingCustomer w := by
  unfold arbiter
  rcases h with hw | ⟨hw, hr⟩
  · simp only [hw]
  · cases hreport : w.line.waitingReport with
    | none => simp only [hw]
    | some critical =>
      cases critical with
      | false => simp only [hw]
      | true => exact absurd hreport hr

theorem arbiter_report (h : (w.line.waitingCustomer = none ∧ w.line.waitingReport ≠ none)
      ∨ (w.line.waitingCustomer = some false ∧ w.line.waitingReport = some true)) : arbiter w = grantWaitingReport w := by
  unfold arbiter
  rcases h with ⟨hw, hr⟩ | ⟨hw, hr⟩
  · obtain ⟨critical, hreport⟩ := Option.ne_none_iff_exists'.1 hr
    simp only [hw, hreport]
  · simp only [hw, hr]

theorem arbiter_rests (hw : w.line.waitingCustomer = none) (hr : w.line.waitingReport = none) : arbiter w = w := by
  simp only [arbiter, hw, hr]

theorem grantWaitingReport_report (h : (grantReport { w with line := { w.line with waitingReport := none } }).line.owner ≠ .nobody
      ∨ (grantReport { w with line := { w.line with waitingReport := none } }).line.waitingCustomer = none) :
    grantWaitingReport w = grantReport { w with line := { w.line with waitingReport := none } } := by
  unfold grantWaitingReport
  simp only
  refine if_neg ?_
  rintro ⟨ho, hw⟩
  rcases h with h | h
  · exact h ho
  · simp [h] at hw

/-- A part of O44: the pre-empting claim, and each of the arbiter's choices. -/
theorem arbiterChooses : ArbiterChooses := by
  intro w ho hs
  refine ⟨handOn_arbiter, fun a ha => ⟨fun hp => ?_, fun hc => ?_⟩, fun hn hr => ?_, fun hn hw hr => ?_, arbiter_rests⟩
  · rw [handOn_preempting hp]
    exact grantCustomer_granted ha hs
  · rw [arbiter_customer hc]
    exact grantCustomer_granted ha hs
  · have granted := grantReport_granted (s := { w with line := { w.line with waitingReport := none } }) hs hn
    obtain ⟨line, -⟩ := id granted
    rw [arbiter_report hr, grantWaitingReport_report (.inl (by rw [line]; simp [lineWithOrder]))]
    exact granted
  · have nothing := grantReport_nothing (s := { w with line := { w.line with waitingReport := none } }) ho hn
    rw [arbiter_report (.inl ⟨hw, hr⟩), grantWaitingReport_report (.inr (by rw [nothing]; exact hw)), nothing]
    congr 1

end Sys2Proof.Proofs
end

section
/-! PROOFS. The end of a report call by its order or its ABORT, and of a centre session by its ABORT (R117, R122, R128,
R155 to R163). -/

namespace Sys2Proof.Proofs

open Sys2Proof Sys2Proof.Machine Sys2Proof.Laws

variable {s t u w : State}

/-! ### The sources of the batch leave REPORTING (R142, R158, R160, R161) -/

/-- A source that is REPORTING with no clear pending. -/
def Fresh (e : AlarmEntry) : Prop := e.state = .reporting ∧ e.clearPending = false

/-- A source that has left REPORTING, with nothing to resume. -/
def Moved (e : AlarmEntry) : Prop := e.state ≠ .reporting ∧ e.reRaised = false

theorem setEntry_eq (i : Nat) (e : AlarmEntry) (s : State) : setEntry i e s
    = { s with alarm := { s.alarm with entries := (setEntry i e s).alarm.entries } } := rfl

theorem setEntry_twice (i : Nat) (e e' : AlarmEntry) (s : State) : setEntry i e' (setEntry i e s) = setEntry i e' s := by
  simp [setEntry, List.set_set]

/-- One operation for each item of a batch, where the operation moves a fresh source and leaves a moved one alone: an item that
names a source again finds it moved. -/
theorem forItems_moves {f : BatchItem → State → State} {g : AlarmEntry → AlarmEntry}
    (moves : ∀ i s, Fresh (alarmEntry s.alarm i.source) →
      f i s = setEntry i.source (g (alarmEntry s.alarm i.source)) s)
    (rests : ∀ i s, Moved (alarmEntry s.alarm i.source) → f i s = s) (moved : ∀ e, Fresh e → Moved (g e))
    (l : List BatchItem) (s : State)
    (h : ∀ i ∈ l, Fresh (alarmEntry s.alarm i.source) ∨ Moved (alarmEntry s.alarm i.source)) :
    forItems f l s = { s with alarm := { s.alarm with entries := (forItems f l s).alarm.entries } }
      ∧ ∀ j, alarmEntry (forItems f l s).alarm j
          = if j ∈ l.map (·.source) ∧ (alarmEntry s.alarm j).state = .reporting then g (alarmEntry s.alarm j)
            else alarmEntry s.alarm j := by
  induction l generalizing s with
  | nil => exact ⟨rfl, by simp [forItems]⟩
  | cons i rest ih =>
    rcases h i (by simp) with fresh | still
    · generalize hu : setEntry i.source (g (alarmEntry s.alarm i.source)) s = u
      have self : alarmEntry u.alarm i.source = g (alarmEntry s.alarm i.source) := by
        rw [← hu, alarmEntry_setEntry_self (lt_length_of_marked (by simp [fresh.1]))]
      have other {j : Nat} (hj : j ≠ i.source) : alarmEntry u.alarm j = alarmEntry s.alarm j := by
        rw [← hu, alarmEntry_setEntry_other _ _ hj.symm]
      have left := moved _ fresh
      obtain ⟨writes, entries⟩ := ih u fun k hk => by
        by_cases hks : k.source = i.source
        · exact .inr (hks ▸ self ▸ left)
        · rw [other hks]
          exact h k (by simp [hk])
      have steps : forItems f (i :: rest) s = forItems f rest u := by rw [forItems, moves i s fresh, hu]
      rw [steps]
      refine ⟨?_, fun j => ?_⟩
      · rw [writes, ← hu]
        rfl
      · rw [entries]
        by_cases hj : j = i.source
        · subst hj
          simp [self, left.1, fresh.1]
        · simp [hj, other hj]
    · have steps : forItems f (i :: rest) s = forItems f rest s := by rw [forItems, rests i s still]
      obtain ⟨writes, entries⟩ := ih s fun k hk => h k (by simp [hk])
      rw [steps]
      refine ⟨writes, fun j => ?_⟩
      rw [entries]
      by_cases hj : j = i.source
      · subst hj
        simp [still.1]
      · simp [hj]

theorem leaveReporting_rests {m : AlarmMove} {i : Nat} (h : moveEntry m (alarmEntry s.alarm i) = none) :
    leaveReporting m i s = s := by
  simp [leaveReporting, moveSource, h]

theorem leaveReporting_moves {m : AlarmMove} {i : Nat} {e : AlarmEntry}
    (h : moveEntry m (alarmEntry s.alarm i) = some e) (hc : (alarmEntry s.alarm i).clearPending = false) :
    leaveReporting m i s = setEntry i e s := by
  simp [leaveReporting, moveSource, h, hc]

theorem moveEntry_returned_none {e : AlarmEntry} (h : e.state ≠ .reporting) : moveEntry .returned e = none := by
  unfold moveEntry
  split <;> simp_all

theorem moveEntry_delivered_none {e : AlarmEntry} (h : e.state ≠ .reporting) : moveEntry .delivered e = none := by
  unfold moveEntry
  split <;> simp_all

theorem moveEntry_resumed_none {e : AlarmEntry} (h : e.reRaised = false) : moveEntry .resumed e = none := by
  unfold moveEntry
  split <;> simp_all

/-- The entry of a source whose report has failed. -/
def returnedEntry (e : AlarmEntry) : AlarmEntry := { e with state := .raised, reRaised := false }

/-- The entry of a source whose report has been delivered. -/
def deliveredEntry (e : AlarmEntry) : AlarmEntry :=
  { e with state := if e.reRaised then .raised else .reported, reRaised := false }

theorem returnItem_moves (i : BatchItem) (s : State) (h : Fresh (alarmEntry s.alarm i.source)) :
    returnItem i s = setEntry i.source (returnedEntry (alarmEntry s.alarm i.source)) s := by
  obtain ⟨reporting, unasked⟩ := h
  exact leaveReporting_moves (by simp only [moveEntry, reporting, returnedEntry]) unasked

theorem returnItem_rests (i : BatchItem) (s : State) (h : Moved (alarmEntry s.alarm i.source)) : returnItem i s = s :=
  leaveReporting_rests (moveEntry_returned_none h.1)

theorem deliverItem_rests (i : BatchItem) (s : State) (h : Moved (alarmEntry s.alarm i.source)) : deliverItem i s = s := by
  unfold deliverItem
  rw [leaveReporting_rests (moveEntry_delivered_none h.1)]
  simp [moveSource, moveEntry_resumed_none h.2]

theorem deliverItem_moves (i : BatchItem) (s : State) (h : Fresh (alarmEntry s.alarm i.source)) :
    deliverItem i s = setEntry i.source (deliveredEntry (alarmEntry s.alarm i.source)) s := by
  obtain ⟨reporting, unasked⟩ := h
  have self (e : AlarmEntry) : alarmEntry (setEntry i.source e s).alarm i.source = e :=
    alarmEntry_setEntry_self (lt_length_of_marked (by simp [reporting]))
  unfold deliverItem
  rw [leaveReporting_moves (e := { alarmEntry s.alarm i.source with state := .reported })
    (by simp only [moveEntry, reporting]) unasked]
  simp only [moveSource, self]
  cases again : (alarmEntry s.alarm i.source).reRaised with
  | false => simp [moveEntry, again, deliveredEntry]
  | true => simp [moveEntry, again, deliveredEntry, setEntry_twice]

theorem returnedEntry_moved (e : AlarmEntry) (_ : Fresh e) : Moved (returnedEntry e) := ⟨nofun, rfl⟩

theorem deliveredEntry_moved (e : AlarmEntry) (_ : Fresh e) : Moved (deliveredEntry e) := by
  refine ⟨?_, rfl⟩
  unfold deliveredEntry
  cases e.reRaised <;> exact nofun

/-! ### The marks of a delivered batch (R159) -/

theorem queueUsed_mark (p : Place) (k : MarkKind) (st : Store) :
    queueUsed { st with queue := st.queue ++ [.mark p k] } = queueUsed st + 1 := by
  simp only [queueUsed, List.length_append, List.length_singleton]
  omega

theorem ringOf_queue (r : Ring) (st : Store) (q : List StoreOp) : ringOf { st with queue := q } r = ringOf st r := by
  cases r <;> rfl

theorem eraseQueued_mark (sector : Nat) (p : Place) (k : MarkKind) (st : Store) :
    eraseQueued { st with queue := st.queue ++ [.mark p k] } sector = eraseQueued st sector := by
  simp [eraseQueued, isEraseOf]

theorem eraseOwed_mark (r : Ring) (p : Place) (k : MarkKind) (st : Store) :
    eraseOwed r { st with queue := st.queue ++ [.mark p k] } = eraseOwed r st := by
  simp only [eraseOwed, openable, sectorState, ringOf_queue, eraseQueued_mark]
  rfl

theorem eraseEligible_mark {p : Place} {k : MarkKind} {st : Store} (r : Ring) (room : queueHasRoom st = true)
    (room' : queueHasRoom { st with queue := st.queue ++ [.mark p k] } = true) :
    eraseEligible r { st with queue := st.queue ++ [.mark p k] } = eraseEligible r st := by
  simp only [eraseEligible, eraseOwed_mark, ringOf_queue, room, room']
  simp only [sectorUnacked, ringOf_queue]

/-- A mark queued where there is room makes no work due. -/
theorem nextWork_mark {p : Place} {k : MarkKind} {st : Store} (h : nextWork st = none) (room : queueHasRoom st = true) :
    nextWork { st with queue := st.queue ++ [.mark p k] } = none := by
  by_cases room' : queueHasRoom { st with queue := st.queue ++ [.mark p k] } = true
  · have same : nextWork { st with queue := st.queue ++ [.mark p k] } = nextWork st := by
      simp only [nextWork, room, room', eraseEligible_mark _ room room']
      rfl
    rw [same, h]
  · simp [nextWork, room']

/-- The marks of the places of a batch. -/
def reportedMarks (l : List BatchItem) : List StoreOp := l.filterMap (fun i => i.place.map (fun p => .mark p .reported))

theorem postReportedMarks_posted (l : List BatchItem) (s : State) (hw : nextWork s.store = none)
    (room : queueUsed s.store + (reportedMarks l).length ≤ 8) :
    forItems (fun i => postReportedMark i.place) l s
      = { s with store := { s.store with queue := s.store.queue ++ reportedMarks l } } := by
  induction l generalizing s with
  | nil => simp [forItems, reportedMarks]
  | cons i rest ih =>
    cases hp : i.place with
    | none =>
      have skips : reportedMarks (i :: rest) = reportedMarks rest := by simp [reportedMarks, hp]
      rw [skips] at room ⊢
      rw [forItems, hp]
      exact ih s hw room
    | some p =>
      have posts : reportedMarks (i :: rest) = .mark p .reported :: reportedMarks rest := by simp [reportedMarks, hp]
      rw [posts, List.length_cons] at room
      have free : queueHasRoom s.store = true := by simp [queueHasRoom, Config.queuePlaces]; omega
      have posted : postReportedMark (some p) s
          = { s with store := { s.store with queue := s.store.queue ++ [.mark p .reported] } } := by
        simp only [postReportedMark, settleWaiting_none hw, enqueue, free, if_true]
      rw [forItems, hp, posted, ih _ (nextWork_mark hw free) (by simp only [queueUsed_mark]; omega), posts]
      simp

/-! ### The report unit is told how its call ended (R157 to R163) -/

/-- The sources of the batch are all REPORTING, with no clear pending. -/
def BatchFresh (s : State) : Prop := ∀ i ∈ s.report.batch, Fresh (alarmEntry s.alarm i.source)

/-- The entries of a batch whose sources have each moved from fresh by `g`. -/
theorem forItems_fresh {f : BatchItem → State → State} {g : AlarmEntry → AlarmEntry}
    (moves : ∀ i s, Fresh (alarmEntry s.alarm i.source) →
      f i s = setEntry i.source (g (alarmEntry s.alarm i.source)) s)
    (rests : ∀ i s, Moved (alarmEntry s.alarm i.source) → f i s = s) (moved : ∀ e, Fresh e → Moved (g e))
    (h : BatchFresh s) : ∃ a : Alarm, forItems f s.report.batch s = { s with alarm := a }
      ∧ a = { s.alarm with entries := a.entries }
      ∧ ∀ j, alarmEntry a j
          = if j ∈ s.report.batch.map (·.source) then g (alarmEntry s.alarm j) else alarmEntry s.alarm j := by
  obtain ⟨writes, entries⟩ := forItems_moves moves rests moved s.report.batch s fun i hi => .inl (h i hi)
  refine ⟨_, writes, rfl, fun j => ?_⟩
  have reporting (hj : j ∈ s.report.batch.map (·.source)) : (alarmEntry s.alarm j).state = .reporting := by
    obtain ⟨i, hi, rfl⟩ := List.mem_map.1 hj
    exact (h i hi).1
  rw [writes] at entries
  rw [entries]
  by_cases hj : j ∈ s.report.batch.map (·.source)
  · rw [if_pos ⟨hj, reporting hj⟩, if_pos hj]
  · rw [if_neg (fun both => hj both.1), if_neg hj]

theorem postReportEnded_writes (o : ReportOutcome) (dialled : Centre) (items backoff : Nat) (s : State) :
    postReportEnded o dialled items backoff s = { s with ports := (postNotice .reportEnded
      (byte1 (reportOutcomeByte o) ++ byte1 (centreByte dialled) ++ byte1 items ++ byte1 s.report.failures
        ++ byte2 backoff) s).ports } := postNotice_eq _ _ _

/-- REPORT_ENDED as the model queues it behind what the ports of `s` hold. -/
def reportEndedPorts (o : ReportOutcome) (failures backoff : Nat) (s : State) : Ports :=
  (postNotice .reportEnded (byte1 (reportOutcomeByte o) ++ byte1 (centreByte s.report.dialled)
    ++ byte1 s.report.batch.length ++ byte1 failures ++ byte2 backoff) s).ports

theorem reportDelivered_writes (h : BatchFresh s) (hw : nextWork s.store = none)
    (room : queueUsed s.store + (reportedMarks s.report.batch).length ≤ 8) : ∃ a : Alarm, reportDelivered s = { s with
        alarm := a
        report := { s.report with
          state := .standby, batch := [], failures := 0, run := 0, centre := .primary
          rotation := (s.report.batch.head?.map (·.source)).or s.report.rotation }
        store := { s.store with queue := s.store.queue ++ reportedMarks s.report.batch }
        ports := reportEndedPorts .delivered 0 0 s }
      ∧ a = { s.alarm with entries := a.entries }
      ∧ ∀ j, alarmEntry a j
          = if j ∈ s.report.batch.map (·.source) then deliveredEntry (alarmEntry s.alarm j) else alarmEntry s.alarm j := by
  obtain ⟨a, delivered, table, entries⟩ := forItems_fresh deliverItem_moves deliverItem_rests deliveredEntry_moved h
  refine ⟨a, ?_, table, entries⟩
  unfold reportDelivered
  simp only
  rw [delivered, postReportedMarks_posted _ _ (by exact hw) (by exact room), postReportEnded_writes]
  simp only [endRun, reportEndedPorts]
  congr 1

theorem reportAborted_writes (h : BatchFresh s) : ∃ a : Alarm, reportAborted s = { s with
        alarm := a, report := { s.report with state := .standby, batch := [] }
        ports := reportEndedPorts .aborted s.report.failures 0 s }
      ∧ a = { s.alarm with entries := a.entries }
      ∧ ∀ j, alarmEntry a j
          = if j ∈ s.report.batch.map (·.source) then returnedEntry (alarmEntry s.alarm j) else alarmEntry s.alarm j := by
  obtain ⟨a, returned, table, entries⟩ := forItems_fresh returnItem_moves returnItem_rests returnedEntry_moved h
  refine ⟨a, ?_, table, entries⟩
  unfold reportAborted
  simp only
  rw [returned, postReportEnded_writes]
  simp only [reportEndedPorts]
  congr 1

/-! #### Failure count, centre run, centre and backoff -/

theorem backoffSeconds_counted (n : Nat) : Config.backoffSeconds (min 255 (n + 1))
    = if min 255 (n + 1) = 1 then 60 else if min 255 (n + 1) = 2 then 120 else if min 255 (n + 1) = 3 then 240
      else if min 255 (n + 1) = 4 then 480 else 900 := by
  have positive : min 255 (n + 1) ≤ 1 ↔ min 255 (n + 1) = 1 := by omega
  simp only [Config.backoffSeconds, positive]

/-- The report unit in BACKOFF after a failure, as the model's parts of it write it. -/
theorem failedReport_eq (s : State) : failedReport s = { advanceCentre s.cfg s.report with
    state := .backoff, batch := [], failures := min 255 (s.report.failures + 1)
    backoffUntil := some (s.now + Config.backoffSeconds (min 255 (s.report.failures + 1)) * 10) } := by
  unfold failedReport advanceCentre
  rw [backoffSeconds_counted]
  by_cases early : s.report.run < 2
  · have early' : s.report.run + 1 < 3 := by omega
    simp [early, early', Nat.mul_comm]
  · have late : ¬ s.report.run + 1 < 3 := by omega
    cases s.report.centre <;> simp [early, late, Nat.mul_comm]

theorem advanceCentre_kept (cfg : Configuration) (r : Report) :
    (advanceCentre cfg r).batch = r.batch ∧ (advanceCentre cfg r).dialled = r.dialled := by
  unfold advanceCentre
  split
  · exact ⟨rfl, rfl⟩
  · split <;> exact ⟨rfl, rfl⟩

theorem reportFailed_writes (o : ReportOutcome) (h : BatchFresh s) : ∃ a : Alarm, reportFailed o s = { s with
        alarm := a, report := failedReport s
        ports := reportEndedPorts o (failedReport s).failures ((((failedReport s).backoffUntil.getD 0) - s.now) / 10) s }
      ∧ a = { s.alarm with entries := a.entries }
      ∧ ∀ j, alarmEntry a j
          = if j ∈ s.report.batch.map (·.source) then returnedEntry (alarmEntry s.alarm j) else alarmEntry s.alarm j := by
  obtain ⟨a, returned, table, entries⟩ := forItems_fresh returnItem_moves returnItem_rests returnedEntry_moved h
  refine ⟨a, ?_, table, entries⟩
  obtain ⟨batch, dialled⟩ := advanceCentre_kept s.cfg s.report
  have seconds : (((failedReport s).backoffUntil.getD 0) - s.now) / 10
      = Config.backoffSeconds (min 255 (s.report.failures + 1)) := by
    rw [failedReport_eq]
    simp
  unfold reportFailed
  simp only
  rw [returned, postReportEnded_writes, seconds, failedReport_eq]
  simp only [reportEndedPorts, dialled]
  congr 1

/-! #### The end as the allocator tells it -/

theorem postReportEnded_posts {o : ReportOutcome} {dialled : Centre} {items backoff : Nat} {r : Report}
    (h : t.ports = s.ports) : PostsOnly s { postReportEnded o dialled items backoff t with report := r } := by
  have told : PostsOnly s (postReportEnded o dialled items backoff t) := (postNotice_posts _ _ t).of_ports h
  exact told.trans (.of_eq rfl)

theorem reportDelivered_posts (s : State) : PostsOnly s (reportDelivered s) := by
  have moved := (forItems_weighing deliverItem_weighing s.report.batch s).posts
  have marked := (forItems_weighing (fun i => postReportedMark_weighing i.place) s.report.batch
    (forItems deliverItem s.report.batch s)).posts
  exact (moved.trans marked).trans (postReportEnded_posts rfl)

theorem reportFailed_posts (o : ReportOutcome) (s : State) : PostsOnly s (reportFailed o s) :=
  (returnItems_weighing s.report.batch s).posts.trans (postReportEnded_posts rfl)

theorem reportAborted_posts (s : State) : PostsOnly s (reportAborted s) :=
  (returnItems_weighing s.report.batch s).posts.trans (postReportEnded_posts rfl)

theorem reportEnded_posts (o : ReportOutcome) (s : State) : PostsOnly s (reportEnded o s) := by
  refine (settleWaiting_weighing s).posts.trans ?_
  cases o with
  | delivered => exact reportDelivered_posts _
  | aborted => exact reportAborted_posts _
  | noAnswer | busy | failed => exact reportFailed_posts _ _

theorem reportEnded_delivered (hw : nextWork s.store = none) : reportEnded .delivered s = reportDelivered s := by
  rw [reportEnded, settleWaiting_none hw]

theorem reportEnded_aborted (hw : nextWork s.store = none) : reportEnded .aborted s = reportAborted s := by
  rw [reportEnded, settleWaiting_none hw]

theorem reportEnded_failed {outcome : OrderOutcome} (hw : nextWork s.store = none)
    (ho : outcome = .noAnswer ∨ outcome = .busy ∨ outcome = .failed) :
    reportEnded (reportOutcomeOf outcome) s = reportFailed (reportOutcomeOf outcome) s := by
  unfold reportEnded
  simp only [settleWaiting_none hw]
  rcases ho with rfl | rfl | rfl <;> rfl

theorem orderKind_report {b : OrderBody} (h : orderKind b = .report) : ∃ n d items, b = .report n d items := by
  cases b with
  | report n d items => exact ⟨n, d, items, rfl⟩
  | _ => cases h

theorem orderKind_abort {b : OrderBody} (h : orderKind b = .abort) : ∃ atLimit, b = .abort atLimit := by
  cases b with
  | abort atLimit => exact ⟨atLimit, rfl⟩
  | _ => cases h

theorem centreEnded_posts (fs : List Byte) (s : State) : PostsOnly s
    (postNotice .centreEnded fs { s with line := { s.line with centreUntil := none } }) :=
  (postNotice_posts _ _ _).of_ports rfl

theorem abortDone_report {atLimit : Bool} (ho : s.line.owner = .report) :
    abortDone atLimit s = weigh (handOn (reportEnded .aborted (freeLine s))) := by
  simp only [abortDone, ho, weighAfter, if_true]

theorem abortDone_centre (atLimit : Bool) (ho : s.line.owner = .centre) : abortDone atLimit s
    = handOn (postNotice .centreEnded (byte1 (if atLimit = true then 2 else 1))
        { freeLine s with line := { (freeLine s).line with centreUntil := none } }) := by
  simp only [abortDone, ho, weighAfter, reduceCtorEq, if_false, endCentreSession]
  cases atLimit <;> rfl

/-- A part of O44: a REPORT by its outcome, and an ABORT by the owner whose call or session it ends. -/
theorem lineIsFreedByOrders : LineIsFreedByOrders := by
  intro number outcome s h hf o hs htaken hnumber done freed marks ended
  have current (kind : OrderKind) (fits : (outcomesOf kind).contains outcome = true) (hkind : orderKind o.body = kind) :
      orderDone (some kind) number (some outcome) (frameTaken .line s)
        = (endOrder o.body outcome (frameTaken .line s), replyOk []) :=
    orderDone_current fits hs hkind hnumber htaken
  have frees (ho : s.line.owner ≠ .nobody) : freeLine (frameTaken .line s) = freed := freeLine_releases ho
  have writes : ∃ p, freed = { s with line := { s.line with slot := none, owner := .nobody }, ports := p } :=
    ⟨_, postNotice_eq _ _ _⟩
  have posts : PostsOnly (frameTaken .line s) freed := (postNotice_posts _ _ _).of_ports rfl
  clear_value freed
  refine ⟨fun ho hw hfresh => ⟨fun hkind => ⟨fun hout room => ?_, fun hout => ?_⟩, fun hkind hout => ?_⟩,
    fun ho hout atLimit hbody => ?_⟩
  · subst hout
    obtain ⟨n, d, items, hbody⟩ := orderKind_report hkind
    have taken := current .report rfl hkind
    rw [hbody, endOrder, frees (by rw [ho]; decide)] at taken
    have through := posts.trans ((reportEnded_posts .delivered freed).trans
      ((arbiter_posts _).trans (weigh_weighing _).posts))
    obtain ⟨p, rfl⟩ := writes
    obtain ⟨a, delivered, table, entries⟩ := reportDelivered_writes
      (s := { s with line := { s.line with slot := none, owner := .nobody }, ports := p }) hfresh hw room
    rw [← reportEnded_delivered (by exact hw)] at delivered
    intro w
    have hdone : done .report = .next (answeredWith .line .ok [] (weigh (arbiter w))) :=
      request_posted (q := .orderDone) h hf rfl taken through
    have hwrites : w = _ := delivered
    clear_value w
    subst hwrites
    exact ⟨hdone, ⟨rfl, rfl⟩, rfl, rfl, entries, table⟩
  · obtain ⟨n, d, items, hbody⟩ := orderKind_report hkind
    have taken := current .report (by rcases hout with hout | hout | hout <;> rw [hout] <;> rfl) hkind
    rw [hbody, endOrder, frees (by rw [ho]; decide)] at taken
    have through := posts.trans ((reportEnded_posts (reportOutcomeOf outcome) freed).trans
      ((arbiter_posts _).trans (weigh_weighing _).posts))
    obtain ⟨p, rfl⟩ := writes
    obtain ⟨a, failed, table, entries⟩ := reportFailed_writes (reportOutcomeOf outcome)
      (s := { s with line := { s.line with slot := none, owner := .nobody }, ports := p }) hfresh
    rw [← reportEnded_failed (by exact hw) hout] at failed
    intro w
    have hdone : done .report = .next (answeredWith .line .ok [] (weigh (arbiter w))) :=
      request_posted (q := .orderDone) h hf rfl taken through
    have hwrites : w = _ := failed
    clear_value w
    subst hwrites
    exact ⟨hdone, ⟨rfl, rfl⟩, rfl, rfl, entries, table⟩
  · obtain ⟨atLimit, hbody⟩ := orderKind_abort hkind
    have taken := current .abort (by rcases hout with hout | hout <;> rw [hout] <;> rfl) hkind
    rw [hbody, endOrder, abortDone_report (by exact ho), frees (by rw [ho]; decide)] at taken
    have through := posts.trans ((reportEnded_posts .aborted freed).trans
      ((handOn_posts _).trans (weigh_weighing _).posts))
    obtain ⟨p, rfl⟩ := writes
    obtain ⟨a, aborted, table, entries⟩ := reportAborted_writes
      (s := { s with line := { s.line with slot := none, owner := .nobody }, ports := p }) hfresh
    rw [← reportEnded_aborted (by exact hw)] at aborted
    intro w
    have hdone : done .abort = .next (answeredWith .line .ok [] (weigh (handOn w))) :=
      request_posted (q := .orderDone) h hf rfl taken through
    have hwrites : w = _ := aborted
    clear_value w
    subst hwrites
    exact ⟨hdone, ⟨rfl, rfl⟩, rfl, rfl, entries, table⟩
  · have taken := current .abort (by rcases hout with hout | hout <;> rw [hout] <;> rfl) (by rw [hbody]; rfl)
    rw [hbody, endOrder, abortDone_centre atLimit (by exact ho), frees (by rw [ho]; decide)] at taken
    exact request_posted (q := .orderDone) h hf rfl taken (posts.trans ((centreEnded_posts _ freed).trans (handOn_posts _)))

end Sys2Proof.Proofs
end

section
/-! PROOFS. A source that stands, raised with no clear pending, stands through the raisings and clears of others and through
the end of a report call (R140, R142, R145, R160). -/

namespace Sys2Proof.Proofs

open Sys2Proof Sys2Proof.Machine Sys2Proof.Laws

variable {s t u w : State} {i j : Nat}

/-- The entry of a source that stands: it is not QUIET, and no clear is pending for it. -/
def Standing (e : AlarmEntry) : Prop := e.state ≠ .quiet ∧ e.clearPending = false

/-- From `s` to `t` the source `i`, where it stands, goes on standing. -/
def StandsOn (i : Nat) (s t : State) : Prop := Standing (alarmEntry s.alarm i) → Standing (alarmEntry t.alarm i)

theorem StandsOn.of_entries (h : t.alarm.entries = s.alarm.entries) : StandsOn i s t := by
  intro hs
  rwa [alarmEntry, h]

theorem StandsOn.refl (i : Nat) (s : State) : StandsOn i s s := id

theorem StandsOn.trans (h : StandsOn i s t) (h' : StandsOn i t u) : StandsOn i s u := fun hs => h' (h hs)

theorem StandsOn.ite {p : Prop} [Decidable p] (ht : StandsOn i s t) (hu : StandsOn i s u) :
    StandsOn i s (if p then t else u) := by
  split
  · exact ht
  · exact hu

/-! ### Entries and moves -/

theorem setEntry_standsOn {e : AlarmEntry} (h : j ≠ i) : StandsOn i s (setEntry j e s) := by
  intro hs
  rwa [alarmEntry_setEntry_other e s h]

/-- An entry that stands may be put in the place of one that did. -/
theorem setEntry_standing {e : AlarmEntry} (h : Standing (alarmEntry s.alarm j) → Standing e) :
    StandsOn i s (setEntry j e s) := by
  intro hs
  by_cases hj : j = i
  · subst hj
    rw [alarmEntry_setEntry_self (lt_length_of_marked hs.1)]
    exact h hs
  · exact setEntry_standsOn hj hs

theorem moveEntry_standing {m : AlarmMove} {e f : AlarmEntry} (h : moveEntry m e = some f) (he : Standing e) : Standing f := by
  refine ⟨(moveEntry_marked h).2, ?_⟩
  have unasked := he.2
  unfold moveEntry at h
  split at h
  case h_5 =>
    split at h
    · rw [← Option.some.inj h]
      exact unasked
    · cases h
  case h_6 => cases h
  all_goals
    rw [← Option.some.inj h]
    exact unasked

theorem moveSource_standsOn {m : AlarmMove} (h : moveSource m j s = some t) : StandsOn i s t := by
  unfold moveSource at h
  obtain ⟨e, he, rfl⟩ := Option.map_eq_some_iff.1 h
  exact setEntry_standing (moveEntry_standing he)

/-! ### The weighing -/

theorem gatherBatch_standsOn (l : List Nat) (s : State) : StandsOn i s (gatherBatch l s).1 := by
  induction l generalizing s with
  | nil => exact .refl i s
  | cons j rest ih =>
    unfold gatherBatch
    split
    · exact ih s
    · next t h => exact (moveSource_standsOn h).trans (ih t)

theorem reportGranted_standsOn (s : State) : StandsOn i s (reportGranted s).1 := by
  have gathered := gatherBatch_standsOn (i := i) (batchOrder s) s
  unfold reportGranted
  split
  · exact .of_entries rfl
  simp only
  split
  · exact gathered.trans (.of_entries rfl)
  · rw [settleCentre_eq]
    exact gathered.trans (.of_entries rfl)

theorem grantReport_standsOn (s : State) : StandsOn i s (grantReport s) := by
  have granted : StandsOn i s (reportGranted (setOwner .report s)).1 :=
    StandsOn.trans (.of_entries (by simp)) (reportGranted_standsOn _)
  unfold grantReport
  split
  · next h =>
    rw [h] at granted
    exact granted.trans (.of_entries (by simp))
  · next h =>
    rw [h] at granted
    exact granted.trans (.of_entries (by simp))

theorem makeReportClaim_standsOn (s : State) : StandsOn i s (makeReportClaim s) := by
  have claimed : StandsOn i s { s with report := { s.report with state := .claimed } } := .of_entries rfl
  unfold makeReportClaim
  simp only
  split
  · exact claimed.trans (grantReport_standsOn _)
  all_goals exact .of_entries rfl

theorem weigh_standsOn (s : State) : StandsOn i s (weigh s) := by
  unfold weigh
  refine .ite (.refl i s) (.trans (t := postUnset s) (.of_entries (by simp)) ?_)
  unfold weighAct
  split
  · exact .ite (makeReportClaim_standsOn _) (.refl i _)
  · exact .ite (.of_entries rfl) (.of_entries rfl)
  · exact .refl i _
  · exact .ite (.refl i _) (.of_entries rfl)

theorem tellRaised_standsOn (j : Nat) (s : State) : StandsOn i s (tellRaised j s) := by
  unfold tellRaised
  refine .ite (.refl i s) ?_
  cases h : moveSource .resumed j s with
  | none => exact weigh_standsOn s
  | some t => exact (moveSource_standsOn h).trans (weigh_standsOn t)

/-! ### Raisings and clears of other sources -/

theorem postNotice_standsOn (k : NoticeKind) (fs : List Byte) (s : State) : StandsOn i s (postNotice k fs s) :=
  .of_entries (by simp)

theorem deriveService_standsOn (s : State) : StandsOn i s (deriveService s) := .of_entries (by simp)

theorem postRecord_standsOn {r : Ring} {rec : Record} {p : Place} (h : postRecord r rec s = some (t, p)) : StandsOn i s t :=
  .of_entries (by rw [postRecord_alarm h])

/-- What follows the record of a raising. -/
theorem raised_standsOn {quiet : Prop} [Decidable quiet] (k : NoticeKind) (fs : List Byte) (j : Nat) (s : State) :
    StandsOn i s (tellRaised j (if quiet then deriveService (postNotice k fs s) else postNotice k fs s)) :=
  .trans (.ite ((postNotice_standsOn k fs s).trans (deriveService_standsOn _)) (postNotice_standsOn k fs s))
    (tellRaised_standsOn j _)

theorem raiseWith_standsOn {lost : State → State} (hlost : ∀ s, StandsOn i s (lost s)) (h : j ≠ i) (o : Origin) (s : State) :
    StandsOn i s (raiseWith lost j o s) := by
  unfold raiseWith
  simp only
  refine .trans ?_ (raised_standsOn _ _ j _)
  split
  · next hp => exact (setEntry_standsOn h).trans ((postRecord_standsOn hp).trans (setEntry_standsOn h))
  · exact (setEntry_standsOn h).trans ((setEntry_standsOn h).trans (hlost _))

theorem raiseStore_standsOn (h : srcStore ≠ i) (s : State) : StandsOn i s (raiseStore s) :=
  raiseWith_standsOn (.refl i) h _ s

theorem raiseEntry_standing (time : Option DateTime) (e : AlarmEntry) : Standing (raiseEntry time e) := by
  refine ⟨raiseEntry_marked time e, ?_⟩
  unfold raiseEntry
  split <;> rfl

/-- A source that is raised stands. -/
theorem raiseWith_stands {lost : State → State} (hlost : ∀ s, StandsOn i s (lost s)) (hi : i < s.alarm.entries.length)
    (o : Origin) : Standing (alarmEntry (raiseWith lost i o s).alarm i) := by
  have stands := raiseEntry_standing (timeOfDay s) (alarmEntry s.alarm i)
  unfold raiseWith
  simp only
  generalize raiseEntry (timeOfDay s) (alarmEntry s.alarm i) = e at stands ⊢
  have entered : Standing (alarmEntry (setEntry i e s).alarm i) := by rwa [alarmEntry_setEntry_self hi]
  refine raised_standsOn _ _ i _ ?_
  split
  · next hp => exact setEntry_standing (fun _ => stands) (postRecord_standsOn hp entered)
  · exact hlost _ (setEntry_standing (fun _ => stands) entered)

theorem raise_stands (h : srcStore ≠ i) (hlen : s.alarm.entries.length = 16) (hi : i < 16) (o : Origin) :
    Standing (alarmEntry (raise i o s).alarm i) := by
  unfold raise raiseNow
  rw [if_neg h.symm]
  exact raiseWith_stands (raiseStore_standsOn h) (by rwa [settleWaiting, settleWork_length, hlen]) o

theorem clearSource_standsOn (hj : j ≠ i) (h : srcStore ≠ i) (o : Origin) (s : State) : StandsOn i s (clearSource j o s) := by
  unfold clearSource
  simp only
  have emptied : StandsOn i s (if j < 8 then clearSensor j (setEntry j {} s) else setEntry j {} s) :=
    .ite ((setEntry_standsOn hj).trans (.of_entries rfl)) (setEntry_standsOn hj)
  generalize (if j < 8 then clearSensor j (setEntry j {} s) else setEntry j {} s) = t at emptied ⊢
  refine .trans (.trans (.trans (emptied.trans ?_) (postNotice_standsOn _ _ _)) (deriveService_standsOn _)) (weigh_standsOn _)
  split
  · next hp => exact postRecord_standsOn hp
  · exact .ite (.refl i _) (raiseStore_standsOn h _)

theorem autoClear_standsOn (hj : j ≠ i) (h : srcStore ≠ i) (s : State) : StandsOn i s (autoClear j s) := by
  unfold autoClear
  split
  · exact .refl i s
  · exact clearSource_standsOn hj h _ s
  · exact clearSource_standsOn hj h _ s
  · exact setEntry_standsOn hj

/-! ### The store's waiting work -/

theorem askStoreClear_standsOn (h : srcStore ≠ i) (s : State) : StandsOn i s (askStoreClear s) := by
  unfold askStoreClear
  exact .ite (autoClear_standsOn h h s) (.refl i s)

theorem doWork_standsOn (h : srcStore ≠ i) (x : WaitingWork) (s : State) : StandsOn i s (doWork x s) := by
  cases x with
  | mark p => exact .of_entries rfl
  | saveErase => exact .of_entries rfl
  | ringErase ring =>
    have queued : StandsOn i s { s with store := queueOwedErase ring s.store } := .of_entries rfl
    unfold doWork queueRingErase
    exact .ite (queued.trans ((postNotice_standsOn _ _ _).trans (askStoreClear_standsOn h _))) queued
  | overflow =>
    unfold doWork postOverflow
    simp only
    split
    · exact .refl i s
    · next t _ hp =>
      exact (postRecord_standsOn hp).trans (.trans (t := { t with store := { t.store with totals := {} } })
        (.of_entries rfl) (askStoreClear_standsOn h _))

theorem settleWork_standsOn (h : srcStore ≠ i) (n : Nat) (s : State) : StandsOn i s (settleWork n s) := by
  induction n generalizing s with
  | zero => exact .refl i s
  | succ n ih =>
    unfold settleWork
    split
    · exact .refl i s
    · exact (doWork_standsOn h _ s).trans (ih _)

/-! ### The end of a report call -/

/-- A source that leaves REPORTING stands on; a pending clear is carried out for another source alone. -/
theorem leaveReporting_standsOn (h : srcStore ≠ i) (m : AlarmMove) (j : Nat) (s : State) :
    StandsOn i s (leaveReporting m j s) := by
  intro stands
  unfold leaveReporting
  split
  · exact stands
  next t hm =>
    have moved : Standing (alarmEntry t.alarm i) := moveSource_standsOn hm stands
    split
    · next pending =>
      have apart : j ≠ i := by
        rintro rfl
        rw [stands.2] at pending
        cases pending
      exact clearSource_standsOn apart h _ _ moved
    · exact moved

theorem returnItems_standsOn (h : srcStore ≠ i) (l : List BatchItem) (s : State) : StandsOn i s (forItems returnItem l s) := by
  induction l generalizing s with
  | nil => exact .refl i s
  | cons x rest ih => exact (leaveReporting_standsOn h _ x.source s).trans (ih _)

theorem reportFailed_standsOn (h : srcStore ≠ i) (o : ReportOutcome) (s : State) : StandsOn i s (reportFailed o s) := by
  refine (returnItems_standsOn h s.report.batch s).trans (.of_entries ?_)
  simp [reportFailed, postReportEnded]

theorem reportEnded_failed_standsOn (h : srcStore ≠ i) (s : State) : StandsOn i s (reportEnded .failed s) :=
  (settleWork_standsOn h _ s).trans (reportFailed_standsOn h _ _)

end Sys2Proof.Proofs
end

section
/-! PROOFS. An ownership that ends by failure: its report call or centre session, and an order past its limit (R123, R124,
R128, R157, R160). -/

namespace Sys2Proof.Proofs

open Sys2Proof Sys2Proof.Machine Sys2Proof.Laws

variable {s t u : State}

/-! ### The owner that is told (R123, R124) -/

theorem failOwnership_customer (c : CentreCause) (ho : s.line.owner = .customer) :
    failOwnership c s = handOn (callFailed (freeLine s)) := by
  simp only [failOwnership, ho, reduceCtorEq, if_false, weighAfter, tellFailed]

theorem failOwnership_report (c : CentreCause) (ho : s.line.owner = .report) :
    failOwnership c s = weigh (handOn (reportEnded .failed (freeLine s))) := by
  simp only [failOwnership, ho, reduceCtorEq, if_false, weighAfter, if_true, tellFailed]

theorem failOwnership_centre (c : CentreCause) (ho : s.line.owner = .centre) :
    failOwnership c s = handOn (endCentreSession c (freeLine s)) := by
  simp only [failOwnership, ho, reduceCtorEq, if_false, weighAfter, tellFailed]

theorem lineLost_free (ho : s.line.owner = .nobody) : lineLost s = raise srcLineFault .lineAllocator s := if_pos ho

theorem lineLost_owned (ho : s.line.owner ≠ .nobody) :
    lineLost s = failOwnership .lineLost (raise srcLineFault .lineAllocator s) := if_neg ho

theorem orderLimitEnds_current (hs : s.line.slot ≠ none) :
    orderLimitEnds s = failOwnership .failed (raise srcLineFault .lineAllocator s) :=
  if_neg (by simpa using hs)

theorem orderLimitExpiry_current (h : Running s) (hs : s.line.slot ≠ none) :
    exec .orderLimitExpiry s = .next (failOwnership .failed (raise srcLineFault .lineAllocator s)) := by
  rw [← orderLimitEnds_current hs, ← whenAwake_awake (f := orderLimitEnds) (awake_of_running h)]
  rfl

theorem orderLimitExpiry_none (h : Running s) (hs : s.line.slot = none) : exec .orderLimitExpiry s = .next s := by
  have rests : orderLimitEnds s = s := if_pos (by simp [hs])
  conv_rhs => rw [← rests, ← whenAwake_awake (f := orderLimitEnds) (awake_of_running h)]
  rfl

/-! ### A failed report call (R157, R160) -/

/-- A failure counts the same whichever of the unset notices are posted. -/
theorem failedReport_congr {x y : Bool}
    (hr : t.report = { s.report with identityUnsetPosted := x, centreUnsetPosted := y }) (hcfg : t.cfg = s.cfg)
    (hnow : t.now = s.now) :
    failedReport t = { failedReport s with identityUnsetPosted := x, centreUnsetPosted := y } := by
  simp only [failedReport, hr, hcfg, hnow]

/-- The report unit and its flags once a report call has failed, from `s` to `w`. -/
def ReportFails (s w : State) : Prop := w.report = { failedReport s with
  identityUnsetPosted := w.report.identityUnsetPosted, centreUnsetPosted := w.report.centreUnsetPosted }

theorem ReportFails.of_failedReport {w : State} (hw : Weighing s u) (hr : s.report.state = .inCall)
    (hs : SameOutsideAlarm s u) (h : w.report = failedReport u) : ReportFails s w := by
  obtain ⟨-, now, cfg, -⟩ := hs
  unfold ReportFails
  rw [h, failedReport_congr (hw.inCall hr).2 cfg now]

theorem reportFailed_report (o : ReportOutcome) (s : State) :
    (reportFailed o s).report = failedReport (forItems returnItem s.report.batch s) := by
  rw [failedReport_eq]
  simp [reportFailed, postReportEnded]

theorem reportEnded_fails (hr : s.report.state = .inCall) : ReportFails s (reportEnded .failed s) := by
  have settled := settleWaiting_weighing s
  have returned := returnItems_weighing (settleWaiting s).report.batch (settleWaiting s)
  exact .of_failedReport (settled.trans returned) hr (same_trans (settleWaiting_same s) (returnItems_same _ _))
    (reportFailed_report .failed _)

/-- The report call in `s` has failed by a fault of the line, and `w` is the state before the line is handed on. -/
structure ReportLost (s w : State) : Prop where
  line : w.line = { s.line with slot := none, owner := .nobody }
  marked : (alarmEntry w.alarm srcLineFault).state ≠ .quiet
  report : ReportFails s w
  same : SameOutsideAlarm s w

theorem freeLine_same (s : State) : SameOutsideAlarm s (freeLine s) := by simp [SameOutsideAlarm]

theorem lineFault_marks (hlen : s.alarm.entries.length = 16) :
    Standing (alarmEntry (raise srcLineFault .lineAllocator s).alarm srcLineFault) :=
  raise_stands (by decide) hlen (by decide) _

theorem reportLost_of_lineFault (hlen : s.alarm.entries.length = 16) (hr : s.report.state = .inCall) :
    ReportLost s (reportEnded .failed (freeLine (raise srcLineFault .lineAllocator s))) := by
  have weighed := raise_weighing srcLineFault .lineAllocator s
  have same := raise_same srcLineFault .lineAllocator s
  have stands := lineFault_marks hlen
  generalize raise srcLineFault .lineAllocator s = raised at weighed same stands ⊢
  obtain ⟨line, report⟩ := weighed.inCall hr
  have inCall : (freeLine raised).report.state = .inCall := by
    rw [freeLine_report, report]
    exact hr
  have ended := reportEnded_over .failed inCall
  have freed := same_trans same (freeLine_same raised)
  refine ⟨?_, ?_, ?_, same_trans freed ended.same⟩
  · rw [ended.line, freeLine_frees, line]
  · rw [← freeLine_alarm] at stands
    exact (reportEnded_failed_standsOn (by decide) _ stands).1
  · have fails := reportEnded_fails inCall
    obtain ⟨-, now, cfg, -⟩ := freed
    unfold ReportFails at fails ⊢
    rw [failedReport_congr (s := s) (by rw [freeLine_report]; exact report) cfg now] at fails
    exact fails

/-! ### A failed centre session (R128) -/

/-- The centre session in `s` has ended by a fault of the line, and `w` is the state before the line is handed on. -/
structure CentreLost (s w : State) : Prop where
  line : w.line = { s.line with slot := none, owner := .nobody, centreUntil := none, waitingReport := w.line.waitingReport }
  marked : (alarmEntry w.alarm srcLineFault).state ≠ .quiet
  same : SameOutsideAlarm s w

theorem centreLost_of_lineFault (c : CentreCause) (hlen : s.alarm.entries.length = 16) (ho : s.line.owner = .centre) :
    CentreLost s (endCentreSession c (freeLine (raise srcLineFault .lineAllocator s))) := by
  have held := (raise_weighing srcLineFault .lineAllocator s).held (.inr ho)
  have same := raise_same srcLineFault .lineAllocator s
  have stands := lineFault_marks hlen
  generalize raise srcLineFault .lineAllocator s = raised at held same stands ⊢
  obtain ⟨p, freed⟩ := freeLine_writes raised
  obtain ⟨q, ended⟩ := endCentreSession_writes c (freeLine raised)
  rw [ended, freed]
  refine ⟨?_, stands.1, same⟩
  simp only
  rw [held]

/-! ### An order past its limit (R123) -/

/-- A raising for the line's fault leaves the line with the owner that is to be told. -/
theorem raise_owner (i : Nat) (o : Origin) (h : s.report.state = .inCall ∨ s.line.owner = .customer ∨ s.line.owner = .centre) :
    (raise i o s).line.owner = s.line.owner := by
  have weighed := raise_weighing i o s
  rcases h with hr | ho
  · rw [(weighed.inCall hr).1]
  · rw [weighed.held ho]

/-- A part of O44: the limit of an order of the report unit, and of an ABORT to the centre. -/
theorem limitsEndTheOwnership : LimitsEndTheOwnership := by
  intro s h hlen hs
  refine ⟨fun ho hr => ?_, fun ho => ?_⟩
  · obtain ⟨line, marked, report, same⟩ := reportLost_of_lineFault hlen hr
    refine ⟨?_, line, marked, report, same⟩
    rw [orderLimitExpiry_current h hs, failOwnership_report _ ((raise_owner _ _ (.inl hr)).trans ho)]
  · obtain ⟨line, marked, same⟩ := centreLost_of_lineFault .failed hlen ho
    refine ⟨?_, line, marked, same⟩
    rw [orderLimitExpiry_current h hs, failOwnership_centre _ ((raise_owner _ _ (.inr (.inr ho))).trans ho)]

/-- Settles O44: orders are fetched and done, the line is freed by their ends and by their limits, and the arbiter chooses. -/
theorem ordersAreFetchedAndDone : Obligations.OrdersAreFetchedAndDone :=
  ⟨ordersAreFetched, callOrdersEnd, lineIsFreedByOrders, limitsEndTheOwnership, arbiterChooses⟩

end Sys2Proof.Proofs
end

section
/-! PROOFS. The line fails under a free line, a call, a report call and a centre session, and is restored (R77, R78, R123 to
R125). -/

namespace Sys2Proof.Proofs

open Sys2Proof Sys2Proof.Machine Sys2Proof.Laws

variable {s t : State}

/-! ### The call that has lost its line (R77, R78) -/

/-- The states in which a call owns the line (R67 to R77). -/
def HoldsLine (x : CallState) : Prop :=
  x = .connecting ∨ x = .alerting ∨ x = .connected ∨ x = .warning ∨ x = .clearing

/-- A call whose ownership has ended by a failure, ahead of its marks: its work has stopped, as in CLEARING it had. -/
def workStopped (s : State) : State := { s with
  call := failedCall s
  tariff := { s.tariff with meter :=
    if s.call.state = .clearing ∨ s.tariff.meter.state = .stopped then s.tariff.meter else {} } }

theorem workStopped_clearing (h : s.call.state = .clearing) : workStopped s = s := by
  simp only [workStopped, failedCall, h, true_or, if_true]

theorem workStopped_running (h : s.call.state ≠ .clearing) : stopCallWork (fixOutcome .failed none s) = workStopped s := by
  rw [stopCallWork_eq, fixOutcome_eq]
  simp only [workStopped, failedCall, h, false_or, if_false]
  rfl

theorem callFailed_leaves (h : HoldsLine s.call.state) : callFailed s = leaveByMarks (workStopped s) := by
  unfold callFailed
  rcases h with h | h | h | h | h
  · simp only [h, workStopped_running (s := s) (by rw [h]; decide)]
  · simp only [h, workStopped_running (s := s) (by rw [h]; decide)]
  · simp only [h, workStopped_running (s := s) (by rw [h]; decide)]
  · simp only [h, workStopped_running (s := s) (by rw [h]; decide)]
  · simp only [h, workStopped_clearing h]

theorem failedCall_hangUp (s : State) : (failedCall s).hangUp = s.call.hangUp := by
  unfold failedCall
  split <;> rfl

theorem failedCall_followOn (s : State) : (failedCall s).followOn = s.call.followOn := by
  unfold failedCall
  split <;> rfl

theorem movedByMarks_of_left (h : LeftByMarks (workStopped s) t) : MovedByMarks s t := by
  have hangUp := failedCall_hangUp s
  have followOn := failedCall_followOn s
  obtain ⟨c, a, k, p, writes⟩ := h.writes
  have tariff : t.tariff = (workStopped s).tariff := by rw [writes]
  refine ⟨fun hangs => ?_, fun stays follows => ?_, fun stays ends => ?_, ?_, fun stopped => ?_, fun running => ?_⟩
  · obtain ⟨call, settles⟩ := h.settles (hangUp.trans hangs)
    exact ⟨call, accountSettles_congr settles rfl rfl rfl rfl⟩
  · exact h.carries (hangUp.trans stays) (followOn.trans follows)
  · exact h.rests (hangUp.trans stays) (followOn.trans ends)
  · rw [tariff]
    rfl
  · rw [tariff, workStopped, if_pos stopped]
  · rw [tariff, workStopped]
    simp only
    split
    · next stopped => exact stopped.resolve_left running
    · rfl

/-- The marks' move is said of the call, the account, the coins and the tariff unit alone. -/
theorem movedByMarks_congr {s' t' : State} (h : MovedByMarks s t) (hs : SameOutsideAlarm s s') (ht : SameOutsideAlarm t t') :
    MovedByMarks s' t' := by
  obtain ⟨-, now, -, coin, account, -, call, tariff, -⟩ := hs
  obtain ⟨-, -, -, coin', account', -, call', tariff', -⟩ := ht
  unfold MovedByMarks AccountSettles CollectionsChecked failedCall connectedDuration at h ⊢
  rwa [now, coin, account, call, tariff, coin', account', call', tariff']

/-! ### The line is handed on with no customer waiting (R117, R118) -/

theorem grantWaitingReport_unclaimed (ho : s.line.owner = .nobody) (hw : s.line.waitingCustomer = none) :
    grantWaitingReport s = grantReport { s with line := { s.line with waitingReport := none } } := by
  refine grantWaitingReport_report (.inr ?_)
  rcases grantReport_ends (s := { s with line := { s.line with waitingReport := none } }) ho with ⟨hold, -⟩ | ⟨line, -⟩
  · exact hold.waiting.trans hw
  · rw [line]
    exact hw

/-- No customer's claim waits and none pre-empts: the line passes to the report claim, or to nobody. -/
structure HandedOn (s t : State) : Prop where
  same : SameOutsideAlarm s t
  owner : t.line.owner ≠ .customer
  stands : ∀ i, StandsOn i s t

theorem grantReport_handsOn (ho : s.line.owner = .nobody) : HandedOn s (grantReport s) where
  same := grantReport_same s
  owner := by
    rcases grantReport_ends ho with ⟨hold, -⟩ | ⟨line, -⟩
    · rw [hold.owner]
      decide
    · rw [line, ho]
      decide
  stands _ := grantReport_standsOn s

theorem handOn_unclaimed (ho : s.line.owner = .nobody) (hw : s.line.waitingCustomer = none)
    (hp : s.line.preempting = none) : HandedOn s (handOn s) := by
  rw [handOn_arbiter hp]
  by_cases hr : s.line.waitingReport = none
  · rw [arbiter_rests hw hr]
    exact ⟨same_refl s, by rw [ho]; decide, fun i => .refl i s⟩
  · rw [arbiter_report (.inl ⟨hw, hr⟩), grantWaitingReport_unclaimed ho hw]
    have handed := grantReport_handsOn (s := { s with line := { s.line with waitingReport := none } }) ho
    exact ⟨handed.same, handed.owner, handed.stands⟩

/-! ### A call's ownership fails (R78, R123, R124) -/

/-- The call in `s` has lost its line by a fault and is moved on by its marks in `t`. -/
def CallLost (s t : State) : Prop :=
  MovedByMarks s t ∧ t.line.owner ≠ .customer ∧ (alarmEntry t.alarm srcLineFault).state ≠ .quiet
    ∧ t.analyser = s.analyser ∧ t.cfg = s.cfg ∧ t.supply = s.supply ∧ t.store.array = s.store.array

/-- A line of a call whose claim is the only one of a customer, with an OPEN account behind it. -/
structure CallOnLine (s : State) : Prop where
  owner : s.line.owner = .customer
  waiting : s.line.waitingCustomer = none
  preempting : s.line.preempting = none
  holds : HoldsLine s.call.state
  opened : ∃ carry, s.account.phase = .opened carry

theorem callLost_of_lineFault (c : CentreCause) (h : CallOnLine s) (hlen : s.alarm.entries.length = 16) :
    CallLost s (failOwnership c (raise srcLineFault .lineAllocator s)) := by
  have held := (raise_weighing srcLineFault .lineAllocator s).held (.inl h.owner)
  have same := raise_same srcLineFault .lineAllocator s
  have stands := lineFault_marks hlen
  generalize raise srcLineFault .lineAllocator s = raised at held same stands ⊢
  rw [failOwnership_customer c (by rw [held]; exact h.owner)]
  obtain ⟨p, freed⟩ := freeLine_writes raised
  have freedSame := same_trans same (freeLine_same raised)
  generalize freeLine raised = u at freed freedSame ⊢
  obtain ⟨pending, now, cfg, coin, account, analyser, call, tariff, supply, array⟩ := freedSame
  rw [callFailed_leaves (by rw [call]; exact h.holds)]
  have left := leaveByMarks_leaves (s := workStopped u) (by
    obtain ⟨carry, opened⟩ := h.opened
    exact ⟨carry, (congrArg Account.phase account).trans opened⟩)
  have moved := movedByMarks_of_left left
  obtain ⟨c', a, k, q, writes⟩ := left.writes
  generalize leaveByMarks (workStopped u) = v at left moved writes ⊢
  have line : v.line = { raised.line with slot := none, owner := .nobody } := by rw [writes, workStopped, freed]
  have alarm : v.alarm = raised.alarm := by rw [writes, workStopped, freed]
  obtain ⟨handed, owner, keeps⟩ := handOn_unclaimed (s := v) (by rw [line]) (by rw [line, held]; exact h.waiting)
    (by rw [line, held]; exact h.preempting)
  have moved : MovedByMarks s (handOn v) := movedByMarks_congr moved
    ⟨pending.symm, now.symm, cfg.symm, coin.symm, account.symm, analyser.symm, call.symm, tariff.symm, supply.symm,
      array.symm⟩ handed
  obtain ⟨-, -, cfg', -, -, analyser', -, -, supply', array'⟩ := handed
  refine ⟨moved, owner, (keeps srcLineFault (by rwa [alarm])).1, ?_, ?_, ?_, ?_⟩
  · rw [analyser', writes]
    exact analyser
  · rw [cfg', writes]
    exact cfg
  · rw [supply', writes]
    exact supply
  · rw [array', writes]
    exact array

/-! ### The requests -/

/-- What a frame brings and what an answer leaves at the ports is not the call's. -/
theorem CallLost.of_frame {p : Port} {x : Ports} (h : CallLost (frameTaken p s) t) : CallLost s { t with ports := x } := by
  obtain ⟨moved, kept⟩ := h
  exact ⟨movedByMarks_congr moved (same_refl s) (same_refl t), kept⟩

theorem lineLost_posted (h : Running s) (hf : SlotFree .line s) (ht : lineLost (frameTaken .line s) = t)
    (posts : PostsOnly (frameTaken .line s) t) : exec (.lineLost .line) s = .next (answeredWith .line .ok [] t) := by
  subst ht
  exact request_posted (q := .lineEvent) (owner := fun s => (lineLost s, replyOk [])) h hf rfl rfl posts

theorem lineLost_ends (h : Running s) (hf : SlotFree .line s) : ∃ x, exec (.lineLost .line) s
      = .next { lineLost (frameTaken .line s) with ports := x } ∧ (portOf x .line).slot = .ready .ok [] :=
  request_ends (q := .lineEvent) (owner := fun s => (lineLost s, replyOk [])) h hf rfl rfl

theorem lineLost_call (h : Running s) (hf : SlotFree .line s) (hlen : s.alarm.entries.length = 16) (hc : CallOnLine s) :
    ∃ t, exec (.lineLost .line) s = .next t ∧ CallLost s t ∧ (portOf t.ports .line).slot = .ready .ok [] := by
  have onLine : CallOnLine (frameTaken .line s) := ⟨hc.owner, hc.waiting, hc.preempting, hc.holds, hc.opened⟩
  have lost := callLost_of_lineFault .lineLost onLine hlen
  obtain ⟨x, ends, slot⟩ := lineLost_ends h hf
  rw [lineLost_owned (by rw [onLine.owner]; decide)] at ends
  exact ⟨_, ends, lost.of_frame, slot⟩

theorem orderLimitExpiry_call (h : Running s) (hlen : s.alarm.entries.length = 16) (hc : CallOnLine s)
    (hs : s.line.slot ≠ none) : ∃ t, exec .orderLimitExpiry s = .next t ∧ CallLost s t :=
  ⟨_, orderLimitExpiry_current h hs, callLost_of_lineFault .failed hc hlen⟩

theorem failedReportCall_posts (s : State) : PostsOnly s (weigh (handOn (reportEnded .failed (freeLine s)))) :=
  (freeLine_posts s).trans ((reportEnded_posts _ _).trans ((handOn_posts _).trans (weigh_weighing _).posts))

theorem failedCentre_posts (c : CentreCause) (s : State) : PostsOnly s (handOn (endCentreSession c (freeLine s))) :=
  (freeLine_posts s).trans ((centreEnded_posts _ _).trans (handOn_posts _))

/-- The sources of a batch that are all REPORTING with no clear pending are RAISED again. -/
theorem reportEnded_returns (hw : nextWork s.store = none) (h : BatchFresh s) : BatchReturned s (reportEnded .failed s) := by
  obtain ⟨a, writes, table, entries⟩ := reportFailed_writes .failed h
  rw [show reportEnded .failed s = _ from (reportEnded_failed (outcome := .failed) hw (by simp)).trans writes]
  exact ⟨entries, table⟩

/-- The raising of LINE_FAULT that LINE_LOST begins with. -/
def faultRaised (s : State) : State := raise srcLineFault .lineAllocator (frameTaken .line s)

theorem faultRaised_owner (h : s.report.state = .inCall ∨ s.line.owner = .customer ∨ s.line.owner = .centre) :
    (faultRaised s).line.owner = s.line.owner :=
  raise_owner (s := frameTaken .line s) srcLineFault .lineAllocator h

theorem faultRaised_posts (s : State) : PostsOnly (frameTaken .line s) (faultRaised s) := (raise_weighing _ _ _).posts

theorem lineLost_fault (ho : s.line.owner ≠ .nobody) :
    lineLost (frameTaken .line s) = failOwnership .lineLost (faultRaised s) := lineLost_owned (by exact ho)

theorem lineLost_nobody (h : Running s) (hf : SlotFree .line s) (ho : s.line.owner = .nobody) :
    exec (.lineLost .line) s = .next (answeredWith .line .ok [] (faultRaised s)) :=
  lineLost_posted h hf (lineLost_free (by exact ho)) (faultRaised_posts s)

theorem lineLost_report (h : Running s) (hf : SlotFree .line s) (ho : s.line.owner = .report)
    (hr : s.report.state = .inCall) : exec (.lineLost .line) s
      = .next (answeredWith .line .ok [] (weigh (handOn (reportEnded .failed (freeLine (faultRaised s)))))) := by
  refine lineLost_posted h hf ?_ ((faultRaised_posts s).trans (failedReportCall_posts _))
  rw [lineLost_fault (by rw [ho]; decide), failOwnership_report _ ((faultRaised_owner (.inl hr)).trans ho)]

theorem lineLost_centre (h : Running s) (hf : SlotFree .line s) (ho : s.line.owner = .centre) :
    exec (.lineLost .line) s
      = .next (answeredWith .line .ok [] (handOn (endCentreSession .lineLost (freeLine (faultRaised s))))) := by
  refine lineLost_posted h hf ?_ ((faultRaised_posts s).trans (failedCentre_posts .lineLost _))
  rw [lineLost_fault (by rw [ho]; decide), failOwnership_centre _ ((faultRaised_owner (.inr (.inr ho))).trans ho)]

theorem lineLost_reportLost (hlen : s.alarm.entries.length = 16) (hr : s.report.state = .inCall) :
    ReportLost (frameTaken .line s) (reportEnded .failed (freeLine (faultRaised s))) :=
  reportLost_of_lineFault (s := frameTaken .line s) hlen hr

theorem lineLost_centreLost (hlen : s.alarm.entries.length = 16) (ho : s.line.owner = .centre) :
    CentreLost (frameTaken .line s) (endCentreSession .lineLost (freeLine (faultRaised s))) :=
  centreLost_of_lineFault .lineLost (s := frameTaken .line s) hlen ho

/-- The raising leaves the batch of a report unit that is IN_CALL. -/
theorem faultRaised_batch (hr : s.report.state = .inCall) : (faultRaised s).report.batch = s.report.batch := by
  have same := ((raise_weighing srcLineFault .lineAllocator (frameTaken .line s)).inCall hr).2
  rw [faultRaised, same]
  rfl

theorem lineLost_returns (hr : s.report.state = .inCall) (hw : nextWork (faultRaised s).store = none)
    (hfresh : ∀ i ∈ s.report.batch, Fresh (alarmEntry (faultRaised s).alarm i.source)) :
    BatchReturned (faultRaised s) (reportEnded .failed (freeLine (faultRaised s))) := by
  have batch := faultRaised_batch hr
  generalize faultRaised s = raised at hw hfresh batch ⊢
  rw [← batch] at hfresh
  obtain ⟨p, freed⟩ := freeLine_writes raised
  rw [freed]
  exact reportEnded_returns (by exact hw) hfresh

theorem lineFault_frees (ho : (faultRaised s).line.owner ≠ .nobody) : postNotice .lineState (byte1 0)
    { faultRaised s with line := { (faultRaised s).line with slot := none, owner := .nobody } } = freeLine (faultRaised s) :=
  (freeLine_releases ho).symm

/-! ### The line is back (R125) -/

theorem lineRestored_ends (h : Running s) (hf : SlotFree .line s) (hw : nextWork s.store = none) :
    ∃ x, exec (.lineRestored .line) s = .next { autoClear srcLineFault (frameTaken .line s) with ports := x }
      ∧ (portOf x .line).slot = .ready .ok [] := by
  refine request_ends (q := .lineEvent) (owner := fun s => (autoClear srcLineFault (settleWaiting s), replyOk [])) h hf rfl ?_
  rw [settleWaiting_none (s := frameTaken .line s) hw]
  rfl

theorem autoClear_quiet {i : Nat} (h : (alarmEntry s.alarm i).state = .quiet) : autoClear i s = s := by
  simp only [autoClear, h]

theorem lineRestored_quiet (h : Running s) (hf : SlotFree .line s) (hw : nextWork s.store = none)
    (hq : (alarmEntry s.alarm srcLineFault).state = .quiet) :
    exec (.lineRestored .line) s = .next (answeredWith .line .ok [] s) := by
  refine request_answered (q := .lineEvent) (owner := fun s => (autoClear srcLineFault (settleWaiting s), replyOk []))
    h hf rfl ?_
  rw [settleWaiting_none (s := frameTaken .line s) hw, autoClear_quiet (s := frameTaken .line s) hq]
  rfl

theorem lineRestored_clears (h : Running s) (hf : SlotFree .line s) (hlen : s.alarm.entries.length = 16)
    (hw : nextWork s.store = none)
    (hm : (alarmEntry s.alarm srcLineFault).state = .raised ∨ (alarmEntry s.alarm srcLineFault).state = .reported) :
    ∃ t, exec (.lineRestored .line) s = .next t ∧ alarmEntry t.alarm srcLineFault = {}
      ∧ (portOf t.ports .line).slot = .ready .ok [] ∧ t.account = s.account ∧ t.call = s.call ∧ t.coin = s.coin
      ∧ t.cfg = s.cfg := by
  obtain ⟨x, ends, slot⟩ := lineRestored_ends h hf hw
  obtain ⟨-, -, clears⟩ := autoClear_alarm srcLineFault (frameTaken .line s)
  have cleared := (clears hm (by decide) (by rw [show (frameTaken .line s).alarm = s.alarm from rfl, hlen]; decide)).1
  obtain ⟨-, -, cfg, coin, account, -, call, -⟩ := autoClear_same srcLineFault (frameTaken .line s)
  exact ⟨_, ends, cleared, slot, account, call, coin, cfg⟩

/-- Settles O46: the line's fault by the owner it meets, the order's limit of a call, and the line's return. -/
theorem lineFailureEndsTheOwnership : Obligations.LineFailureEndsTheOwnership := by
  intro s h hf hlen holds failed raised freed
  have named : raised = faultRaised s := rfl
  have same : SameOutsideAlarm s raised := raise_same _ _ (frameTaken .line s)
  have marked : (alarmEntry raised.alarm srcLineFault).state ≠ .quiet := (lineFault_marks (s := frameTaken .line s) hlen).1
  clear_value raised
  subst named
  refine ⟨fun ho => ⟨lineLost_nobody h hf ho, marked, same⟩, fun ho hw hp hx hopen => ?_, fun ho hr => ?_, fun ho => ?_,
    orderLimitExpiry_none h, lineRestored_quiet h hf, lineRestored_clears h hf hlen⟩
  · have onLine : CallOnLine s := ⟨ho, hw, hp, hx, hopen⟩
    exact ⟨lineLost_call h hf hlen onLine, orderLimitExpiry_call h hlen onLine⟩
  · have frees : freed = freeLine (faultRaised s) := lineFault_frees (by rw [faultRaised_owner (.inl hr), ho]; decide)
    clear_value freed
    subst frees
    obtain ⟨line, marked, report, same⟩ := lineLost_reportLost hlen hr
    exact ⟨lineLost_report h hf ho hr, line, marked, report, lineLost_returns hr, same⟩
  · have frees : freed = freeLine (faultRaised s) := lineFault_frees (by rw [faultRaised_owner (.inr (.inr ho)), ho]; decide)
    clear_value freed
    subst frees
    obtain ⟨line, marked, same⟩ := lineLost_centreLost hlen ho
    exact ⟨lineLost_centre h hf ho, line, marked, same⟩

end Sys2Proof.Proofs
end

section
/-! PROOFS. The step on an empty queue (O2). -/

namespace Sys2Proof.Proofs

open Sys2Proof Sys2Proof.Machine Sys2Proof.Laws

variable {s t : State} {c : Instr}

/-! ### What the idle part does (log 1, log 2) -/

theorem step_of_idle_command (hq : s.pending = []) (h : idle s = (t, some c)) : step s = exec c t := by
  simp only [step, hq, h]

theorem step_of_idle_time (hq : s.pending = []) (h : idle s = (t, none)) : step s = .next t := by
  simp only [step, hq, h]

theorem idle_inReset (h : s.supply.inReset = true) : idle s = (tick s, none) := if_pos h

theorem recoveryPending_of_running (h : Running s) : recoveryPending s = false := by
  simp [recoveryPending, h.2]

theorem idle_ready (h : Running s) (hc : readyCommand s = some c) : idle s = (s, some c) := by
  simp [idle, h.1, recoveryPending_of_running h, hc]

theorem idle_quiet (h : Running s) (hc : readyCommand s = none) : idle s = (tick s, clockDue s) := by
  simp [idle, h.1, recoveryPending_of_running h, hc]

/-- An expiry that has come due is ready ahead of every other step. -/
theorem readyCommand_of_due {rest : List Instr} (h : dueTimers s = c :: rest) : readyCommand s = some c := by
  simp [readyCommand, dueCommand, h]

/-! ### The tick and the clock (R97) -/

theorem tick_unset (h : s.tariff.clock = none) : tick s = { s with now := s.now + 1 } := by
  have same : s.tariff = { s.tariff with clock := none } := by rw [← h]
  simp [tick, h, ← same]

theorem tick_set {x : ClockTime} (h : s.tariff.clock = some x) :
    tick s = { s with now := s.now + 1, tariff := { s.tariff with clock := some ((clockTick x).getD x) } } := by
  simp [tick, h]

/-- A clock that cannot take the tick stays for CLOCK_BECOMES_UNSET. -/
theorem tick_end {x : ClockTime} (h : s.tariff.clock = some x) (hx : clockTick x = none) :
    tick s = { s with now := s.now + 1 } := by
  rw [tick_set h, hx, Option.getD_none, ← h]

theorem clockDue_unset (h : s.tariff.clock = none) : clockDue s = none := by
  simp [clockDue, h]

theorem clockDue_set {x : ClockTime} (h : s.tariff.clock = some x) :
    clockDue s = if clockTick x = none then some .clockBecomesUnset else none := by
  simp [clockDue, h]

/-- Settles O2: what is ready runs, and where nothing is the clock takes the tenth or becomes UNSET with it. -/
theorem emptyQueueStep : Obligations.EmptyQueueStep := by
  intro s hq
  refine ⟨fun reset => step_of_idle_time hq (idle_inReset reset),
    fun h c rest due => step_of_idle_command hq (idle_ready h (readyCommand_of_due due)),
    fun h c ready => step_of_idle_command hq (idle_ready h ready), fun h quiet => ?_⟩
  have idles := idle_quiet h quiet
  refine ⟨fun unset => ?_, fun x set => ⟨fun d ticks => ?_, fun ends => ?_⟩⟩
  · rw [tick_unset unset, clockDue_unset unset] at idles
    exact step_of_idle_time hq idles
  · rw [tick_set set, clockDue_set set, ticks] at idles
    exact step_of_idle_time hq idles
  · rw [tick_end set ends, clockDue_set set, if_pos ends] at idles
    exact step_of_idle_command hq idles

end Sys2Proof.Proofs
end

section
/-! PROOFS. Steps and warning points of a LOCAL call (O40). -/

namespace Sys2Proof.Proofs

open Sys2Proof Sys2Proof.Machine Sys2Proof.Laws

variable {s : State}

/-! ### A step falls due (R106, R108) -/

theorem exec_stepFallsDue_idle (h : awake s = true) (hr : periodRuns s.tariff.meter = false) :
    exec .stepFallsDue s = .next s := by
  refine congrArg Host.Outcome.next ((whenAwake_awake h).trans ?_)
  simp [hr]

theorem exec_stepFallsDue_runs (h : awake s = true) (hr : periodRuns s.tariff.meter = true) :
    exec .stepFallsDue s = .next (stepDue (s.tariff.meter.state == .freeInterval) s) := by
  refine congrArg Host.Outcome.next ((whenAwake_awake h).trans ?_)
  exact if_pos hr

/-- The context of a step that has started, no warning sent in its period (R106). -/
def stepStarted (first : Bool) (e : TariffEntry) (s : State) : Metering :=
  { s.tariff.meter with
    state := .stepping, steps := cap16 (s.tariff.meter.steps + 1), entry := some e, warnPassed := false
    warnCharge := none, warned := false, periodUntil := some (s.now + stepLength first e) }

/-- A step that starts writes its context, and by CREDIT_OK the state of a call in WARNING. -/
theorem startStep_writes (first : Bool) (e : TariffEntry) (s : State) : ∃ p, startStep first e s = { s with
    tariff := { s.tariff with meter := stepStarted first e s }
    call := { s.call with
      state := if s.tariff.meter.warned = true ∧ s.call.state = .warning then .connected else s.call.state }
    ports := p } := by
  cases hw : s.tariff.meter.warned with
  | true =>
    obtain ⟨p, ok⟩ := sendOk_writes (setMeter { s.tariff.meter with
      state := .stepping, steps := cap16 (s.tariff.meter.steps + 1), entry := some e, warnPassed := false
      warnCharge := none, periodUntil := some (s.now + stepLength first e) } s)
    refine ⟨p, (if_pos hw).trans (ok.trans ?_)⟩
    simp only [true_and]
    rfl
  | false =>
    refine ⟨s.ports, ?_⟩
    simp only [startStep, hw, Bool.false_eq_true, false_and, if_false, stepStarted, setMeter]

/-- A step that A covers is charged, and starts. -/
theorem stepDue_charges (first : Bool) (hp : s.account.phase = .opened false)
    (hm : (entryInForce s).step ≤ available s.account) :
    ∃ b d, stepDue first s = startStep first (entryInForce s) { s with account := b, coin := d }
      ∧ ChargedTo { s.account with c := s.account.c + (entryInForce s).step } s.coin b d := by
  obtain ⟨b, d, hcharge, paid⟩ := charge_covers hp hm
  refine ⟨b, d, ?_, paid⟩
  simp only [stepDue, if_neg (Nat.not_lt.2 hm), chargeAnswer_charged hp hm, hcharge]

/-- The first step of a call is the one that ends its free interval. -/
theorem stepLength_afterFree (x : MeterState) (e : TariffEntry) :
    stepLength (x == .freeInterval) e =
      if x = .freeInterval ∧ e.firstPeriod ≠ 0 then e.firstPeriod else e.period := by
  simp [stepLength]

/-- The forced clear of an answered call is an entry to CLEARING, the context FORCED no more (R75, R108, R111). -/
theorem forcedClear_enters (hx : answered s.call.state = true) : EntersClearing .forcedClear s (forcedClear s) := by
  obtain ⟨⟨state, fixed, kept, timer, queue, since, duration, acceptance, start, band, heldOff, tariff, stopped, steps, line,
    writes⟩, -, -⟩ := enterClearing_enters .forcedClear
      { s with tariff := { s.tariff with meter := { s.tariff.meter with state := .forced, periodUntil := none } } }
  have clears : forcedClear s = enterClearing .forcedClear
      { s with tariff := { s.tariff with meter := { s.tariff.meter with state := .forced, periodUntil := none } } } :=
    if_pos hx
  rw [clears]
  exact ⟨state, fixed, kept, timer, queue, since, duration, acceptance, start, band, heldOff, tariff, stopped,
    fun _ => steps (by simp), line, writes⟩

/-! ### The warning point (R107) -/

theorem exec_warningPoint_runs (h : awake s = true) (hr : periodRuns s.tariff.meter = true)
    (hp : s.tariff.meter.warnPassed = false) : exec .warningPoint s = .next (warningPoint s) := by
  refine congrArg Host.Outcome.next ((whenAwake_awake h).trans ?_)
  simp [hr, hp]

/-- CREDIT_WARNING takes a CONNECTED call to WARNING with no CALL_STATE, both states being answered ones (R72, R107). -/
theorem sendWarning_connected (amount : Nat) (hx : s.call.state = .connected) :
    sendWarning amount s = postNotice .creditWarning
      (byte3 amount ++ byte2 (available s.account) ++ optionBytes byte2 (periodLeft s))
      { s with
        call := { s.call with state := .warning }
        tariff := { s.tariff with meter := { s.tariff.meter with warned := true } } } := by
  have warned : setCallState .warning (setWarned true s) = { s with
      call := { s.call with state := .warning }
      tariff := { s.tariff with meter := { s.tariff.meter with warned := true } } } := by
    simp [setCallState, answered, hx, setWarned]
  have connected : (setWarned true s).call.state = .connected := hx
  simp only [sendWarning, if_pos connected, warned]
  rfl

/-- Settles O40: a step by its period and A, a warning point by A and the call state. -/
theorem stepsAndWarningPointsAreMetered : Obligations.StepsAndWarningPointsAreMetered := by
  refine ⟨fun s h => ⟨exec_stepFallsDue_idle h, fun hr hp hm => ?_, fun hr hm hx => ?_⟩,
    fun s h hr hpassed hw => ⟨fun hm => ?_, fun hm hx => ?_⟩⟩
  · obtain ⟨b, d, charged, paid⟩ := stepDue_charges (s.tariff.meter.state == .freeInterval) hp hm
    obtain ⟨p, writes⟩ := startStep_writes (s.tariff.meter.state == .freeInterval) (entryInForce s)
      { s with account := b, coin := d }
    have runs := exec_stepFallsDue_runs h hr
    rw [charged, writes] at runs
    refine ⟨_, runs, paid.checked _ rfl rfl, ?_, rfl, rfl⟩
    simp only [stepStarted, stepLength_afterFree]
    rfl
  · have runs := exec_stepFallsDue_runs h hr
    rw [stepDue_short _ hm] at runs
    exact ⟨_, runs, forcedClear_enters (answered_iff.2 hx)⟩
  · rw [exec_warningPoint_runs h hr hpassed]
    exact congrArg Host.Outcome.next ((if_neg (Nat.not_lt.2 hm)).trans (by simp [setMeter, hw]))
  · rw [exec_warningPoint_runs h hr hpassed]
    refine congrArg Host.Outcome.next ((if_pos hm).trans ?_)
    rw [if_neg (by simp [setMeter, hw])]
    exact sendWarning_connected _ hx

end Sys2Proof.Proofs
end

section
/-! PROOFS. The banks of tariffs: entries written (O42) and activations (O43). -/

namespace Sys2Proof.Proofs

open Sys2Proof Sys2Proof.Machine Sys2Proof.Laws

variable {s t : State}

/-! ### A request whose owner posts a notice -/

/-- A taken frame writes nothing that the answer does not write again, and that a notice offered looks at. -/
theorem offer_answered (ns : List Notice) (bit : ClassBits) (slot : Slot) (v : PortState) :
    { offer ns bit { v with slot := .empty, fetch := none, sent := .ofRequest } with
      slot := slot, fetch := none, sent := .ofRequest }
    = { offer ns bit v with slot := slot, fetch := none, sent := .ofRequest } := by
  unfold offer
  repeat' split
  all_goals rfl

/-- The notice offered ahead of the answer is the one offered had no frame been taken. -/
theorem answeredWith_postNotice_frameTaken (p : Port) (code : ResultCode) (fields : List Byte) (k : NoticeKind)
    (fs : List Byte) (s : State) :
    answeredWith p code fields (postNotice k fs (frameTaken p s)) = answeredWith p code fields (postNotice k fs s) := by
  have time : noticeTime (frameTaken p s) = noticeTime s := rfl
  unfold postNotice offerAll
  simp only [time]
  split <;> cases p <;> simp [answeredWith, frameTaken, setPort, portOf, offer_answered]

/-- A request whose owner takes `s` to `t` and posts a notice ends in `t` with the notice and the answer. -/
theorem request_noticed {q : Request} {p : Port} {owner : State → State × Reply} {code : ResultCode} {fields : List Byte}
    {k : NoticeKind} {fs : List Byte} (h : Running s) (hf : SlotFree p s) (hp : permitted q p = true)
    (ho : owner (frameTaken p s) = (postNotice k fs (frameTaken p t), some (code, fields))) :
    (Host.Outcome.next (takeRequest q p owner s) : Host.Outcome State Fault Refusal)
      = .next (answeredWith p code fields (postNotice k fs t)) := by
  have fetch : (portOf (frameTaken p t).ports p).fetch = none := by cases p <;> rfl
  have sent : (portOf (frameTaken p t).ports p).sent = .ofRequest := by cases p <;> rfl
  rw [takeRequest_frameTaken h hf hp, ho,
    answerPort_eq_answeredWith (postNotice_fetch_none fetch) ((postNotice_sent _ _ _ _).trans sent),
    answeredWith_postNotice_frameTaken]

/-! ### WRITE_TARIFF (R89, R91) -/

theorem tariffFieldsValid_iff {f : TariffFields} : tariffFieldsValid f = true ↔
    f.connection ≤ 65535 ∧ 1 ≤ f.step ∧ f.step ≤ 65535 ∧ 10 ≤ f.period ∧ f.period ≤ 36000
      ∧ (f.firstPeriod = 0 ∨ (10 ≤ f.firstPeriod ∧ f.firstPeriod ≤ 36000)) ∧ f.free ≤ 6000 ∧ f.free % 10 = 0
      ∧ f.source ≠ none ∧ 50 ≤ f.lead ∧ f.lead ≤ 600 ∧ f.lead % 10 = 0 := by
  simp [tariffFieldsValid, firstPeriodValid, and_assoc, Option.isSome_iff_ne_none]

theorem writeTariff_range {cls band : Nat} {entry : Option TariffFields}
    (h : 7 < cls ∨ 3 < band ∨ entryValid entry = false) : writeTariff cls band entry s = (s, refuseRange) :=
  if_pos (by simpa [or_assoc] using h)

theorem writeTariff_inRange {cls band : Nat} {entry : Option TariffFields} (hc : cls ≤ 7) (hb : band ≤ 3)
    (he : entryValid entry = true) :
    writeTariff cls band entry s = (cancelSchedule (setPending cls band (entry.map tariffEntryOf) s), replyOk []) :=
  if_neg (by simpa [he] using ⟨hc, hb⟩)

theorem cancelSchedule_none (h : s.tariff.schedule = .none) : cancelSchedule s = s := by
  simp [cancelSchedule, h, scheduledTime]

theorem scheduledTime_eq_some {x : Schedule} {u : DateTime} :
    scheduledTime x = some u ↔ x = .scheduled u ∨ x = .waitingClock u := by
  cases x <;> simp [scheduledTime]

theorem cancelSchedule_scheduled {x : DateTime} (h : scheduledTime s.tariff.schedule = some x) :
    cancelSchedule s =
      postNotice .activationCancelled (timeBytes x) { s with tariff := { s.tariff with schedule := .none } } := by
  simp [cancelSchedule, h]

/-- Settles O42: a write refused by its ranges, or taken, with the schedule cancelled where there is one. -/
theorem tariffEntriesAreWritten : Obligations.TariffEntriesAreWritten := by
  intro cls band f s h hf inRange written
  refine ⟨fun bad => ?_, fun bad => ?_, fun hc hb fields hfields => ?_⟩
  · refine request_answered h hf rfl (writeTariff_range (bad.imp_right (Or.imp_right fun hr => ?_)))
    exact Bool.eq_false_of_not_eq_true (hr ∘ tariffFieldsValid_iff.1)
  · exact request_answered h hf rfl (writeTariff_range (bad.imp_right .inl))
  · have valid : entryValid fields = true := by
      rcases hfields with rfl | ⟨rfl, hr⟩
      · rfl
      · exact tariffFieldsValid_iff.2 hr
    have writes := writeTariff_inRange (s := frameTaken .line s) hc hb valid
    refine ⟨fun idle => ?_, fun u waits => ?_⟩
    · rw [cancelSchedule_none (by exact idle)] at writes
      exact request_answered h hf rfl writes
    · rw [cancelSchedule_scheduled (by exact scheduledTime_eq_some.2 waits)] at writes
      exact request_noticed h hf rfl writes

/-! ### Activation (R94, R95) -/

/-- The generation that an activation gives (R94). -/
def nextGeneration (cfg : Configuration) : Nat := if 65535 ≤ cfg.generation then 0 else cfg.generation + 1

/-- From `s` to `t` the PENDING bank has been activated: configuration and schedule are written, a COMMIT is posted, and call,
account and coin unit are as they were (R94). -/
structure Activated (s t : State) : Prop where
  cfg : t.cfg = { s.cfg with
    bank := copyBank s.cfg.bank s.tariff.pendingBank, generation := nextGeneration s.cfg }
  tariff : t.tariff = { s.tariff with schedule := .none }
  commit : nextWork s.store = none → queueHasRoom s.store = true → s.store.queue.any isCommit = false →
    t.store.queue = s.store.queue ++ [.commit]
  call : t.call = s.call
  account : t.account = s.account
  coin : t.coin = s.coin

/-- An activation is said of nothing that the ports hold. -/
theorem Activated.of_ports {p q : Ports} (h : Activated { s with ports := p } t) : Activated s { t with ports := q } :=
  ⟨h.cfg, h.tariff, h.commit, h.call, h.account, h.coin⟩

theorem postCommit_same (s : State) : SameOutsideAlarm s (postCommit s).1 := by
  have waiting := settleWaiting_same s
  unfold postCommit
  simp only
  split
  · exact waiting
  split
  · next st joined => exact same_trans waiting ⟨rfl, rfl, rfl, rfl, rfl, rfl, rfl, rfl, rfl, enqueue_array joined⟩
  · exact waiting

/-- With nothing waiting ahead of it and room, a COMMIT that finds none queued is the newest operation (R181; log 14). -/
theorem postCommit_joins (hw : nextWork s.store = none) (hr : queueHasRoom s.store = true)
    (hc : s.store.queue.any isCommit = false) : (postCommit s).1.store.queue = s.store.queue ++ [.commit] := by
  simp only [postCommit, settleWaiting_none hw, hc, enqueue, hr, if_true, Bool.false_eq_true, if_false]

theorem activate_activated (cause : ActivationCause) (s : State) : Activated s (activate cause s) := by
  obtain ⟨-, -, cfg, coin, account, -, call, tariff, -, -⟩ := postCommit_same { s with
    cfg := { s.cfg with bank := copyBank s.cfg.bank s.tariff.pendingBank, generation := nextGeneration s.cfg }
    tariff := { s.tariff with schedule := .none } }
  unfold activate
  refine ⟨?_, ?_, fun hw hr hc => ?_, ?_, ?_, ?_⟩
  · exact (postNotice_cfg _ _ _).trans cfg
  · exact (postNotice_tariff _ _ _).trans tariff
  · exact (congrArg Store.queue (postNotice_store _ _ _)).trans (postCommit_joins hw hr hc)
  · exact (postNotice_call _ _ _).trans call
  · exact (postNotice_account _ _ _).trans account
  · exact (postNotice_coin _ _ _).trans coin

theorem activate_generation (cause : ActivationCause) (s : State) :
    (activate cause s).cfg.generation = nextGeneration s.cfg := by
  rw [(activate_activated cause s).cfg]

/-- Within banks of one shape every present PENDING entry stands over the ACTIVE one, and no other (R94). -/
theorem copyBank_entry {active : List (List TariffEntry)} {pending : List (List (Option TariffEntry))} {cls band : Nat}
    (ha : active.length = 8) (har : ∀ r ∈ active, r.length = 4) (hp : pending.length = 8)
    (hpr : ∀ r ∈ pending, r.length = 4) (hc : cls ≤ 7) (hb : band ≤ 3) :
    rowEntry ((copyBank active pending).getD cls []) band =
      ((pending.getD cls []).getD band none).getD (rowEntry (active.getD cls []) band) := by
  have hca : cls < active.length := by omega
  have hcp : cls < pending.length := by omega
  have hba : band < active[cls].length := by have := har _ (List.getElem_mem hca); omega
  have hbp : band < pending[cls].length := by have := hpr _ (List.getElem_mem hcp); omega
  simp [rowEntry, copyBank, copyRow, List.getD_eq_getElem?_getD, hca, hcp, hba, hbp]

/-! ### ACTIVATE_TARIFF (R93) -/

theorem activateTariff_now_empty (h : pendingEmpty s.tariff = true) : activateTariff none s = (s, refuseState) := if_pos h

theorem activateTariff_now (h : pendingEmpty s.tariff = false) :
    activateTariff none s = (activate .now s, replyOk (byte2 (nextGeneration s.cfg))) := by
  simp only [activateTariff, h, Bool.false_eq_true, if_false, activate_generation]

theorem activateTariff_range {x : DateTime} (h : timeValid x = false) :
    activateTariff (some x) s = (s, refuseRange) := by
  simp [activateTariff, h]

theorem activateTariff_at {x : DateTime} (hx : timeValid x = true) (h : pendingEmpty s.tariff = false) :
    activateTariff (some x) s = scheduleActivation x s := by
  simp [activateTariff, hx, h]

theorem scheduleActivation_reached {x : DateTime} (h : clockReached x s = true) :
    scheduleActivation x s =
      (activate .now s, replyOk (byte1 0 ++ optionBytes byte2 (some (activate .now s).cfg.generation))) := if_pos h

theorem scheduleActivation_later {x : DateTime} (h : clockReached x s = false) (hc : s.tariff.clock ≠ none) :
    scheduleActivation x s =
      ({ s with tariff := { s.tariff with schedule := .scheduled x } }, replyOk (byte1 1 ++ byte1 0)) := by
  simp [scheduleActivation, h, Option.isSome_iff_ne_none.2 hc, scheduleByte]

theorem clockReached_unset {x : DateTime} (h : s.tariff.clock = none) : clockReached x s = false := by
  simp [clockReached, h]

theorem scheduleActivation_unset {x : DateTime} (h : s.tariff.clock = none) :
    scheduleActivation x s =
      ({ s with tariff := { s.tariff with schedule := .waitingClock x } }, replyOk (byte1 2 ++ byte1 0)) := by
  simp [scheduleActivation, clockReached_unset h, h, scheduleByte]

/-- A request whose owner activates the bank ends in an activation, with its answer in the slot. -/
theorem request_activates {q : Request} {owner : State → State × Reply} {cause : ActivationCause} {fields : List Byte}
    (h : Running s) (hf : SlotFree .line s) (hp : permitted q .line = true)
    (ho : owner (frameTaken .line s) = (activate cause (frameTaken .line s), some (.ok, fields))) :
    ∃ t, (Host.Outcome.next (takeRequest q .line owner s) : Host.Outcome State Fault Refusal) = .next t
      ∧ Activated s t ∧ (portOf t.ports .line).slot = .ready .ok fields := by
  obtain ⟨x, ends, slot⟩ := request_ends h hf hp ho
  exact ⟨_, ends, (activate_activated cause (frameTaken .line s)).of_ports, slot⟩

/-! ### SCHEDULED_ACTIVATION_DUE (R95) -/

theorem exec_scheduledActivationDue {x : DateTime} (h : Running s) (hs : s.tariff.schedule = .scheduled x) :
    exec .scheduledActivationDue s = .next (activate .scheduled s) := by
  refine congrArg Host.Outcome.next ((whenAwake_awake (awake_of_running h)).trans ?_)
  simp only [hs]

theorem exec_scheduledActivationDue_none (h : Running s) (hs : s.tariff.schedule = .none) :
    exec .scheduledActivationDue s = .next s := by
  refine congrArg Host.Outcome.next ((whenAwake_awake (awake_of_running h)).trans ?_)
  simp only [hs]

/-- Settles O43: each cause of an activation ends in the same one, and each other order is answered by its check. -/
theorem activationCopiesTheBank : Obligations.ActivationCopiesTheBank := by
  intro x s h generation activated
  have copies {t : State} (ht : Activated s t) : activated t := by
    refine ⟨by rw [ht.cfg]; rfl, fun ha har hp hpr cls hc band hb => ?_, ht.tariff, ht.commit, ht.call, ht.account, ht.coin⟩
    rw [ht.cfg]
    exact copyBank_entry ha har hp hpr hc hb
  refine ⟨fun u hs => ?_, exec_scheduledActivationDue_none h, fun hf => ⟨fun empty => ?_, fun filled => ?_, fun invalid => ?_,
    fun valid filled reached => ?_, fun valid filled early clocked => ?_, fun valid filled unset => ?_⟩⟩
  · exact ⟨_, exec_scheduledActivationDue h hs, copies (activate_activated _ _)⟩
  · exact request_answered h hf rfl (activateTariff_now_empty (s := frameTaken .line s) empty)
  · obtain ⟨t, ends, ht, slot⟩ := request_activates (q := .activateTariff) h hf rfl
      (activateTariff_now (s := frameTaken .line s) filled)
    exact ⟨t, ends, copies ht, slot⟩
  · exact request_answered h hf rfl (activateTariff_range (s := frameTaken .line s) invalid)
  · obtain ⟨t, ends, ht, -⟩ := request_activates (q := .activateTariff) h hf rfl
      ((activateTariff_at (s := frameTaken .line s) valid filled).trans (scheduleActivation_reached reached))
    exact ⟨t, ends, copies ht⟩
  · exact request_answered h hf rfl
      ((activateTariff_at (s := frameTaken .line s) valid filled).trans (scheduleActivation_later early clocked))
  · exact request_answered h hf rfl
      ((activateTariff_at (s := frameTaken .line s) valid filled).trans (scheduleActivation_unset unset))

end Sys2Proof.Proofs
end

section
/-! PROOFS. The clock and the calendar: how the clock counts, and which band is in force (R97, R100, R101). -/

namespace Sys2Proof.Proofs

open Sys2Proof Sys2Proof.Machine Sys2Proof.Laws

variable {s : State} {c u : ClockTime} {d e : Date}

/-! ### Dates (R97) -/

theorem monthLength_eq (y m : Nat) : monthLength y m =
    if m = 2 then (if y % 4 = 0 then 29 else 28) else if m ∈ [4, 6, 9, 11] then 30 else 31 := by
  simp [monthLength, leapYear, or_assoc]

theorem one_le_monthLength (y m : Nat) : 1 ≤ monthLength y m := by
  rw [monthLength_eq]
  split_ifs <;> decide

theorem dateValid_iff : dateValid d = true ↔
    2000 ≤ d.year ∧ d.year ≤ 2099 ∧ 1 ≤ d.month ∧ d.month ≤ 12 ∧ 1 ≤ d.day ∧ d.day ≤ monthLength d.year d.month := by
  simp [dateValid, and_assoc]

theorem timeValid_iff {t : DateTime} :
    timeValid t = true ↔ dateValid (dateOf t) = true ∧ t.hour ≤ 23 ∧ t.minute ≤ 59 ∧ t.second ≤ 59 := by
  simp [timeValid, and_assoc]

/-- The date after this one; none after the end of 2099. -/
def nextDate (d : Date) : Option Date :=
  if d.day < monthLength d.year d.month then some ⟨d.year, d.month, d.day + 1⟩
  else if d.month < 12 then some ⟨d.year, d.month + 1, 1⟩
  else if d.year < 2099 then some ⟨d.year + 1, 1, 1⟩
  else none

theorem nextDate_cases (h : nextDate d = some e) :
    (d.day < monthLength d.year d.month ∧ e = ⟨d.year, d.month, d.day + 1⟩)
    ∨ (monthLength d.year d.month ≤ d.day ∧ d.month < 12 ∧ e = ⟨d.year, d.month + 1, 1⟩)
    ∨ (monthLength d.year d.month ≤ d.day ∧ 12 ≤ d.month ∧ d.year < 2099 ∧ e = ⟨d.year + 1, 1, 1⟩) := by
  unfold nextDate at h
  split at h
  · next within => exact .inl ⟨within, (Option.some.inj h).symm⟩
  split at h
  · next last early => exact .inr (.inl ⟨Nat.not_lt.1 last, early, (Option.some.inj h).symm⟩)
  split at h
  · next last december early =>
    exact .inr (.inr ⟨Nat.not_lt.1 last, Nat.not_lt.1 december, early, (Option.some.inj h).symm⟩)
  · cases h

theorem nextDate_valid (hd : dateValid d = true) (h : nextDate d = some e) : dateValid e = true := by
  obtain ⟨hy, hy', hm, hm', hday, -⟩ := dateValid_iff.1 hd
  obtain ⟨within, rfl⟩ | ⟨-, early, rfl⟩ | ⟨-, -, early, rfl⟩ := nextDate_cases h
  · exact dateValid_iff.2 ⟨hy, hy', hm, hm', Nat.le_add_left 1 _, within⟩
  · exact dateValid_iff.2 ⟨hy, hy', Nat.le_add_left 1 _, early, le_rfl, one_le_monthLength _ _⟩
  · exact dateValid_iff.2 ⟨Nat.le_succ_of_le hy, early, le_rfl, by simp, le_rfl, one_le_monthLength _ _⟩

theorem daysBeforeMonth_succ (y : Nat) {m : Nat} (h : 1 ≤ m) :
    daysBeforeMonth y (m + 1) = daysBeforeMonth y m + monthLength y m := by
  obtain ⟨k, rfl⟩ := Nat.exists_eq_add_of_le' h
  simp [daysBeforeMonth, List.range_succ]

/-- A year has 365 days, and one of every four 366. -/
theorem daysBeforeMonth_december (y : Nat) :
    daysBeforeMonth y 12 + monthLength y 12 = if y % 4 = 0 then 366 else 365 := by
  by_cases leap : y % 4 = 0 <;> simp [daysBeforeMonth, List.range_succ, monthLength_eq, leap]

/-- The days are numbered without a gap. -/
theorem nextDate_dayNumber (hd : dateValid d = true) (h : nextDate d = some e) : dayNumber e = dayNumber d + 1 := by
  obtain ⟨hy, -, hm, hm', hday, hlen⟩ := dateValid_iff.1 hd
  obtain ⟨-, rfl⟩ | ⟨last, -, rfl⟩ | ⟨last, december, -, rfl⟩ := nextDate_cases h
  · simp only [dayNumber]
    omega
  · simp only [dayNumber, daysBeforeMonth_succ _ hm]
    omega
  · have twelve : d.month = 12 := le_antisymm hm' december
    have year := daysBeforeMonth_december d.year
    have january : daysBeforeMonth (d.year + 1) 1 = 0 := rfl
    rw [twelve] at last hlen
    simp only [dayNumber, twelve, january]
    split at year <;> omega

theorem nextDate_weekday (hd : dateValid d = true) (h : nextDate d = some e) :
    e ≠ d ∧ weekday e = (weekday d + 1) % 7 := by
  have number := nextDate_dayNumber hd h
  refine ⟨fun same => ?_, ?_⟩
  · rw [same] at number
    omega
  · simp only [weekday, number]
    omega

/-! ### The tick (R97) -/

/-- The last tenth of a day goes over to the start of the next date. -/
theorem clockTick_midnight (ht : ¬ c.tenth < 9) (hs : ¬ c.time.second < 59) (hm : ¬ c.time.minute < 59)
    (hh : ¬ c.time.hour < 23) :
    clockTick c = (nextDate (dateOf c.time)).map fun d => ⟨⟨d.year, d.month, d.day, 0, 0, 0⟩, 0⟩ := by
  simp only [clockTick, ht, hs, hm, hh, if_false, nextDate, apply_ite (Option.map _), Option.map_some, Option.map_none]
  rfl

/-- A tick stays within the day, or goes over to the next one at midnight. -/
theorem clockTick_cases (h : clockTick c = some u) :
    (dateOf u.time = dateOf c.time
      ∧ (c.time.hour ≤ 23 → c.time.minute ≤ 59 → c.time.second ≤ 59 → c.tenth ≤ 9 →
          u.time.hour ≤ 23 ∧ u.time.minute ≤ 59 ∧ u.time.second ≤ 59 ∧ u.tenth ≤ 9))
    ∨ (nextDate (dateOf c.time) = some (dateOf u.time)
      ∧ u.time.hour = 0 ∧ u.time.minute = 0 ∧ u.time.second = 0 ∧ u.tenth = 0) := by
  have ticks := h
  simp only [clockTick] at h
  iterate 4
    split at h
    · obtain rfl := Option.some.inj h
      exact .inl ⟨rfl, by simp only; omega⟩
  next ht hs hm hh =>
    rw [clockTick_midnight ht hs hm hh] at ticks
    obtain ⟨d, next, rfl⟩ := Option.map_eq_some_iff.1 ticks
    exact .inr ⟨next, rfl, rfl, rfl, rfl⟩

theorem clockTick_valid (hc : timeValid c.time = true) (ht : c.tenth ≤ 9) (h : clockTick c = some u) :
    timeValid u.time = true ∧ u.tenth ≤ 9 := by
  obtain ⟨date, hour, minute, second⟩ := timeValid_iff.1 hc
  obtain ⟨same, within⟩ | ⟨next, hour0, minute0, second0, tenth0⟩ := clockTick_cases h
  · obtain ⟨hour', minute', second', tenth'⟩ := within hour minute second ht
    exact ⟨timeValid_iff.2 ⟨same ▸ date, hour', minute', second'⟩, tenth'⟩
  · exact ⟨timeValid_iff.2 ⟨nextDate_valid date next, by omega, by omega, by omega⟩, by omega⟩

theorem clockTick_weekday (hc : timeValid c.time = true) (h : clockTick c = some u) :
    weekday (dateOf u.time) = if dateOf u.time = dateOf c.time then weekday (dateOf c.time)
      else (weekday (dateOf c.time) + 1) % 7 := by
  obtain ⟨same, -⟩ | ⟨next, -⟩ := clockTick_cases h
  · rw [if_pos same, same]
  · obtain ⟨other, weekday⟩ := nextDate_weekday (timeValid_iff.1 hc).1 next
    rw [if_neg other, weekday]

/-- Each field of the clock carries at its end, the days at the length of the month. -/
theorem clockCounts : ClockCounts := by
  refine ⟨fun t tenth => ⟨fun h => if_pos h, ?_⟩,
    fun c u hc ht h => ⟨(clockTick_valid hc ht h).1, (clockTick_valid hc ht h).2, clockTick_weekday hc h⟩, by decide⟩
  rintro rfl
  refine ⟨fun hs => ?_, fun hs hm => ?_, fun hs hm hh => ?_, fun hs hm hh => ?_⟩
  · simp [clockTick, hs]
  · simp [clockTick, hs, hm]
  · simp [clockTick, hs, hm, hh]
  · rw [← monthLength_eq, clockTick_midnight (by simp) (by simp [hs]) (by simp [hm]) (by simp [hh])]
    refine ⟨fun within => ?_, fun last early => ?_, fun last december early => ?_, fun last december ends => ?_⟩
    · simp [nextDate, dateOf, within]
    · simp [nextDate, dateOf, last, early]
    · simp [nextDate, dateOf, last, december, early]
    · simp [nextDate, dateOf, last, december, ends]

/-! ### The band in force (R100, R101) -/

/-- In a schedule that begins the day the band is that of the latest point already reached. -/
theorem bandAt_latest {points : List SwitchPoint} {minute : Nat} (rise : points.Pairwise (fun p q => p.minute < q.minute))
    (first : (points.head?.map (·.minute)) = some 0) :
    ∃ p ∈ points, p.minute ≤ minute ∧ (∀ q ∈ points, q.minute ≤ minute → q.minute ≤ p.minute)
      ∧ bandAt points minute = p.band := by
  obtain ⟨p₀, head, start⟩ := Option.map_eq_some_iff.1 first
  have reached : p₀ ∈ points.filter (fun p => p.minute ≤ minute) :=
    List.mem_filter.2 ⟨List.mem_of_head? head, by simp [start]⟩
  have nonempty : points.filter (fun p => p.minute ≤ minute) ≠ [] := List.ne_nil_of_mem reached
  have latest := List.getLast_mem nonempty
  obtain ⟨mem, le⟩ := List.mem_filter.1 latest
  refine ⟨_, mem, by simpa using le, fun q hq hle => ?_, ?_⟩
  · have hq' : q ∈ points.filter (fun p => p.minute ≤ minute) := List.mem_filter.2 ⟨hq, by simpa using hle⟩
    have ordered : (points.filter (fun p => p.minute ≤ minute)).Pairwise (fun p q => p.minute ≤ q.minute) :=
      (rise.filter _).imp Nat.le_of_lt
    exact ordered.rel_getLast hq'
  · simp only [bandAt, List.getLast?_eq_some_getLast nonempty, Option.map_some, Option.getD_some]

/-- The schedule of a date: a holiday's and a Sunday's is SUNDAY's, a Saturday's SATURDAY's (R100). -/
theorem daySchedule_dayTypeOf (cfg : Configuration) (d : Date) : daySchedule cfg (dayTypeOf cfg d) =
    if some d ∈ cfg.holidays then cfg.sunday
    else if weekday d = 6 then cfg.sunday else if weekday d = 5 then cfg.saturday else cfg.weekday := by
  by_cases holiday : some d ∈ cfg.holidays
  · simp [dayTypeOf, holiday, daySchedule]
  · by_cases saturday : weekday d = 5
    · simp [dayTypeOf, holiday, saturday, daySchedule]
    · by_cases sunday : weekday d = 6 <;> simp [dayTypeOf, holiday, saturday, sunday, daySchedule]

theorem bandInForce_unset (h : s.tariff.clock = none) : bandInForce s = 0 := by
  simp [bandInForce, h]

theorem bandInForce_set (h : s.tariff.clock = some c) :
    bandInForce s = bandAt (daySchedule s.cfg (dayTypeOf s.cfg (dateOf c.time))) (minuteOfDay c.time) := by
  simp [bandInForce, h]

theorem bandFollowsTheCalendar : BandFollowsTheCalendar := by
  refine fun s => ⟨bandInForce_unset, fun c h => ?_⟩
  rw [bandInForce_set h, daySchedule_dayTypeOf]
  exact bandAt_latest

end Sys2Proof.Proofs
end

section
/-! PROOFS. The requests that set the clock and the calendar (O41). -/

namespace Sys2Proof.Proofs

open Sys2Proof Sys2Proof.Machine Sys2Proof.Laws

variable {s : State} {x : DateTime}

/-! ### SET_CLOCK (R95, R98) -/

/-- The state with the clock at a time, tenths 0. -/
def withClock (x : DateTime) (s : State) : State :=
  { s with tariff := { s.tariff with clock := some { time := x, tenth := 0 } } }

theorem setClock_range (h : timeValid x = false) : setClock x s = (s, refuseRange) := by
  simp [setClock, h]

theorem setClock_valid (h : timeValid x = true) : setClock x s = (compareSchedule (withClock x s), replyOk []) := by
  simp [setClock, h, withClock]

theorem compareSchedule_none (h : s.tariff.schedule = .none) : compareSchedule s = s := by
  simp [compareSchedule, h, scheduledTime]

theorem compareSchedule_early {u : DateTime} (h : scheduledTime s.tariff.schedule = some u)
    (hc : clockReached u s = false) :
    compareSchedule s = { s with tariff := { s.tariff with schedule := .scheduled u } } := by
  simp [compareSchedule, h, hc]

theorem compareSchedule_reached {u : DateTime} (h : scheduledTime s.tariff.schedule = some u)
    (hc : clockReached u s = true) : compareSchedule s = activate .clockSet s := by
  simp [compareSchedule, h, hc]

theorem clockReached_withClock (u : DateTime) :
    clockReached u (withClock x s) = decide (secondsOf u ≤ secondsOf x) := rfl

/-! ### CLOCK_BECOMES_UNSET (R95, R97) -/

theorem exec_clockBecomesUnset_unset (h : Running s) (hc : s.tariff.clock = none) :
    exec .clockBecomesUnset s = .next s := by
  refine congrArg Host.Outcome.next ((whenAwake_awake (awake_of_running h)).trans ?_)
  simp [clockEnds, hc]

theorem exec_clockBecomesUnset_set (h : Running s) (hc : s.tariff.clock ≠ none) :
    exec .clockBecomesUnset s = .next (postNotice .clockUnset []
      { s with tariff := { s.tariff with clock := none, schedule := scheduleWithoutClock s.tariff.schedule } }) := by
  refine congrArg Host.Outcome.next ((whenAwake_awake (awake_of_running h)).trans ?_)
  simp [clockEnds, hc]

/-! ### WRITE_CALENDAR (R100, R102) -/

theorem minutesRise_iff {points : List (Nat × Nat)} :
    minutesRise points = true ↔ points.Pairwise (fun a b => a.1 < b.1) := by
  have : IsTrans (Nat × Nat) (fun a b => a.1 < b.1) := ⟨fun _ _ _ => Nat.lt_trans⟩
  rw [← List.isChain_iff_pairwise]
  induction points using minutesRise.induct with
  | case1 => simp [minutesRise]
  | case2 => simp [minutesRise]
  | case3 a b rest ih => simp [minutesRise, ih]

theorem pointsValid_iff {points : List (Nat × Nat)} : pointsValid points = true ↔
    1 ≤ points.length ∧ points.length ≤ 6 ∧ (points.head?.map (·.1)) = some 0
      ∧ points.Pairwise (fun a b => a.1 < b.1) ∧ ∀ p ∈ points, p.1 ≤ 1439 ∧ p.2 ≤ 3 := by
  rw [← minutesRise_iff]
  simp only [pointsValid, Bool.and_eq_true, decide_eq_true_eq, beq_iff_eq, List.all_eq_true]
  tauto

theorem writeDayType_valid {points : List (Nat × Nat)} (d : DayType) (h : pointsValid points = true) :
    writeDayType (some d) points s =
      ({ s with cfg := setSchedule d (points.map (fun p => ⟨p.1, p.2⟩)) s.cfg }, replyOk []) := if_pos h

theorem writeDayType_range {points : List (Nat × Nat)} (d : DayType) (h : ¬ pointsValid points = true) :
    writeDayType (some d) points s = (s, refuseRange) := if_neg h

/-- No other slot holds the date. -/
theorem holidayValid_iff {slot : Nat} {d : Date} {cfg : Configuration} : holidayValid slot d cfg = true ↔
    dateValid d = true ∧ ∀ k, k ≠ slot → cfg.holidays.getD k none ≠ some d := by
  have held (k : Nat) : cfg.holidays[k]?.getD none = some d ↔ cfg.holidays[k]? = some (some d) := by
    cases cfg.holidays[k]? <;> simp
  simp [holidayValid, List.mem_eraseIdx_iff_getElem?, held]

theorem writeHoliday_slot {slot : Nat} {date : Option Date} (h : 19 < slot) :
    writeHoliday slot date s = (s, refuseRange) := if_pos h

theorem writeHoliday_clear {slot : Nat} (h : slot ≤ 19) : writeHoliday slot none s =
    ({ s with cfg := { s.cfg with holidays := s.cfg.holidays.set slot none } }, replyOk []) := if_neg (Nat.not_lt.2 h)

theorem writeHoliday_valid {slot : Nat} {d : Date} (h : slot ≤ 19) (hd : holidayValid slot d s.cfg = true) :
    writeHoliday slot (some d) s =
      ({ s with cfg := { s.cfg with holidays := s.cfg.holidays.set slot (some d) } }, replyOk []) :=
  (if_neg (Nat.not_lt.2 h)).trans (if_pos hd)

theorem writeHoliday_range {slot : Nat} {d : Date} (hd : ¬ holidayValid slot d s.cfg = true) :
    writeHoliday slot (some d) s = (s, refuseRange) := by
  simp [writeHoliday, hd]

/-- Settles O41: the clock's count and the band by their own theorems, each request by its owner's checks. -/
theorem clockAndCalendarAreSet : Obligations.ClockAndCalendarAreSet := by
  refine ⟨clockCounts, bandFollowsTheCalendar, fun x slot d points s h hf => ⟨fun invalid => ?_, fun valid idle => ?_,
    fun valid u waits early => ?_, fun valid u waits reached => ?_, exec_clockBecomesUnset_unset h,
    exec_clockBecomesUnset_set h, fun _ => rfl, fun hmin hmax first rise ranges => ?_, fun bad => ?_, fun hslot => ?_,
    fun hslot hd free => ?_, fun bad => ?_⟩⟩
  · exact request_answered h hf rfl (setClock_range invalid)
  · exact request_answered h hf rfl
      ((setClock_valid (s := frameTaken .line s) valid).trans (congrArg (·, _) (compareSchedule_none idle)))
  · exact request_answered h hf rfl ((setClock_valid (s := frameTaken .line s) valid).trans (congrArg (·, _)
      (compareSchedule_early waits ((clockReached_withClock u).trans (decide_eq_false (Nat.not_le.2 early))))))
  · obtain ⟨q, ends, slot⟩ := request_ends (q := .setClock) h hf rfl
      ((setClock_valid (s := frameTaken .line s) valid).trans (congrArg (·, _)
        (compareSchedule_reached waits ((clockReached_withClock u).trans (decide_eq_true reached)))))
    obtain ⟨cfg, tariff, commit, call, account, coin⟩ :=
      activate_activated .clockSet (withClock x (frameTaken .line s))
    exact ⟨_, ends, slot, tariff, cfg, commit, call, account, coin⟩
  · have valid := pointsValid_iff.2 ⟨hmin, hmax, first, rise, ranges⟩
    exact ⟨request_answered h hf rfl (writeDayType_valid .weekday valid),
      request_answered h hf rfl (writeDayType_valid .saturday valid),
      request_answered h hf rfl (writeDayType_valid .sunday valid)⟩
  · have invalid : ¬ pointsValid points = true := fun valid => by
      obtain ⟨hmin, hmax, first, rise, ranges⟩ := pointsValid_iff.1 valid
      rcases bad with empty | many | late | falls | wide
      · omega
      · omega
      · exact late first
      · exact falls rise
      · exact wide ranges
    exact ⟨request_answered h hf rfl (writeDayType_range .weekday invalid),
      request_answered h hf rfl (writeDayType_range .saturday invalid),
      request_answered h hf rfl (writeDayType_range .sunday invalid)⟩
  · exact request_answered h hf rfl (writeHoliday_clear hslot)
  · exact request_answered h hf rfl (writeHoliday_valid (s := frameTaken .line s) hslot (holidayValid_iff.2 ⟨hd, free⟩))
  · rcases bad with outside | invalid | ⟨k, -, other, held⟩
    · exact request_answered h hf rfl (writeHoliday_slot outside)
    · refine request_answered h hf rfl (writeHoliday_range (s := frameTaken .line s) fun valid => ?_)
      exact Bool.eq_false_iff.1 invalid (holidayValid_iff.1 valid).1
    · refine request_answered h hf rfl (writeHoliday_range (s := frameTaken .line s) fun valid => ?_)
      exact (holidayValid_iff.1 valid).2 k other held

end Sys2Proof.Proofs
end

section
/-! PROOFS. Centre sessions are claimed, ended, and run out (O45). -/

namespace Sys2Proof.Proofs

open Sys2Proof Sys2Proof.Machine Sys2Proof.Laws

variable {s : State}

/-! ### CLAIM_CENTRE (R127) -/

theorem claimCentre_grants (ho : s.line.owner = .nobody) (hw : s.line.waitingCustomer = none)
    (hr : s.line.waitingReport = none) : ∃ p, claimCentre s
      = ({ s with line := { s.line with owner := .centre, centreUntil := some (s.now + 18000) }, ports := p }, replyOk []) := by
  obtain ⟨p, owned⟩ := setOwner_writes .centre
    { s with line := { s.line with centreUntil := some (s.now + Config.centreSession) } }
  exact ⟨p, by rw [claimCentre, if_pos ⟨ho, hw, hr⟩, owned]⟩

theorem claimCentre_busy (h : s.line.owner ≠ .nobody ∨ s.line.waitingCustomer ≠ none ∨ s.line.waitingReport ≠ none) :
    claimCentre s = (s, refuseBusy) :=
  if_neg fun ⟨ho, hw, hr⟩ => by simp [ho, hw, hr] at h

theorem claimCentre_taken (h : Running s) (hf : SlotFree .line s) (ho : s.line.owner = .nobody)
    (hw : s.line.waitingCustomer = none) (hr : s.line.waitingReport = none) :
    ∃ t, exec (.claimCentre .line) s = .next t
      ∧ t.line = { s.line with owner := .centre, centreUntil := some (s.now + 18000) }
      ∧ (portOf t.ports .line).slot = .ready .ok [] ∧ t = { s with line := t.line, ports := t.ports } := by
  obtain ⟨p, grants⟩ := claimCentre_grants (s := frameTaken .line s) ho hw hr
  obtain ⟨x, ends, slot⟩ := request_ends (q := .claimCentre) h hf rfl grants
  exact ⟨_, ends, rfl, slot, rfl⟩

/-! ### END_CENTRE (R128) -/

/-- With no claim to hand it on to, the line stays as the end of the ownership has left it. -/
theorem handOn_rests (hw : s.line.waitingCustomer = none) (hr : s.line.waitingReport = none)
    (hp : s.line.preempting = none) : handOn s = s :=
  (handOn_arbiter hp).trans (arbiter_rests hw hr)

/-- The end of a session on the line that it frees writes the line, and notices. -/
theorem endCentreSession_freeLine_writes (c : CentreCause) (s : State) : ∃ p, endCentreSession c (freeLine s)
    = { s with line := { s.line with owner := .nobody, slot := none, centreUntil := none }, ports := p } := by
  obtain ⟨p, freed⟩ := freeLine_writes s
  obtain ⟨q, ended⟩ := endCentreSession_writes c (freeLine s)
  exact ⟨q, by rw [ended, freed]⟩

theorem endCentre_frees (ho : s.line.owner = .centre) (hw : s.line.waitingCustomer = none)
    (hr : s.line.waitingReport = none) (hp : s.line.preempting = none) : ∃ p, endCentre s
      = ({ s with line := { s.line with owner := .nobody, slot := none, centreUntil := none }, ports := p }, replyOk []) := by
  obtain ⟨p, ended⟩ := endCentreSession_freeLine_writes .ended s
  exact ⟨p, by rw [endCentre, if_pos ho, ended, handOn_rests (by exact hw) (by exact hr) (by exact hp)]⟩

theorem endCentre_refused (ho : s.line.owner ≠ .centre) : endCentre s = (s, refuseState) := if_neg ho

theorem endCentre_taken (h : Running s) (hf : SlotFree .line s) (ho : s.line.owner = .centre)
    (hw : s.line.waitingCustomer = none) (hr : s.line.waitingReport = none) (hp : s.line.preempting = none) :
    ∃ t, exec (.endCentre .line) s = .next t
      ∧ t.line = { s.line with owner := .nobody, slot := none, centreUntil := none }
      ∧ (portOf t.ports .line).slot = .ready .ok [] ∧ t = { s with line := t.line, ports := t.ports } := by
  obtain ⟨p, frees⟩ := endCentre_frees (s := frameTaken .line s) ho hw hr hp
  obtain ⟨x, ends, slot⟩ := request_ends (q := .endCentre) h hf rfl frees
  exact ⟨_, ends, rfl, slot, rfl⟩

/-! ### The session timer (R128) -/

theorem centreSessionExpiry_ends (h : Running s) : exec .centreSessionExpiry s = .next (centreSessionEnds s) := by
  rw [← whenAwake_awake (f := centreSessionEnds) (awake_of_running h)]
  rfl

/-- At the limit the timer stops, and an ABORT is offered to the slot, which takes it as R120 says. -/
theorem centreSessionEnds_session (ho : s.line.owner = .centre) (hu : s.line.centreUntil ≠ none) : centreSessionEnds s
    = postOrder s.line.owner (.abort true) { s with line := { s.line with centreUntil := none } } := by
  rw [centreSessionEnds, if_pos (by simp [ho, Option.isSome_iff_ne_none, hu]), ho]

theorem centreSessionEnds_rests (h : s.line.owner ≠ .centre ∨ s.line.centreUntil = none) : centreSessionEnds s = s := by
  refine if_neg fun ends => ?_
  obtain ⟨timed, owned⟩ := Bool.and_eq_true_iff.1 ends
  rcases h with ho | hu
  · exact ho (beq_iff_eq.1 owned)
  · simp [hu] at timed

theorem centreSessionEnds_posts (ho : s.line.owner = .centre) (hu : s.line.centreUntil ≠ none)
    (hk : currentKind s.line ≠ some .abort) : centreSessionEnds s = { s with
      line := lineWithOrder (.abort true) 50 { s with line := { s.line with centreUntil := none } } } :=
  (centreSessionEnds_session ho hu).trans
    (postOrder_abort (s := { s with line := { s.line with centreUntil := none } }) true hk)

theorem centreSessionEnds_current (ho : s.line.owner = .centre) (hu : s.line.centreUntil ≠ none)
    (hk : currentKind s.line = some .abort) :
    centreSessionEnds s = { s with line := { s.line with centreUntil := none } } :=
  (centreSessionEnds_session ho hu).trans
    (postOrder_abort_current (s := { s with line := { s.line with centreUntil := none } }) true hk)

/-- Settles O45: the claim and the end by the owner and the claims that wait, the session's limit by the order current. -/
theorem centreSessionsRunTheirTime : Obligations.CentreSessionsRunTheirTime := by
  intro s h
  refine ⟨fun hf => ⟨claimCentre_taken h hf, fun busy => ?_, endCentre_taken h hf, fun ho => ?_⟩,
    fun ho hu => ⟨fun hk => ?_, fun hk => ?_⟩, fun idle => ?_⟩
  · exact request_answered h hf rfl (claimCentre_busy (s := frameTaken .line s) busy)
  · exact request_answered h hf rfl (endCentre_refused (s := frameTaken .line s) ho)
  · rw [centreSessionExpiry_ends h, centreSessionEnds_posts ho hu hk]
  · rw [centreSessionExpiry_ends h, centreSessionEnds_current ho hu hk]
  · rw [centreSessionExpiry_ends h, centreSessionEnds_rests idle]

end Sys2Proof.Proofs
end

section
/-! PROOFS. What a weighing, the raising of another source and the store's waiting work leave of a source's entry, of the
sensors and of the notices that stand (R130, R137, R142). -/

namespace Sys2Proof.Proofs

open Sys2Proof Sys2Proof.Machine Sys2Proof.Laws

variable {s t u : State} {i j : Nat}

/-! ### The relation -/

/-- The entry `e` has gone to `f` by moves of the report unit alone: one that is QUIET stays as it is, no other becomes so, and
count, times, place and pending clear are as they were (R142). -/
structure MovedEntry (e f : AlarmEntry) : Prop where
  fields : f = { e with state := f.state, reRaised := f.reRaised }
  rests : e.state = .quiet → f = e
  marked : e.state ≠ .quiet → f.state ≠ .quiet

theorem MovedEntry.refl (e : AlarmEntry) : MovedEntry e e := ⟨rfl, fun _ => rfl, id⟩

theorem MovedEntry.trans {e f g : AlarmEntry} (h : MovedEntry e f) (h' : MovedEntry f g) : MovedEntry e g where
  fields := by rw [h'.fields, h.fields]
  rests hq := (h'.rests (by rw [h.rests hq, hq])).trans (h.rests hq)
  marked hm := h'.marked (h.marked hm)

theorem MovedEntry.quiet {e f : AlarmEntry} (h : MovedEntry e f) : f.state = .quiet ↔ e.state = .quiet :=
  ⟨fun hf => by_contra fun he => h.marked he hf, fun he => by rw [h.rests he, he]⟩

theorem MovedEntry.count {e f : AlarmEntry} (h : MovedEntry e f) : f.count = e.count := by rw [h.fields]

theorem MovedEntry.last {e f : AlarmEntry} (h : MovedEntry e f) : f.last = e.last := by rw [h.fields]

theorem MovedEntry.clearPending {e f : AlarmEntry} (h : MovedEntry e f) : f.clearPending = e.clearPending := by rw [h.fields]

theorem MovedEntry.latest {e f : AlarmEntry} (h : MovedEntry e f) : f.latest = e.latest := by rw [h.fields]

/-- From `s` to `t` what has happened goes by the source `i`: its entry has moved at most, the sensors are as they were, and
the notices have grown at their end alone. -/
structure GoesBy (i : Nat) (s t : State) : Prop where
  entry : MovedEntry (alarmEntry s.alarm i) (alarmEntry t.alarm i)
  sensors : t.alarm.sensors = s.alarm.sensors
  notices : NoticesGrow s t

theorem GoesBy.of_alarm (ha : t.alarm = s.alarm) (hn : NoticesGrow s t) : GoesBy i s t :=
  ⟨by rw [ha]; exact .refl _, by rw [ha], hn⟩

theorem GoesBy.of_view (h : (t.alarm, t.ports) = (s.alarm, s.ports)) : GoesBy i s t :=
  .of_alarm (Prod.mk.inj h).1 (.of_eq (Prod.mk.inj h).2)

theorem GoesBy.refl (i : Nat) (s : State) : GoesBy i s s := .of_view rfl

theorem GoesBy.trans (h : GoesBy i s t) (h' : GoesBy i t u) : GoesBy i s u :=
  ⟨h.entry.trans h'.entry, h'.sensors.trans h.sensors, h.notices.trans h'.notices⟩

theorem GoesBy.ite {p : Prop} [Decidable p] (ht : GoesBy i s t) (hu : GoesBy i s u) : GoesBy i s (if p then t else u) := by
  split
  · exact ht
  · exact hu

/-! ### Notices, entries and moves -/

theorem postNotice_goesBy (k : NoticeKind) (fs : List Byte) (s : State) : GoesBy i s (postNotice k fs s) :=
  .of_alarm (by simp) (postNotice_grows k fs s)

theorem setOwner_goesBy (o : Owner) (s : State) : GoesBy i s (setOwner o s) := .of_alarm (by simp) (setOwner_grows o s)

theorem postOrder_goesBy (o : Owner) (b : OrderBody) (s : State) : GoesBy i s (postOrder o b s) :=
  .of_alarm (by simp) (.of_eq (by simp))

theorem deriveService_goesBy (s : State) : GoesBy i s (deriveService s) := by
  unfold deriveService
  refine .ite (.refl i s) (.trans (t := { s with
    freeCount := s.freeCount + 1, alarm := { s.alarm with service := derivedService s } }) ?_ (postNotice_goesBy _ _ _))
  exact ⟨.refl _, rfl, .of_eq rfl⟩

theorem setEntry_goesBy (e : AlarmEntry) (h : j ≠ i) (s : State) : GoesBy i s (setEntry j e s) :=
  ⟨by rw [alarmEntry_setEntry_other e s h]; exact .refl _, rfl, .of_eq rfl⟩

theorem moveEntry_moved {m : AlarmMove} {e f : AlarmEntry} (h : moveEntry m e = some f) : MovedEntry e f := by
  obtain ⟨before, after⟩ := moveEntry_marked h
  refine ⟨?_, fun hq => absurd hq before, fun _ => after⟩
  unfold moveEntry at h
  split at h
  case h_5 =>
    split at h
    · rw [← Option.some.inj h]
    · cases h
  case h_6 => cases h
  all_goals rw [← Option.some.inj h]

theorem moveSource_goesBy {m : AlarmMove} (h : moveSource m j s = some t) : GoesBy i s t := by
  unfold moveSource at h
  obtain ⟨e, he, rfl⟩ := Option.map_eq_some_iff.1 h
  by_cases hj : j = i
  · subst hj
    refine ⟨?_, rfl, .of_eq rfl⟩
    rw [alarmEntry_setEntry_self (lt_length_of_marked (moveEntry_marked he).1)]
    exact moveEntry_moved he
  · exact setEntry_goesBy e hj s

/-! ### The weighing (R152 to R157) -/

theorem gatherBatch_goesBy (l : List Nat) (s : State) : GoesBy i s (gatherBatch l s).1 := by
  induction l generalizing s with
  | nil => exact .refl i s
  | cons j rest ih =>
    unfold gatherBatch
    split
    · exact ih s
    · next t h => exact (moveSource_goesBy h).trans (ih t)

theorem reportGranted_goesBy (s : State) : GoesBy i s (reportGranted s).1 := by
  have gathered := gatherBatch_goesBy (i := i) (batchOrder s) s
  unfold reportGranted
  split
  · exact .of_view rfl
  simp only
  split
  · exact gathered.trans (.of_view rfl)
  · rw [settleCentre_eq]
    exact gathered.trans (.of_view rfl)

theorem grantReport_goesBy (s : State) : GoesBy i s (grantReport s) := by
  have granted : GoesBy i s (reportGranted (setOwner .report s)).1 :=
    (setOwner_goesBy .report s).trans (reportGranted_goesBy _)
  unfold grantReport
  split
  · next h =>
    rw [h] at granted
    exact granted.trans (postOrder_goesBy _ _ _)
  · next h =>
    rw [h] at granted
    exact granted.trans (setOwner_goesBy _ _)

theorem makeReportClaim_goesBy (s : State) : GoesBy i s (makeReportClaim s) := by
  have claimed : GoesBy i s { s with report := { s.report with state := .claimed } } := .of_view rfl
  unfold makeReportClaim
  simp only
  split
  · exact claimed.trans (grantReport_goesBy _)
  all_goals exact .of_view rfl

theorem postUnset_goesBy (s : State) : GoesBy i s (postUnset s) := by
  have posts (k : NoticeKind) (fs : List Byte) (r : Report) : GoesBy i s (postNotice k fs { s with report := r }) :=
    .trans (t := { s with report := r }) (.of_view rfl) (postNotice_goesBy k fs _)
  unfold postUnset
  exact .ite (.refl i s) (.ite (.ite (.refl i s) (posts _ _ _)) (.ite (.ite (.refl i s) (posts _ _ _)) (.refl i s)))

theorem weigh_goesBy (s : State) : GoesBy i s (weigh s) := by
  unfold weigh
  refine .ite (.refl i s) ((postUnset_goesBy s).trans ?_)
  unfold weighAct
  split
  · exact .ite (makeReportClaim_goesBy _) (.refl i _)
  · exact .ite (.of_view rfl) (.of_view rfl)
  · exact .refl i _
  · exact .ite (.refl i _) (.of_view rfl)

theorem tellRaised_goesBy (j : Nat) (s : State) : GoesBy i s (tellRaised j s) := by
  unfold tellRaised
  refine .ite (.refl i s) ?_
  cases h : moveSource .resumed j s with
  | none => exact weigh_goesBy s
  | some t => exact (moveSource_goesBy h).trans (weigh_goesBy t)

/-! ### What a raising does -/

theorem postRecord_goesBy {r : Ring} {rec : Record} {p : Place} (h : postRecord r rec s = some (t, p)) : GoesBy i s t := by
  unfold postRecord at h
  split at h
  · cases h
  next st _ _ =>
    have posted : GoesBy i s { s with store := st } := .of_view rfl
    simp only at h
    split at h <;> (obtain ⟨rfl, -⟩ := Prod.mk.inj (Option.some.inj h))
    · exact posted.trans (postNotice_goesBy _ _ _)
    · exact posted

/-- What ALARM_RAISED says of a source with this entry (R208). -/
def raisedFields (i : Nat) (e : AlarmEntry) (cfg : Configuration) : List Byte :=
  byte1 i ++ byte1 (severityByte (sourceSetup cfg i).severity) ++ byte1 (alarmStateByte e.state) ++ byte1 e.count
    ++ flagByte (sourceSetup cfg i).masked

/-- What a raising does behind its record (R140, R141): the notice, the service state where the source was QUIET, and the
telling. -/
def announce (i : Nat) (before e : AlarmEntry) (s : State) : State :=
  let told := postNotice .alarmRaised (raisedFields i e s.cfg) s
  tellRaised i (if before.state = .quiet then deriveService told else told)

/-- A raising whose record is posted. -/
theorem raiseWith_posted {lost : State → State} {o : Origin} {e : AlarmEntry} {p : Place}
    (he : raiseEntry (timeOfDay s) (alarmEntry s.alarm i) = e)
    (hp : postRecord .alarm (alarmRecord false i o e.count (setEntry i e s)) (setEntry i e s) = some (t, p)) :
    raiseWith lost i o s = announce i (alarmEntry s.alarm i) e (setEntry i { e with latest := some p } t) := by
  simp only [raiseWith, he, hp]
  rfl

/-- A raising whose record is lost (R173). -/
theorem raiseWith_refused {lost : State → State} {o : Origin} {e : AlarmEntry}
    (he : raiseEntry (timeOfDay s) (alarmEntry s.alarm i) = e)
    (hp : postRecord .alarm (alarmRecord false i o e.count (setEntry i e s)) (setEntry i e s) = none) :
    raiseWith lost i o s = announce i (alarmEntry s.alarm i) e (lost (setEntry i { e with latest := none } s)) := by
  simp only [raiseWith, he, hp, setEntry_twice]
  rfl

theorem announce_goesBy (j : Nat) (before e : AlarmEntry) (s : State) : GoesBy i s (announce j before e s) := by
  unfold announce
  refine .trans ?_ (tellRaised_goesBy j _)
  exact .ite ((postNotice_goesBy _ _ _).trans (deriveService_goesBy _)) (postNotice_goesBy _ _ _)

/-- The raising of another source goes by this one, where what it does for a lost record does. -/
theorem raiseWith_goesBy {lost : State → State} (hlost : ∀ s, GoesBy i s (lost s)) (h : j ≠ i) (o : Origin) (s : State) :
    GoesBy i s (raiseWith lost j o s) := by
  cases hp : postRecord .alarm (alarmRecord false j o (raiseEntry (timeOfDay s) (alarmEntry s.alarm j)).count
      (setEntry j (raiseEntry (timeOfDay s) (alarmEntry s.alarm j)) s))
      (setEntry j (raiseEntry (timeOfDay s) (alarmEntry s.alarm j)) s) with
  | none =>
    rw [raiseWith_refused rfl hp]
    exact (setEntry_goesBy _ h s).trans ((hlost _).trans (announce_goesBy _ _ _ _))
  | some x =>
    rw [raiseWith_posted rfl hp]
    exact ((setEntry_goesBy _ h s).trans (postRecord_goesBy hp)).trans
      ((setEntry_goesBy _ h _).trans (announce_goesBy _ _ _ _))

theorem raiseStore_goesBy (h : srcStore ≠ i) (s : State) : GoesBy i s (raiseStore s) := raiseWith_goesBy (.refl i) h _ s

/-! ### What a clear does (R144) -/

/-- A source QUIET again, its entry and its sensor's history at their first values (R144). -/
def quieted (i : Nat) (s : State) : State := if i < 8 then clearSensor i (setEntry i {} s) else setEntry i {} s

/-- A clear whose record is posted. -/
theorem clearSource_posted {o : Origin} {p : Place} (hp : postRecord .alarm
      (alarmRecord true i o (alarmEntry s.alarm i).count (quieted i s)) (quieted i s) = some (t, p)) :
    clearSource i o s = weigh (deriveService (postNotice .alarmCleared
      (byte1 i ++ byte1 (alarmEntry s.alarm i).count ++ byte1 (clearOriginByte o)) t)) := by
  unfold quieted at hp
  simp only [clearSource, hp]

/-- A clear whose record is lost, which raises STORE but for STORE itself (R173). -/
theorem clearSource_refused {o : Origin} (hp : postRecord .alarm
      (alarmRecord true i o (alarmEntry s.alarm i).count (quieted i s)) (quieted i s) = none) :
    clearSource i o s = weigh (deriveService (postNotice .alarmCleared
      (byte1 i ++ byte1 (alarmEntry s.alarm i).count ++ byte1 (clearOriginByte o))
      (if i = srcStore then quieted i s else raiseStore (quieted i s)))) := by
  unfold quieted at hp ⊢
  simp only [clearSource, hp]

/-- What stands behind the record of a clear goes by every source. -/
theorem afterClear_goesBy (k : NoticeKind) (fs : List Byte) (s : State) :
    GoesBy i s (weigh (deriveService (postNotice k fs s))) :=
  ((postNotice_goesBy k fs s).trans (deriveService_goesBy _)).trans (weigh_goesBy _)

/-- A clear goes by the other sources, and by its own once that is QUIET, STORE apart, which its lost record raises. -/
theorem clearSource_goesBy (h : i ≠ srcStore ∨ j = srcStore) (o : Origin) (s : State) :
    GoesBy i (quieted j s) (clearSource j o s) := by
  cases hp : postRecord .alarm (alarmRecord true j o (alarmEntry s.alarm j).count (quieted j s)) (quieted j s) with
  | some x =>
    rw [clearSource_posted hp]
    exact (postRecord_goesBy hp).trans (afterClear_goesBy _ _ _)
  | none =>
    rw [clearSource_refused hp]
    refine .trans ?_ (afterClear_goesBy _ _ _)
    split
    · exact .refl i _
    · next hj => exact raiseStore_goesBy (h.resolve_right hj).symm _

/-! ### The store's waiting work, which may clear STORE (R168, R175) -/

theorem clearStore_goesBy (h : srcStore ≠ i) (o : Origin) (s : State) : GoesBy i s (clearSource srcStore o s) :=
  (setEntry_goesBy {} h s).trans (clearSource_goesBy (.inr rfl) o s)

theorem askStoreClear_goesBy (h : srcStore ≠ i) (s : State) : GoesBy i s (askStoreClear s) := by
  unfold askStoreClear
  refine .ite ?_ (.refl i s)
  unfold autoClear
  split
  · exact .refl i s
  · exact clearStore_goesBy h _ s
  · exact clearStore_goesBy h _ s
  · exact setEntry_goesBy _ h s

theorem doWork_goesBy (h : srcStore ≠ i) (x : WaitingWork) (s : State) : GoesBy i s (doWork x s) := by
  cases x with
  | mark p => exact .of_view rfl
  | saveErase => exact .of_view rfl
  | ringErase ring =>
    have queued : GoesBy i s { s with store := queueOwedErase ring s.store } := .of_view rfl
    unfold doWork queueRingErase
    exact .ite (queued.trans ((postNotice_goesBy _ _ _).trans (askStoreClear_goesBy h _))) queued
  | overflow =>
    unfold doWork postOverflow
    simp only
    split
    · exact .refl i s
    · next t _ hp =>
      exact (postRecord_goesBy hp).trans (.trans (t := { t with store := { t.store with totals := {} } })
        (.of_view rfl) (askStoreClear_goesBy h _))

theorem settleWork_goesBy (h : srcStore ≠ i) (n : Nat) (s : State) : GoesBy i s (settleWork n s) := by
  induction n generalizing s with
  | zero => exact .refl i s
  | succ n ih =>
    unfold settleWork
    split
    · exact .refl i s
    · exact (doWork_goesBy h _ s).trans (ih _)

theorem settleWaiting_goesBy (h : srcStore ≠ i) (s : State) : GoesBy i s (settleWaiting s) := settleWork_goesBy h _ s

end Sys2Proof.Proofs
end

section
/-! PROOFS. Raisings (O27). -/

namespace Sys2Proof.Proofs

open Sys2Proof Sys2Proof.Machine Sys2Proof.Laws

variable {s t : State} {i : Nat}

/-! ### The entry after a raising (R138) -/

/-- The entry of a raised source, each field by what the source was before. -/
theorem raiseEntry_eq (time : Option DateTime) (e : AlarmEntry) : raiseEntry time e = { e with
    state := if e.state = .quiet then .raised else e.state
    count := if e.state = .quiet then 1 else min 255 (e.count + 1)
    first := if e.state = .quiet then time else e.first
    last := time
    clearPending := false
    reRaised := e.reRaised || (e.state == .reporting || e.state == .reported) } := by
  unfold raiseEntry
  cases h : e.state <;> simp

/-- A raising leaves its entry moved at most, behind its record or behind what is done for a lost one. -/
theorem raiseWith_entry {lost : State → State} (hlost : ∀ u, MovedEntry (alarmEntry u.alarm i) (alarmEntry (lost u).alarm i))
    (o : Origin) (hi : i < s.alarm.entries.length) :
    ∃ place, MovedEntry { raiseEntry (timeOfDay s) (alarmEntry s.alarm i) with latest := place }
      (alarmEntry (raiseWith lost i o s).alarm i) := by
  generalize he : raiseEntry (timeOfDay s) (alarmEntry s.alarm i) = e
  cases hp : postRecord .alarm (alarmRecord false i o e.count (setEntry i e s)) (setEntry i e s) with
  | none =>
    have entered := hlost (setEntry i { e with latest := none } s)
    rw [alarmEntry_setEntry_self hi] at entered
    rw [raiseWith_refused he hp]
    exact ⟨none, entered.trans (announce_goesBy _ _ _ _).entry⟩
  | some x =>
    have recorded : i < x.1.alarm.entries.length := by
      rw [postRecord_alarm hp]
      simpa using hi
    have announced := (announce_goesBy (i := i) i (alarmEntry s.alarm i) e (setEntry i { e with latest := some x.2 } x.1)).entry
    rw [alarmEntry_setEntry_self recorded] at announced
    rw [raiseWith_posted he hp]
    exact ⟨some x.2, announced⟩

/-- Whatever work of the store goes ahead, a source other than STORE is counted and timed by its raising (R138). -/
theorem raise_entry (o : Origin) (hi : i < s.alarm.entries.length) (h : i ≠ srcStore) :
    (alarmEntry (raise i o s).alarm i).state ≠ .quiet
      ∧ (alarmEntry (raise i o s).alarm i).count = (raiseEntry (timeOfDay s) (alarmEntry s.alarm i)).count
      ∧ (alarmEntry (raise i o s).alarm i).last = timeOfDay s
      ∧ (alarmEntry (raise i o s).alarm i).clearPending = false := by
  have worked := (settleWaiting_goesBy h.symm s).entry
  have time : timeOfDay (settleWaiting s) = timeOfDay s := by
    obtain ⟨-, -, -, -, -, -, -, tariff, -⟩ := settleWaiting_same s
    simp only [timeOfDay, tariff]
  have now : raise i o s = raiseWith raiseStore i o (settleWaiting s) := if_neg h
  obtain ⟨place, moved⟩ := raiseWith_entry (fun u => (raiseStore_goesBy h.symm u).entry) o
    (s := settleWaiting s) (by rwa [settleWaiting, settleWork_length])
  rw [← now, time, raiseEntry_eq] at moved
  refine ⟨?_, ?_, moved.last, moved.clearPending⟩
  · rw [Ne, moved.quiet]
    simp only
    split <;> simp_all
  · rw [moved.count, raiseEntry_eq]
    simp only [worked.count, worked.quiet]

/-! ### What stands behind the record (R139 to R141) -/

theorem announce_store (j : Nat) (before e : AlarmEntry) (s : State) : (announce j before e s).store = s.store := by
  unfold announce
  rw [(tellRaised_weighed _ _).store]
  split <;> simp

/-- The source's own notice goes ahead of what else is posted. -/
theorem announce_notices (i : Nat) (before e : AlarmEntry) (s : State) :
    NoticesGrow (postNotice .alarmRaised (raisedFields i e s.cfg) s) (announce i before e s) := by
  unfold announce
  refine .trans ?_ (tellRaised_goesBy (i := i) i _).notices
  split
  · exact (deriveService_goesBy (i := i) _).notices
  · exact .of_eq rfl

/-- A source that was QUIET has the service state derived afresh (R141). -/
theorem announce_service {before : AlarmEntry} (h : before.state = .quiet) (j : Nat) (e : AlarmEntry) (s : State) :
    (announce j before e s).alarm.service = derivedService (announce j before e s) := by
  unfold announce
  simp only [h, if_true]
  generalize postNotice _ _ s = u
  have told := tellRaised_weighed j (deriveService u)
  rw [told.service, deriveService_service, derivedService_congr (tellRaised_same _ _).2.2.1 told.quiet_iff,
    derivedService_deriveService]

theorem raiseWith_service {lost : State → State} (o : Origin) (h : (alarmEntry s.alarm i).state = .quiet) :
    (raiseWith lost i o s).alarm.service = derivedService (raiseWith lost i o s) := by
  generalize he : raiseEntry (timeOfDay s) (alarmEntry s.alarm i) = e
  cases hp : postRecord .alarm (alarmRecord false i o e.count (setEntry i e s)) (setEntry i e s) with
  | none =>
    rw [raiseWith_refused he hp]
    exact announce_service h _ _ _
  | some x =>
    rw [raiseWith_posted he hp]
    exact announce_service h _ _ _

/-! ### The record (R139, R173) -/

/-- A ring refuses a record for want of an open sector or of a place in the queue, whatever the record is (R173). -/
theorem postRing_none_iff {r : Ring} {rec : Record} {st : Store} :
    postRing r rec st = none ↔ (ringOf st r).full = true ∨ openFor r st = none ∨ queueHasRoom st = false := by
  unfold postRing enqueue
  split
  · next full => simp [full]
  next open_ =>
    cases openFor r st with
    | none => simp
    | some g =>
      cases room : queueHasRoom st with
      | false => simp
      | true =>
        simp only [open_, if_true, reduceCtorEq, false_or, iff_false]
        split <;> simp

theorem postRecord_refused {rec rec' : Record} {r : Ring} (hs : t.store = s.store) (h : postRing r rec s.store = none) :
    postRecord r rec' t = none := by
  rw [postRecord_none_iff, hs, postRing_none_iff]
  exact postRing_none_iff.1 h

/-- A posted record has RING_STATE behind it where the ring is FULL now (R172, R173). -/
theorem postRecord_eq {rec : Record} {y : Store × Place} (h : postRing .alarm rec s.store = some y) :
    postRecord .alarm rec s = some (if y.1.alarmRing.full = true then
      postNotice .ringState (byte1 1 ++ byte1 0) { s with store := y.1 } else { s with store := y.1 }, y.2) := by
  obtain ⟨st, place⟩ := y
  simp only [postRecord, h]
  exact (apply_ite (fun t => some (t, place)) _ _ _).symm

/-- A notice behind a posting writes the ports as it would behind a posting to any other store. -/
theorem recorded_notice_ports (k : NoticeKind) (fields : List Byte) (full : Bool) (hp : t.ports = s.ports)
    (ht : t.tariff = s.tariff) :
    (postNotice k fields (if full = true then postNotice .ringState (byte1 1 ++ byte1 0) t else t)).ports
      = (postNotice k fields (if full = true then postNotice .ringState (byte1 1 ++ byte1 0) s else s)).ports := by
  refine postNotice_ports_congr _ _ ?_ ?_
  · split
    · exact postNotice_ports_congr _ _ hp ht
    · exact hp
  · split <;> simpa using ht

/-- A posted record of a raising: its place is the entry's latest, and its notice goes ahead of what else is posted. -/
theorem raiseWith_told {lost : State → State} {o : Origin} {e : AlarmEntry} {y : Store × Place}
    (hi : i < s.alarm.entries.length) (he : raiseEntry (timeOfDay s) (alarmEntry s.alarm i) = e)
    (hy : postRing .alarm (alarmRecord false i o e.count s) s.store = some y) :
    (alarmEntry (raiseWith lost i o s).alarm i).latest = some y.2
      ∧ AlarmTold y (alarmRecord false i o e.count s) .alarmRaised (raisedFields i e s.cfg) s (raiseWith lost i o s) := by
  rw [raiseWith_posted he (postRecord_eq (s := setEntry i e s) hy)]
  generalize hu : (if y.1.alarmRing.full = true then
    postNotice .ringState (byte1 1 ++ byte1 0) { setEntry i e s with store := y.1 }
    else { setEntry i e s with store := y.1 }) = u
  have entries : u.alarm.entries.length = s.alarm.entries.length := by rw [← hu]; split <;> simp
  have store : u.store = y.1 := by rw [← hu]; split <;> simp
  have cfg : u.cfg = s.cfg := by rw [← hu]; split <;> simp
  have ports : (postNotice .alarmRaised (raisedFields i e s.cfg) (setEntry i { e with latest := some y.2 } u)).ports
      = (postNotice .alarmRaised (raisedFields i e s.cfg)
          (if y.1.alarmRing.full = true then postNotice .ringState (byte1 1 ++ byte1 0) s else s)).ports := by
    refine (postNotice_ports_congr (s := setEntry i _ u) (t := u) _ _ rfl rfl).trans ?_
    rw [← hu]
    exact recorded_notice_ports _ _ _ rfl rfl
  have notices := announce_notices i (alarmEntry s.alarm i) e (setEntry i { e with latest := some y.2 } u)
  rw [setEntry_cfg, cfg] at notices
  refine ⟨?_, ?_, postRing_queue hy, fun p => ?_⟩
  · rw [(announce_goesBy (i := i) _ _ _ _).entry.latest, alarmEntry_setEntry_self (by rwa [entries])]
  · rw [announce_store, setEntry_store, store]
  · rw [← ports]
    exact notices p

/-- What is done for a lost record of a raising goes ahead of the source's notice, and behind it the sources move at most. -/
theorem raiseWith_lost {lost : State → State} {o : Origin} {e : AlarmEntry} (hlost : ∀ u, (lost u).cfg = u.cfg)
    (he : raiseEntry (timeOfDay s) (alarmEntry s.alarm i) = e)
    (hn : postRing .alarm (alarmRecord false i o e.count s) s.store = none) :
    (raiseWith lost i o s).store = (lost (setEntry i { e with latest := none } s)).store
      ∧ (∀ j, MovedEntry (alarmEntry (lost (setEntry i { e with latest := none } s)).alarm j)
          (alarmEntry (raiseWith lost i o s).alarm j))
      ∧ NoticesGrow (postNotice .alarmRaised (raisedFields i e s.cfg) (lost (setEntry i { e with latest := none } s)))
          (raiseWith lost i o s) := by
  rw [raiseWith_refused he (postRecord_refused rfl hn)]
  refine ⟨announce_store _ _ _ _, fun j => (announce_goesBy _ _ _ _).entry, ?_⟩
  have notices := announce_notices i (alarmEntry s.alarm i) e (lost (setEntry i { e with latest := none } s))
  rwa [hlost] at notices

/-- The raising of STORE for a lost record is refused its own record, and nothing of the store changes (R139, R173). -/
theorem raiseStore_lost {rec : Record} (hs : t.store = s.store) (h : postRing .alarm rec s.store = none) :
    (raiseStore t).store = s.store := by
  rw [raiseStore, raiseWith_refused rfl (postRecord_refused hs h), announce_store]
  exact hs

/-- With no work waiting a raising of STORE is what the store does for a lost record. -/
theorem raise_store (hw : nextWork s.store = none) : raise srcStore .recordStore s = raiseStore s := by
  rw [raise, settleWaiting_none hw]
  rfl

/-! ### The obligation -/

/-- Settles O27: the entry, the record posted or lost, and what stands behind it. -/
theorem raisingMarksTheSource : Obligations.RaisingMarksTheSource := by
  intro i o s hi t before count shown x record fields
  have he : raiseEntry (timeOfDay s) before = { before with
      state := shown, count := count, first := if before.state = .quiet then timeOfDay s else before.first
      last := timeOfDay s, clearPending := false
      reRaised := before.reRaised || (before.state == .reporting || before.state == .reported) } := raiseEntry_eq _ _
  have same : SameOutsideAlarm s t := raise_same i o s
  refine ⟨fun h => ?_, fun hlen hw => ?_⟩
  · obtain ⟨marked, counted, last, pending⟩ := raise_entry o hi h
    exact ⟨same, marked, counted.trans (by rw [he]), last, pending⟩
  have now : t = raiseNow i o s := congrArg (raiseNow i o) (settleWaiting_none hw)
  refine ⟨same, raise_marks o hlen (hlen ▸ hi), fun hq => ?_, fun y hy => ?_, fun hn => ?_⟩
  · rw [now, raiseNow]
    split <;> exact raiseWith_service o hq
  · rw [now, raiseNow]
    split <;> exact raiseWith_told hi he hy
  by_cases h : i = srcStore
  · obtain ⟨store, moved, notices⟩ := raiseWith_lost (lost := id) (fun _ => rfl) he hn
    rw [now, raiseNow, if_pos h]
    exact ⟨store, (moved i).latest.trans (congrArg (·.latest) (alarmEntry_setEntry_self hi)), fun _ => notices,
      fun hne => absurd h hne⟩
  · obtain ⟨store, moved, notices⟩ := raiseWith_lost (lost := raiseStore) (fun u => (raiseStore_same u).2.2.1) he hn
    have goesBy := (raiseStore_goesBy (Ne.symm h) (setEntry i { raiseEntry (timeOfDay s) before with latest := none } s)).entry
    rw [alarmEntry_setEntry_self hi, he] at goesBy
    rw [now, raiseNow, if_neg h]
    refine ⟨store.trans (raiseStore_lost rfl hn), (moved i).latest.trans goesBy.latest, fun hi => absurd hi h,
      fun _ => ⟨fun hq => ?_, fun p => ?_⟩⟩
    · exact raiseStore_marks (by simpa using hlen) ((moved srcStore).quiet.1 hq)
    · rw [raise_store (by exact hw)]
      exact notices p

end Sys2Proof.Proofs
end

section
/-! PROOFS. Edges of the tamper sensors (O49). -/

namespace Sys2Proof.Proofs

open Sys2Proof Sys2Proof.Machine Sys2Proof.Laws

variable {s : State} {i : Nat} {high : Bool}

/-! ### Which edges count (R131 to R133) -/

theorem edgeQualifies_iff : edgeQualifies i high s = true ↔ ¬ (i = 0 ∧ s.coin.windowUntil ≠ none)
    ∧ ((sensorSetup s.cfg i).mode = .both ∨ ((sensorSetup s.cfg i).mode = .rising ∧ high = true)
      ∨ ((sensorSetup s.cfg i).mode = .falling ∧ high = false)) := by
  rw [edgeQualifies, Bool.and_eq_true]
  refine and_congr ?_ ?_
  · simp [collectionCondition, srcBoxDoor, imp_iff_not_or]
  · cases (sensorSetup s.cfg i).mode <;> simp

theorem thresholdMet_iff {x : SensorSetup} {now : Nat} {hits : List Nat} : thresholdMet x now hits = true ↔
    x.threshold ≤ hits.length ∧ now ≤ hits.getD (hits.length - x.threshold) 0 + x.window * 10 := by
  simp [thresholdMet]

/-! ### What an edge does (R132) -/

theorem sensorEdge_held (h : (sensorState s.alarm i).level = high) : sensorEdge i high s = s := by
  simp [sensorEdge, h]

theorem sensorEdge_unqualified (hi : i ≤ 7) (h : (sensorState s.alarm i).level ≠ high) (hq : edgeQualifies i high s = false) :
    sensorEdge i high s = setSensor i { sensorState s.alarm i with level := high } s := by
  simp [sensorEdge, Nat.not_lt.2 hi, h, hq]

/-- An edge that qualifies enters the history, and raises the source where threshold-many stand within the window. -/
theorem sensorEdge_qualified (hi : i ≤ 7) (h : (sensorState s.alarm i).level ≠ high) (hq : edgeQualifies i high s = true) :
    sensorEdge i high s = if thresholdMet (sensorSetup s.cfg i) s.now (appendHit s.now (sensorState s.alarm i).hits) then
        raise i .sensor (setSensor i
          { level := high, hits := []
            raisedLevel := if (sensorSetup s.cfg i).mode = .both then some high else (sensorState s.alarm i).raisedLevel } s)
      else setSensor i { sensorState s.alarm i with
        level := high, hits := appendHit s.now (sensorState s.alarm i).hits } s := by
  simp [sensorEdge, Nat.not_lt.2 hi, h, hq]

/-- Settles O49: the level held, the test of the edge, the test of the history. -/
theorem sensorEdgesCountHits : Obligations.SensorEdgesCountHits := by
  intro i high s ha hi v x hits withSensor qualifies
  have runs : exec (.sensorEdge i high) s = .next (sensorEdge i high s) := congrArg _ (whenAwake_awake ha)
  rw [runs]
  refine ⟨fun h => ?_, fun h hq => ?_, fun h hq => ⟨fun few => ?_, fun enough near => ?_⟩⟩
  · rw [sensorEdge_held h]
  · rw [sensorEdge_unqualified hi h (Bool.eq_false_iff.2 fun q => hq (edgeQualifies_iff.1 q))]
    rfl
  all_goals rw [sensorEdge_qualified hi h (edgeQualifies_iff.2 hq)]
  · refine congrArg _ (if_neg fun met => ?_)
    obtain ⟨enough, near⟩ := thresholdMet_iff.1 met
    rcases few with few | few
    · exact Nat.not_lt.2 enough few
    · exact Nat.not_lt.2 near few
  · exact congrArg _ (if_pos (thresholdMet_iff.2 ⟨enough, near⟩))

end Sys2Proof.Proofs
end

section
/-! PROOFS. The derived service state, the batch order and the weighing, each said once (R141, R152 to R157). -/

namespace Sys2Proof.Proofs

open Sys2Proof Sys2Proof.Machine Sys2Proof.Laws

variable {s t : State} {i : Nat}

/-! ### The service state (R141) -/

theorem mem_effectiveSources {e : Effect} : i ∈ effectiveSources s e ↔ i < 16 ∧ (alarmEntry s.alarm i).state ≠ .quiet
    ∧ (sourceSetup s.cfg i).masked = false ∧ (sourceSetup s.cfg i).effect = e := by
  simp [effectiveSources, and_assoc]

theorem effectiveSources_some {e : Effect} : (effectiveSources s e != []) = true ↔ ∃ i ∈ List.range 16,
    (alarmEntry s.alarm i).state ≠ .quiet ∧ (sourceSetup s.cfg i).masked = false ∧ (sourceSetup s.cfg i).effect = e := by
  rw [bne_iff_ne, Ne, List.eq_nil_iff_forall_not_mem]
  simp [mem_effectiveSources]

/-- The source that SERVICE_STATE names is one that decided (R141; log 9). -/
theorem decidingSource_mem (h : decidingSource s = some i) : i ∈ decidingSources s := by
  unfold decidingSource at h
  split at h
  · cases h
  · next hl =>
    rw [hl, Option.some.inj h]
    exact List.mem_singleton_self i
  · next hne _ =>
    have choice : Config.decidingChoice s.freeCount % (decidingSources s).length < (decidingSources s).length :=
      Nat.mod_lt _ (List.length_pos_iff.2 hne)
    rw [List.getD_eq_getElem _ _ choice] at h
    rw [← Option.some.inj h]
    exact List.getElem_mem choice

/-- A deciding source has the effect of the service state that it decides. -/
theorem decidingSource_effect (h : decidingSource s = some i) :
    i ∈ effectiveSources s .emergencyOnly ∧ derivedService s = .emergencyOnly
    ∨ i ∈ effectiveSources s .coinFree ∧ derivedService s = .coinFree := by
  have decides := decidingSource_mem h
  unfold decidingSources at decides
  split at decides
  · next hd => exact .inl ⟨decides, hd⟩
  · next hd => exact .inr ⟨decides, hd⟩
  · cases decides

/-! ### The need of a report (R152, R154) -/

/-- The sources that wait for a report, whichever way their test is written. -/
theorem urgentSources_eq {p : Nat → Bool} (hp : ∀ i, p i = true ↔ ((alarmEntry s.alarm i).state = .raised
      ∧ (sourceSetup s.cfg i).masked = false) ∧ severityByte s.cfg.threshold ≤ severityByte (sourceSetup s.cfg i).severity) :
    urgentSources s = (List.range 16).filter p := by
  rw [urgentSources, openSources, List.filter_filter]
  refine List.filter_congr fun j _ => ?_
  rw [Bool.eq_iff_iff, hp]
  simp [openSource, and_comm]

theorem reportNeeded_iff : reportNeeded s = true ↔
    s.store.identity.lock = .locked ∧ s.cfg.primary ≠ [] ∧ urgentSources s ≠ [] := by
  simp [reportNeeded, and_assoc]

theorem mem_openSources : i ∈ openSources s ↔ i < 16 ∧ (alarmEntry s.alarm i).state = .raised
    ∧ (sourceSetup s.cfg i).masked = false := by
  simp [openSources, openSource]

theorem severityByte_critical {x : Severity} : severityByte x = 3 ↔ x = .critical := by
  cases x <;> decide

theorem claimCritical_iff : claimCritical s = true ↔ ∃ i ∈ List.range 16, ((alarmEntry s.alarm i).state = .raised
    ∧ (sourceSetup s.cfg i).masked = false) ∧ severityByte (sourceSetup s.cfg i).severity = 3 := by
  simp only [claimCritical, List.any_eq_true, mem_openSources, List.mem_range, severityByte_critical, beq_iff_eq, and_assoc]

/-! ### The batch order (R156) -/

/-- The number by which sources of one severity are ordered: their own, or in ROTATING mode counted on from the rotation
point. -/
def batchRank (s : State) (i : Nat) : Nat :=
  match s.cfg.priority, s.report.rotation with
  | .rotating, some p => if p < i then i else i + 16
  | _, _ => i

theorem batchOf_ranked (s : State) (sev : Severity) :
    (batchOf s sev).Pairwise (fun i j => batchRank s i < batchRank s j) := by
  have rising : ((openSources s).filter (fun i => (sourceSetup s.cfg i).severity == sev)).Pairwise (· < ·) :=
    (List.pairwise_lt_range.filter _).filter _
  have bounded {j : Nat} (hj : j ∈ (openSources s).filter (fun i => (sourceSetup s.cfg i).severity == sev)) : j < 16 :=
    (mem_openSources.1 (List.mem_of_mem_filter hj)).1
  unfold batchOf batchRank
  generalize (openSources s).filter (fun i => (sourceSetup s.cfg i).severity == sev) = l at rising bounded
  cases s.cfg.priority with
  | fixed => exact rising
  | rotating =>
  cases s.report.rotation with
  | none => exact rising
  | some p =>
    simp only
    refine List.pairwise_append.2 ⟨?_, ?_, fun i after j before => ?_⟩
    · refine (rising.filter _).imp_of_mem fun after after' hlt => ?_
      simp only [List.mem_filter, decide_eq_true_eq] at after after'
      rwa [if_pos after.2, if_pos after'.2]
    · refine (rising.filter _).imp_of_mem fun before before' hlt => ?_
      simp only [List.mem_filter, decide_eq_true_eq] at before before'
      rw [if_neg (Nat.not_lt.2 before.2), if_neg (Nat.not_lt.2 before'.2)]
      exact Nat.add_lt_add_right hlt 16
    · simp only [List.mem_filter, decide_eq_true_eq] at after before
      rw [if_pos after.2, if_neg (Nat.not_lt.2 before.2)]
      exact (bounded after.1).trans_le (Nat.le_add_left 16 j)

/-- The batch goes by severity, the most severe first, and within one severity by rank. -/
theorem batchOrder_ranked (s : State) : (batchOrder s).Pairwise (fun i j =>
    severityByte (sourceSetup s.cfg j).severity < severityByte (sourceSetup s.cfg i).severity
    ∨ (severityByte (sourceSetup s.cfg i).severity = severityByte (sourceSetup s.cfg j).severity
      ∧ batchRank s i < batchRank s j)) := by
  have falling : [Severity.critical, .high, .medium, .low].Pairwise (fun a b => severityByte b < severityByte a) := by decide
  rw [batchOrder_eq, List.pairwise_flatMap]
  refine ⟨fun sev _ => (batchOf_ranked s sev).imp_of_mem fun hi hj hlt => .inr ⟨?_, hlt⟩,
    falling.imp fun hlt i hi j hj => .inl ?_⟩
  · rw [(mem_batchOf.1 hi).2, (mem_batchOf.1 hj).2]
  · rwa [(mem_batchOf.1 hi).2, (mem_batchOf.1 hj).2]

/-! ### The weighing (R152 to R155) -/

theorem weigh_running (h : Running s) : weigh s = weighAct (postUnset s) := by
  rw [weigh, recovering_of_running h]
  rfl

/-- A report that is needed waits for neither an identity nor a centre (R152, R153). -/
theorem postUnset_needed (hn : reportNeeded s = true) : postUnset s = s := by
  obtain ⟨locked, centre, urgent⟩ := reportNeeded_iff.1 hn
  simp [postUnset, locked, centre, urgent]

theorem reportNeeded_postUnset (s : State) : reportNeeded (postUnset s) = reportNeeded s := by
  simp [reportNeeded, urgentSources, openSources, openSource]

/-- The notices of a start are all that the report unit notes of them (R153). -/
theorem postUnset_report (s : State) : (postUnset s).report = { s.report with
    identityUnsetPosted := (postUnset s).report.identityUnsetPosted
    centreUnsetPosted := (postUnset s).report.centreUnsetPosted } := by
  unfold postUnset
  simp only
  repeat' split
  all_goals simp

theorem postUnset_state (s : State) : (postUnset s).report.state = s.report.state := by rw [postUnset_report]

theorem weigh_needed (h : Running s) (hn : reportNeeded s = true) : weigh s = weighAct s := by
  rw [weigh_running h, postUnset_needed hn]

theorem weigh_standby_needed (h : Running s) (hn : reportNeeded s = true) (hr : s.report.state = .standby) :
    weigh s = makeReportClaim s := by
  simp [weigh_needed h hn, weighAct, hr, hn]

/-- A claim on a line that the customer or the centre owns waits (R114). -/
theorem makeReportClaim_waits (ho : s.line.owner = .customer ∨ s.line.owner = .centre) : makeReportClaim s = { s with
    report := { s.report with state := .claimed }, line := { s.line with waitingReport := some (claimCritical s) } } := by
  rcases ho with ho | ho <;> (simp only [makeReportClaim, ho]; rfl)

theorem makeReportClaim_duplicate (ho : s.line.owner = .report) :
    makeReportClaim s = { s with report := { s.report with state := .claimed } } := by
  simp only [makeReportClaim, ho]

/-- A claim on a free line is granted at once (R115). -/
theorem makeReportClaim_free (ho : s.line.owner = .nobody) :
    makeReportClaim s = grantReport { s with report := { s.report with state := .claimed } } := by
  simp only [makeReportClaim, ho]

/-- A report that is needed is granted with its batch (R155). -/
theorem makeReportClaim_granted (ho : s.line.owner = .nobody) (hs : s.line.slot = none) (hn : reportNeeded s = true) :
    ReportGranted s (makeReportClaim s) := by
  rw [makeReportClaim_free ho]
  exact grantReport_granted (s := { s with report := { s.report with state := .claimed } }) hs hn

theorem weigh_claimed_needed (h : Running s) (hn : reportNeeded s = true) (hr : s.report.state = .claimed) :
    weigh s = remarkReportClaim s := by
  simp [weigh_needed h hn, weighAct, hr, hn]

theorem weigh_backoff_needed (h : Running s) (hn : reportNeeded s = true) (hr : s.report.state = .backoff) : weigh s = s := by
  simp [weigh_needed h hn, weighAct, hr, hn]

theorem weigh_standby_unneeded (h : Running s) (hn : reportNeeded s = false) (hr : s.report.state = .standby) :
    weigh s = postUnset s := by
  simp [weigh_running h, weighAct, postUnset_state, hr, reportNeeded_postUnset, hn]

theorem weigh_claimed_unneeded (h : Running s) (hn : reportNeeded s = false) (hr : s.report.state = .claimed) :
    weigh s = endRun (withdrawReportClaim { postUnset s with report := { (postUnset s).report with state := .standby } }) := by
  simp only [weigh_running h, weighAct, postUnset_state, hr, reportNeeded_postUnset, hn, Bool.false_eq_true, if_false]

theorem weigh_backoff_unneeded (h : Running s) (hn : reportNeeded s = false) (hr : s.report.state = .backoff) :
    weigh s = endRun { postUnset s with report := { (postUnset s).report with state := .standby, backoffUntil := none } } := by
  simp only [weigh_running h, weighAct, postUnset_state, hr, reportNeeded_postUnset, hn, Bool.false_eq_true, if_false]

theorem weigh_inCall (h : Running s) (hr : s.report.state = .inCall) : weigh s = postUnset s := by
  simp only [weigh_running h, weighAct, postUnset_state, hr]

end Sys2Proof.Proofs
end

section
/-! PROOFS. Alarm and report setups, and what a weighing does by the need and the report state (O48). -/

namespace Sys2Proof.Proofs

open Sys2Proof Sys2Proof.Machine Sys2Proof.Laws

variable {s t u : State} {i : Nat}

/-! ### The owners of the setups (R135, R136, R150) -/

theorem writeSourceSetup_range {sev : Option Severity} {masked : Option Bool} {e : Option Effect} (hi : 15 < i) :
    writeSourceSetup i sev masked e s = (s, refuseRange) := by
  unfold writeSourceSetup
  split
  · exact if_pos hi
  · rfl

theorem writeSourceSetup_written {sev : Severity} {masked : Bool} {e : Effect} (hi : i ≤ 15) :
    writeSourceSetup i (some sev) (some masked) (some e) s
      = (weigh (deriveService (setSourceSetup i ⟨sev, masked, e⟩ s)), replyOk []) := by
  simp [writeSourceSetup, Nat.not_lt.2 hi]

theorem writeSensorSetup_range {mode : SensorMode} {threshold window : Nat}
    (h : 7 < i ∨ threshold < 1 ∨ 15 < threshold ∨ window < 10 ∨ 2550 < window ∨ window % 10 ≠ 0) :
    writeSensorSetup i (some mode) threshold window s = (s, refuseRange) := by
  refine if_pos ?_
  simpa [or_assoc] using h

theorem writeSensorSetup_written {mode : SensorMode} {threshold window : Nat} (hi : i ≤ 7) (h1 : 1 ≤ threshold)
    (h15 : threshold ≤ 15) (h10 : 10 ≤ window) (h2550 : window ≤ 2550) (hw : window % 10 = 0) :
    writeSensorSetup i (some mode) threshold window s = (clearSensor i { s with
      cfg := { s.cfg with sensors := s.cfg.sensors.set i ⟨mode, threshold, window / 10⟩ } }, replyOk []) := by
  refine if_neg ?_
  simp only [Bool.or_eq_true, decide_eq_true_eq, bne_iff_ne]
  omega

theorem centreValid_iff {number : Digits} : centreValid number = true ↔ number.length ≤ 16 ∧ ∀ d ∈ number, d ≤ 11 := by
  simp [centreValid]

theorem centreValid_range {number : Digits} (h : 16 < number.length ∨ ¬ ∀ d ∈ number, d ≤ 11) :
    ¬ centreValid number = true := by
  rw [centreValid_iff]
  rintro ⟨hl, hd⟩
  rcases h with h | h
  · omega
  · exact h hd

/-! ### The requests -/

/-- A request whose owner ends in a weighing leaves the port as the weighing and the answer leave it. -/
theorem request_weighed {q : Request} {owner : State → State × Reply} (h : Running s) (hf : SlotFree .line s)
    (hp : permitted q .line = true) (ho : owner (frameTaken .line s) = (weigh u, replyOk []))
    (posts : PostsOnly (frameTaken .line s) u) :
    (Host.Outcome.next (takeRequest q .line owner s) : Host.Outcome State Fault Refusal)
      = .next (answeredWith .line .ok [] (weigh u)) :=
  request_posted h hf hp ho (posts.trans (weigh_weighing u).posts)

/-- A service state that changes is told with the source that decided (R141). -/
theorem deriveService_changed (h : derivedService s ≠ s.alarm.service) : deriveService s = postNotice .serviceState
    (byte1 (serviceByte (derivedService s)) ++ optionBytes byte1 (decidingSource s))
    { s with freeCount := s.freeCount + 1, alarm := { s.alarm with service := derivedService s } } := if_neg h

theorem deriveService_unchanged (h : derivedService s = s.alarm.service) : deriveService s = s := if_pos h

/-! ### The obligation -/

/-- Settles O48: each owner by what its checks say of the value; the weighing by the need and the report state. -/
theorem alarmAndReportSetupsAreWritten : Obligations.AlarmAndReportSetupsAreWritten := by
  constructor
  · intro i threshold window sev masked e mode pm number s h hf weighed outOfRange u
    have answered {q : Request} {owner : State → State × Reply} {t : State} {result : ResultCode}
        (hp : permitted q .line = true) (ho : owner (frameTaken .line s) = (frameTaken .line t, some (result, []))) :
        (Host.Outcome.next (takeRequest q .line owner s) : Host.Outcome State Fault Refusal)
          = .next (answeredWith .line result [] t) := request_answered h hf hp ho
    have weighs {q : Request} {owner : State → State × Reply} {v : State} (hp : permitted q .line = true)
        (ho : owner (frameTaken .line s) = (weigh v, replyOk [])) (hv : v.ports = (frameTaken .line s).ports) :
        (Host.Outcome.next (takeRequest q .line owner s) : Host.Outcome State Fault Refusal)
          = .next (answeredWith .line .ok [] (weigh v)) := request_weighed h hf hp ho (.of_eq hv)
    refine ⟨fun hi => answered rfl (writeSourceSetup_range hi), answered rfl rfl, answered rfl rfl, answered rfl rfl,
      fun hi hsame => weighs rfl ?_ rfl, fun hi hnew => ?_, fun hr => answered rfl (writeSensorSetup_range hr),
      answered rfl rfl, fun hi h1 h15 h10 h2550 hw => answered rfl (writeSensorSetup_written hi h1 h15 h10 h2550 hw),
      answered rfl rfl, weighs rfl rfl rfl, answered rfl rfl, weighs rfl rfl rfl, fun hr => ?_, fun hl hd => ?_⟩
    · exact (writeSourceSetup_written hi).trans
        (congrArg (fun v => (weigh v, replyOk [])) (deriveService_unchanged (s := u) hsame))
    · refine request_weighed h hf rfl ((writeSourceSetup_written hi).trans
        (congrArg (fun v => (weigh v, replyOk [])) (deriveService_changed (s := u) hnew))) ?_
      exact (postNotice_posts _ _ _).of_ports rfl
    · have invalid := centreValid_range hr
      exact ⟨answered rfl (if_neg invalid), answered rfl (if_neg invalid)⟩
    · have valid := centreValid_iff.2 ⟨hl, hd⟩
      exact ⟨weighs rfl (if_pos valid) rfl, weighs rfl (if_pos valid) rfl⟩
  · intro u h effective waiting severity urgent told ended rank
    have urgents : urgentSources u = urgent := urgentSources_eq fun i => by simp [waiting, severity]
    have tells : postUnset u = told := by
      simp only [postUnset, urgents]
      rfl
    refine ⟨?_, fun i hi => ?_, ?_, claimCritical_iff, fun i => mem_batchOrder.trans mem_openSources, batchOrder_ranked u,
      fun hn => ⟨fun hr => ⟨fun ho => ?_, fun ho => ?_, fun ho hs => ?_⟩, weigh_claimed_needed h hn,
        weigh_backoff_needed h hn⟩,
      fun hn => ⟨fun hr => ?_, fun hr => ?_, fun hr => ?_⟩, fun hr => ?_⟩
    · simp only [derivedService, effectiveSources_some]
      rfl
    · rcases decidingSource_effect hi with ⟨decides, hd⟩ | ⟨decides, hd⟩
      all_goals
        obtain ⟨hlt, marked, unmasked, effect⟩ := mem_effectiveSources.1 decides
        refine ⟨Nat.le_of_lt_succ hlt, marked, unmasked, ?_, ?_⟩ <;> simp [hd, effect]
    · rw [reportNeeded_iff, urgents]
    · rw [weigh_standby_needed h hn hr, makeReportClaim_waits ho]
    · rw [weigh_standby_needed h hn hr, makeReportClaim_duplicate ho]
    · rw [weigh_standby_needed h hn hr]
      exact makeReportClaim_granted ho hs hn
    · rw [weigh_standby_unneeded h hn hr, tells]
    · rw [weigh_claimed_unneeded h hn hr, tells]
      rfl
    · rw [weigh_backoff_unneeded h hn hr, tells]
      rfl
    · rw [weigh_inCall h hr, tells]

end Sys2Proof.Proofs
end

section
/-! PROOFS. Raisings look at neither what stands in the ports' slots nor at the sensors: two states that differ there alone
have the same notices posted (R138 to R141, R209). -/

namespace Sys2Proof.Proofs

open Sys2Proof Sys2Proof.Machine Sys2Proof.Laws

variable {s t u : State} {i : Nat}

/-! ### The relation -/

/-- `s` and `t` differ in the sensors and, of the ports, in what is neither queue nor mask. -/
structure Alike (s t : State) : Prop where
  blocks : t = { s with ports := t.ports, alarm := { s.alarm with sensors := t.alarm.sensors } }
  queue : ∀ p, (portOf t.ports p).queue = (portOf s.ports p).queue
  mask : ∀ p, (portOf t.ports p).mask = (portOf s.ports p).mask

theorem Alike.refl (s : State) : Alike s s := ⟨rfl, fun _ => rfl, fun _ => rfl⟩

theorem Alike.dressed (h : Alike s t) :
    ∃ x y, t = { s with ports := x, alarm := { s.alarm with sensors := y } } := ⟨_, _, h.blocks⟩

theorem Alike.entry (h : Alike s t) (i : Nat) : alarmEntry t.alarm i = alarmEntry s.alarm i := by rw [h.blocks]; rfl

theorem Alike.store (h : Alike s t) : t.store = s.store := by rw [h.blocks]

theorem Alike.cfg (h : Alike s t) : t.cfg = s.cfg := by rw [h.blocks]

theorem Alike.reportState (h : Alike s t) : t.report.state = s.report.state := by rw [h.blocks]

theorem Alike.owner (h : Alike s t) : t.line.owner = s.line.owner := by rw [h.blocks]

theorem Alike.reportNeeded (h : Alike s t) : reportNeeded t = reportNeeded s := by
  obtain ⟨x, y, rfl⟩ := h.dressed
  rfl

theorem Alike.batchOrder (h : Alike s t) : batchOrder t = batchOrder s := by
  obtain ⟨x, y, rfl⟩ := h.dressed
  rfl

/-- An update that says nothing of the ports and the sensors, made in both. -/
theorem Alike.update {f : State → State} (h : Alike s t)
    (hf : ∀ u x y, f { u with ports := x, alarm := { u.alarm with sensors := y } }
      = { f u with ports := x, alarm := { (f u).alarm with sensors := y } }) : Alike (f s) (f t) := by
  have ports (u : State) : (f u).ports = u.ports := by
    have := congrArg State.ports (hf u u.ports u.alarm.sensors)
    exact this
  refine ⟨?_, fun p => ?_, fun p => ?_⟩
  · have written := hf s t.ports t.alarm.sensors
    rw [← h.blocks] at written
    rw [written]
  · rw [ports, ports, h.queue p]
  · rw [ports, ports, h.mask p]

theorem Alike.ite {p q : Prop} [Decidable p] [Decidable q] {s' t' : State} (hpq : q ↔ p) (h : Alike s t) (h' : Alike s' t') :
    Alike (if p then s else s') (if q then t else t') := by
  by_cases hp : p
  · rwa [if_pos hp, if_pos (hpq.2 hp)]
  · rwa [if_neg hp, if_neg (mt hpq.1 hp)]

/-! ### Notices -/

theorem offer_alike {v w : PortState} (ns : List Notice) (bit : ClassBits) (hq : w.queue = v.queue) (hm : w.mask = v.mask) :
    (offer ns bit w).queue = (offer ns bit v).queue ∧ (offer ns bit w).mask = (offer ns bit v).mask := by
  unfold offer
  rw [hq, hm]
  split
  · exact ⟨hq, hm⟩
  split <;> exact ⟨rfl, rfl⟩

/-- What a posted notice makes of one port (R209). -/
theorem portOf_postNotice (k : NoticeKind) (fs : List Byte) (s : State) (p : Port) : portOf (postNotice k fs s).ports p
    = if k = .boxNear ∧ p ≠ .line then portOf s.ports p
      else offer [{ kind := k, time := noticeTime s, fields := padFields fs }] (classBit (noticeClass k)) (portOf s.ports p) := by
  unfold postNotice offerAll
  by_cases hk : k = .boxNear <;> cases p <;> simp [hk, portOf]

theorem postNotice_alike (k : NoticeKind) (fs : List Byte) (h : Alike s t) : Alike (postNotice k fs s) (postNotice k fs t) := by
  have time : noticeTime t = noticeTime s := by
    obtain ⟨x, y, rfl⟩ := h.dressed
    rfl
  have offered (p : Port) : (portOf (postNotice k fs t).ports p).queue = (portOf (postNotice k fs s).ports p).queue
      ∧ (portOf (postNotice k fs t).ports p).mask = (portOf (postNotice k fs s).ports p).mask := by
    rw [portOf_postNotice, portOf_postNotice, time]
    split
    · exact ⟨h.queue p, h.mask p⟩
    · exact offer_alike _ _ (h.queue p) (h.mask p)
  refine ⟨?_, fun p => (offered p).1, fun p => (offered p).2⟩
  obtain ⟨x, y, rfl⟩ := h.dressed
  rw [postNotice_eq, postNotice_eq k fs s]

theorem deriveService_alike (h : Alike s t) : Alike (deriveService s) (deriveService t) := by
  obtain ⟨x, y, rfl⟩ := h.dressed
  exact .ite .rfl h (postNotice_alike _ _ ⟨rfl, h.queue, h.mask⟩)

theorem setOwner_alike (o : Owner) (h : Alike s t) : Alike (setOwner o s) (setOwner o t) := by
  obtain ⟨x, y, rfl⟩ := h.dressed
  exact .ite .rfl h (postNotice_alike _ _ ⟨rfl, h.queue, h.mask⟩)

theorem postOrder_alike (o : Owner) (b : OrderBody) (h : Alike s t) : Alike (postOrder o b s) (postOrder o b t) := by
  refine h.update fun u x y => ?_
  unfold postOrder
  simp only
  split
  · split <;> rfl
  all_goals rfl

theorem setEntry_alike (i : Nat) (e : AlarmEntry) (h : Alike s t) : Alike (setEntry i e s) (setEntry i e t) :=
  h.update fun _ _ _ => rfl

theorem moveSource_alike (m : AlarmMove) (i : Nat) (h : Alike s t) :
    moveSource m i s = none ∧ moveSource m i t = none
      ∨ ∃ e, moveSource m i s = some (setEntry i e s) ∧ moveSource m i t = some (setEntry i e t) := by
  simp only [moveSource, h.entry]
  cases moveEntry m (alarmEntry s.alarm i) with
  | none => exact .inl ⟨rfl, rfl⟩
  | some e => exact .inr ⟨e, rfl, rfl⟩

/-! ### The weighing (R152 to R157) -/

theorem gatherBatch_alike (l : List Nat) (h : Alike s t) :
    Alike (gatherBatch l s).1 (gatherBatch l t).1 ∧ (gatherBatch l t).2 = (gatherBatch l s).2 := by
  induction l generalizing s t with
  | nil => exact ⟨h, rfl⟩
  | cons i rest ih =>
    rcases moveSource_alike .batch i h with ⟨hs, ht⟩ | ⟨e, hs, ht⟩ <;> simp only [gatherBatch, hs, ht]
    · exact ih h
    · obtain ⟨gathered, items⟩ := ih (setEntry_alike i e h)
      exact ⟨gathered, by rw [items, batchItem_congr h.cfg (h.entry i)]⟩

theorem reportGranted_alike (h : Alike s t) :
    Alike (reportGranted s).1 (reportGranted t).1 ∧ (reportGranted t).2 = (reportGranted s).2 := by
  obtain ⟨gathered, items⟩ := gatherBatch_alike (batchOrder s) h
  have nothing {u v : State} (h : Alike u v) : Alike (answerNothing u) (answerNothing v) := h.update fun _ _ _ => rfl
  unfold reportGranted
  simp only [h.reportNeeded, h.batchOrder, items]
  split
  · exact ⟨nothing h, rfl⟩
  split
  · exact ⟨nothing gathered, rfl⟩
  · simp only [settleCentre_eq]
    obtain ⟨x, y, hx⟩ := gathered.dressed
    rw [hx] at gathered ⊢
    exact ⟨⟨rfl, gathered.queue, gathered.mask⟩, rfl⟩

theorem grantReport_alike (h : Alike s t) : Alike (grantReport s) (grantReport t) := by
  obtain ⟨granted, body⟩ := reportGranted_alike (setOwner_alike .report h)
  unfold grantReport
  cases hs : reportGranted (setOwner .report s) with
  | mk u order =>
  cases ht : reportGranted (setOwner .report t) with
  | mk v order' =>
  rw [hs, ht] at granted body
  obtain rfl : order' = order := body
  cases order' with
  | none => exact setOwner_alike .nobody granted
  | some b => exact postOrder_alike .report b granted

theorem makeReportClaim_alike (h : Alike s t) : Alike (makeReportClaim s) (makeReportClaim t) := by
  have claimed : Alike { s with report := { s.report with state := .claimed } }
      { t with report := { t.report with state := .claimed } } :=
    h.update (f := fun u => { u with report := { u.report with state := .claimed } }) fun _ _ _ => rfl
  have waits (ho : s.line.owner = .customer ∨ s.line.owner = .centre) : Alike (makeReportClaim s) (makeReportClaim t) := by
    rw [makeReportClaim_waits ho, makeReportClaim_waits (by rwa [h.owner])]
    exact h.update (f := fun u => { u with
      report := { u.report with state := .claimed }
      line := { u.line with waitingReport := some (claimCritical u) } }) fun _ _ _ => rfl
  cases ho : s.line.owner with
  | nobody =>
    rw [makeReportClaim_free ho, makeReportClaim_free (h.owner.trans ho)]
    exact grantReport_alike claimed
  | customer => exact waits (.inl ho)
  | report =>
    rw [makeReportClaim_duplicate ho, makeReportClaim_duplicate (h.owner.trans ho)]
    exact claimed
  | centre => exact waits (.inr ho)

theorem postUnset_alike (h : Alike s t) : Alike (postUnset s) (postUnset t) := by
  obtain ⟨x, y, rfl⟩ := h.dressed
  refine .ite .rfl h (.ite .rfl (.ite .rfl h (postNotice_alike _ _ ?_)) (.ite .rfl (.ite .rfl h (postNotice_alike _ _ ?_)) h))
  all_goals exact ⟨rfl, h.queue, h.mask⟩

theorem weighAct_alike (h : Alike s t) : Alike (weighAct s) (weighAct t) := by
  have needed : (reportNeeded t = true) ↔ (reportNeeded s = true) := by rw [h.reportNeeded]
  unfold weighAct
  rw [h.reportState]
  split
  · exact .ite needed (makeReportClaim_alike h) h
  · exact .ite needed (h.update fun _ _ _ => rfl) (h.update (f := fun u =>
      endRun (withdrawReportClaim { u with report := { u.report with state := .standby } })) fun _ _ _ => rfl)
  · exact h
  · exact .ite needed h (h.update (f := fun u =>
      endRun { u with report := { u.report with state := .standby, backoffUntil := none } }) fun _ _ _ => rfl)

theorem weigh_alike (h : Alike s t) : Alike (weigh s) (weigh t) := by
  have recovers : (recovering t = true) ↔ (recovering s = true) := by rw [recovering, recovering, h.blocks]
  exact .ite recovers h (weighAct_alike (postUnset_alike h))

/-! ### The raising of STORE (R139, R173) -/

theorem tellRaised_alike (i : Nat) (h : Alike s t) : Alike (tellRaised i s) (tellRaised i t) := by
  have recovers : (recovering t = true) ↔ (recovering s = true) := by rw [recovering, recovering, h.blocks]
  refine .ite recovers h (weigh_alike ?_)
  rcases moveSource_alike .resumed i h with ⟨hs, ht⟩ | ⟨e, hs, ht⟩ <;> rw [hs, ht]
  · exact h
  · exact setEntry_alike i e h

theorem announce_alike (i : Nat) (before e : AlarmEntry) (h : Alike s t) :
    Alike (announce i before e s) (announce i before e t) := by
  have told := postNotice_alike .alarmRaised (raisedFields i e s.cfg) h
  unfold announce
  rw [h.cfg]
  exact tellRaised_alike i (.ite .rfl (deriveService_alike told) told)

theorem postRecord_alike {rec : Record} {y : Store × Place} (h : Alike s t) (hy : postRing .alarm rec s.store = some y) :
    ∃ u v, postRecord .alarm rec s = some (u, y.2) ∧ postRecord .alarm rec t = some (v, y.2) ∧ Alike u v := by
  have stored : Alike { s with store := y.1 } { t with store := y.1 } :=
    h.update (f := fun u => { u with store := y.1 }) fun _ _ _ => rfl
  exact ⟨_, _, postRecord_eq hy, postRecord_eq (h.store ▸ hy), .ite .rfl (postNotice_alike _ _ stored) stored⟩

theorem raiseStore_alike (h : Alike s t) : Alike (raiseStore s) (raiseStore t) := by
  generalize he : raiseEntry (timeOfDay s) (alarmEntry s.alarm srcStore) = e
  have ht : raiseEntry (timeOfDay t) (alarmEntry t.alarm srcStore) = e := by
    rw [h.entry, ← he]
    obtain ⟨x, y, rfl⟩ := h.dressed
    rfl
  have record : alarmRecord false srcStore .recordStore e.count (setEntry srcStore e t)
      = alarmRecord false srcStore .recordStore e.count (setEntry srcStore e s) := by
    obtain ⟨x, y, rfl⟩ := h.dressed
    rfl
  have entered := setEntry_alike srcStore e h
  unfold raiseStore
  cases hy : postRing .alarm (alarmRecord false srcStore .recordStore e.count (setEntry srcStore e s)) s.store with
  | none =>
    rw [raiseWith_refused he (postRecord_refused rfl hy), raiseWith_refused ht (postRecord_refused h.store hy), h.entry]
    exact announce_alike _ _ _ (setEntry_alike _ _ h)
  | some y =>
    obtain ⟨u, v, hs, hv, recorded⟩ := postRecord_alike entered hy
    rw [← record] at hv
    rw [raiseWith_posted he hs, raiseWith_posted ht hv, h.entry]
    exact announce_alike _ _ _ (setEntry_alike _ _ recorded)

end Sys2Proof.Proofs
end

section
/-! PROOFS. Clears, acknowledgements and the end of a backoff (O50). -/

namespace Sys2Proof.Proofs

open Sys2Proof Sys2Proof.Machine Sys2Proof.Laws

variable {s t u : State} {i : Nat}

/-! ### A clear (R144) -/

theorem quieted_entries (i : Nat) (s : State) : (quieted i s).alarm.entries = s.alarm.entries.set i {} := by
  unfold quieted
  split <;> rfl

@[simp] theorem quieted_store (i : Nat) (s : State) : (quieted i s).store = s.store := by unfold quieted; split <;> rfl

@[simp] theorem quieted_tariff (i : Nat) (s : State) : (quieted i s).tariff = s.tariff := by unfold quieted; split <;> rfl

@[simp] theorem quieted_ports (i : Nat) (s : State) : (quieted i s).ports = s.ports := by unfold quieted; split <;> rfl

theorem quieted_record (i : Nat) (o : Origin) (count : Nat) (s : State) :
    alarmRecord true i o count (quieted i s) = alarmRecord true i o count s := by
  unfold quieted
  split <;> rfl

theorem quieted_entry (hi : i < s.alarm.entries.length) : alarmEntry (quieted i s).alarm i = {} := by
  simp [alarmEntry, List.getD, quieted_entries, hi]

/-- Besides the entry a sensor's history alone is emptied (R144). -/
theorem quieted_alike (i : Nat) (s : State) : Alike (setEntry i {} s) (quieted i s) := by
  unfold quieted
  split
  · exact ⟨rfl, fun _ => rfl, fun _ => rfl⟩
  · exact .refl _

theorem quieted_sensor (hi : i ≤ 7) (h : i < s.alarm.sensors.length) : sensorState (quieted i s).alarm i
    = { sensorState s.alarm i with hits := [], raisedLevel := none } := by
  rw [quieted, if_pos (by omega)]
  simp [clearSensor, sensorState, List.getD, h]

theorem clearSource_entry (hi : i < s.alarm.entries.length) (o : Origin) : alarmEntry (clearSource i o s).alarm i = {} := by
  have entry := (clearSource_goesBy (i := i) (j := i) (Classical.em (i = srcStore)).symm o s).entry
  rw [quieted_entry hi] at entry
  exact entry.rests rfl

theorem clearSource_sensors (i : Nat) (o : Origin) (s : State) :
    (clearSource i o s).alarm.sensors = (quieted i s).alarm.sensors :=
  (clearSource_goesBy (i := i) (j := i) (Classical.em (i = srcStore)).symm o s).sensors

/-- A clear's own notice goes ahead of what else is posted behind its record. -/
theorem afterClear_posts (k : NoticeKind) (fs : List Byte) (s : State) :
    (weigh (deriveService (postNotice k fs s))).store = s.store
      ∧ NoticesGrow (postNotice k fs s) (weigh (deriveService (postNotice k fs s))) := by
  refine ⟨?_, ((deriveService_goesBy (i := 0) _).trans (weigh_goesBy _)).notices⟩
  rw [(weigh_weighed _).store, deriveService_store, postNotice_store]

theorem clearSource_told {o : Origin} {y : Store × Place}
    (hy : postRing .alarm (alarmRecord true i o (alarmEntry s.alarm i).count s) s.store = some y) :
    AlarmTold y (alarmRecord true i o (alarmEntry s.alarm i).count s) .alarmCleared
      (byte1 i ++ byte1 (alarmEntry s.alarm i).count ++ byte1 (clearOriginByte o)) s (clearSource i o s) := by
  have hq : postRing .alarm (alarmRecord true i o (alarmEntry s.alarm i).count (quieted i s)) (quieted i s).store = some y := by
    rw [quieted_record, quieted_store]
    exact hy
  obtain ⟨store, notices⟩ := afterClear_posts .alarmCleared
    (byte1 i ++ byte1 (alarmEntry s.alarm i).count ++ byte1 (clearOriginByte o)) (if y.1.alarmRing.full = true then
      postNotice .ringState (byte1 1 ++ byte1 0) { quieted i s with store := y.1 } else { quieted i s with store := y.1 })
  rw [clearSource_posted (postRecord_eq hq)]
  refine ⟨?_, postRing_queue hy, fun p => ?_⟩
  · rw [store]
    split <;> simp
  · rw [← recorded_notice_ports (s := s) (t := { quieted i s with store := y.1 }) _ _ _ (quieted_ports i s)
      (quieted_tariff i s)]
    exact notices p

/-- A clear whose record the store refuses (R173): STORE is raised ahead of the notice, but for STORE's own clear. -/
theorem clearSource_lost {o : Origin} (hlen : s.alarm.entries.length = 16)
    (hn : postRing .alarm (alarmRecord true i o (alarmEntry s.alarm i).count s) s.store = none) :
    (clearSource i o s).store = s.store
      ∧ (i ≠ srcStore → (alarmEntry (clearSource i o s).alarm srcStore).state ≠ .quiet
        ∧ NoticesGrow (postNotice .alarmCleared
            (byte1 i ++ byte1 (alarmEntry s.alarm i).count ++ byte1 (clearOriginByte o)) (raiseStore (setEntry i {} s)))
          (clearSource i o s))
      ∧ (i = srcStore → NoticesGrow (postNotice .alarmCleared
          (byte1 i ++ byte1 (alarmEntry s.alarm i).count ++ byte1 (clearOriginByte o)) s) (clearSource i o s)) := by
  rw [clearSource_refused (postRecord_refused (quieted_store i s) hn)]
  by_cases h : i = srcStore
  · obtain ⟨store, notices⟩ := afterClear_posts .alarmCleared
      (byte1 i ++ byte1 (alarmEntry s.alarm i).count ++ byte1 (clearOriginByte o)) (quieted i s)
    rw [if_pos h]
    refine ⟨store.trans (quieted_store i s), fun hne => absurd h hne, fun _ p => ?_⟩
    rw [← postNotice_ports_congr _ _ (quieted_ports i s) (quieted_tariff i s)]
    exact notices p
  · obtain ⟨store, notices⟩ := afterClear_posts .alarmCleared
      (byte1 i ++ byte1 (alarmEntry s.alarm i).count ++ byte1 (clearOriginByte o)) (raiseStore (quieted i s))
    have raised : (alarmEntry (raiseStore (quieted i s)).alarm srcStore).state ≠ .quiet :=
      raiseStore_marks (by rw [quieted_entries, List.length_set, hlen])
    rw [if_neg h]
    refine ⟨store.trans (raiseStore_lost (quieted_store i s) hn),
      fun _ => ⟨(afterClear_goesBy _ _ _).entry.marked raised, fun p => ?_⟩, fun hi => absurd hi h⟩
    rw [← (postNotice_alike _ _ (raiseStore_alike (quieted_alike i s))).queue p]
    exact notices p

/-- A clear with no work of the store waiting. -/
theorem clearSource_cleared {o : Origin} (hlen : s.alarm.entries.length = 16) (hi : i ≤ 15) (hw : nextWork s.store = none) :
    SourceCleared i o s (clearSource i o s) := by
  obtain ⟨-, -, service, -⟩ := clearSource_clears i o s
  refine ⟨clearSource_same i o s, clearSource_entry (by omega) o, service, fun h7 hs => ?_, fun x hx => ?_, fun hn => ?_⟩
  · rw [sensorState, clearSource_sensors]
    exact quieted_sensor h7 hs
  · -- each origin has one byte, here as in the model's own table
    have told := clearSource_told hx
    cases o <;> exact told
  · obtain ⟨store, others, own⟩ := clearSource_lost hlen hn
    refine ⟨store, fun h => ?_, fun h => ?_⟩
    · obtain ⟨raised, notices⟩ := others h
      refine ⟨raised, ?_⟩
      rw [raise_store (by exact hw)]
      cases o <;> exact notices
    · have notices := own h
      cases o <;> exact notices

end Sys2Proof.Proofs
end

section
/-! PROOFS. The requests that clear and acknowledge, and the end of a backoff (O50). -/

namespace Sys2Proof.Proofs

open Sys2Proof Sys2Proof.Machine Sys2Proof.Laws

variable {s t u : State} {i : Nat} {p : Port}

/-! ### CLEAR_ALARM (R143) -/

theorem clearHeldBack_iff : clearHeldBack i s = true ↔
    (i ≤ 7 ∧ atActiveLevel s i = true) ∨ (i = srcBoxFull ∧ s.cfg.capacity ≤ s.coin.tally.coins) := by
  simp [clearHeldBack, Nat.lt_succ_iff]

theorem clearAlarm_range (hi : 15 < i) : clearAlarm p i s = (s, refuseRange) := if_pos hi

theorem clearAlarm_refused (hi : i ≤ 15) (h : (alarmEntry s.alarm i).state = .reporting ∨ clearHeldBack i s = true) :
    clearAlarm p i s = (s, refuseState) := by
  rw [clearAlarm, if_neg (Nat.not_lt.2 hi)]
  rcases h with h | h
  · exact if_pos h
  · rw [if_pos h, ite_self]

theorem clearAlarm_quiet (hi : i ≤ 15) (hq : (alarmEntry s.alarm i).state = .quiet) (h : ¬ clearHeldBack i s = true) :
    clearAlarm p i s = (s, replyOk (byte1 0)) := by
  rw [clearAlarm, if_neg (Nat.not_lt.2 hi), if_neg (by simp [hq]), if_neg h, if_pos hq]

theorem clearAlarm_clears (hi : i ≤ 15) (hm : (alarmEntry s.alarm i).state = .raised ∨ (alarmEntry s.alarm i).state = .reported)
    (h : ¬ clearHeldBack i s = true) (hw : nextWork s.store = none) :
    clearAlarm p i s = (clearSource i (clearOrigin p) s, replyOk (byte1 1 ++ byte1 (alarmEntry s.alarm i).count)) := by
  rw [clearAlarm, if_neg (Nat.not_lt.2 hi), if_neg (by rcases hm with hm | hm <;> simp [hm]), if_neg h,
    if_neg (by rcases hm with hm | hm <;> simp [hm]), settleWaiting_none hw]
  rcases hm with hm | hm <;> simp only [clearByHand, hm]

theorem frameTaken_alike (p : Port) (s : State) : Alike (frameTaken p s) s := by
  refine ⟨rfl, fun q => ?_, fun q => ?_⟩ <;> cases p <;> cases q <;> rfl

/-- A clear of the frame-taken state is a clear of the state itself: the slots make no difference to the notices. -/
theorem sourceCleared_answered {o : Origin} {x : Ports} (h : SourceCleared i o (frameTaken p s) t)
    (hw : nextWork s.store = none) (hx : ∀ q, (portOf x q).queue = (portOf t.ports q).queue) :
    SourceCleared i o s { t with ports := x } := by
  have alike := frameTaken_alike p s
  obtain ⟨same, entry, service, sensors, posted, lost⟩ := h
  refine ⟨same, entry, service, sensors, fun y hy => ?_, fun hn => ?_⟩
  · obtain ⟨store, queue, notices⟩ := posted y hy
    refine ⟨store, queue, fun q => ?_⟩
    rw [hx, (postNotice_alike _ _ (.ite .rfl (postNotice_alike _ _ alike) alike)).queue q]
    exact notices q
  · obtain ⟨store, others, own⟩ := lost hn
    refine ⟨store, fun h => ?_, fun h q => ?_⟩
    · obtain ⟨raised, notices⟩ := others h
      refine ⟨raised, fun q => ?_⟩
      have before := notices q
      rw [raise_store (by exact hw)] at before ⊢
      change (portOf (postNotice _ _ (raiseStore (setEntry i {} s))).ports q).queue <+: _
      rw [hx, (postNotice_alike _ _ (raiseStore_alike (setEntry_alike i {} alike))).queue q]
      exact before
    · rw [hx, (postNotice_alike _ _ alike).queue q]
      exact own h q

/-- A clear by hand leaves the source cleared and its count in the answer. -/
theorem clearAlarm_cleared (h : Running s) (hlen : s.alarm.entries.length = 16) (hf : SlotFree p s) (hp : p ≠ .set)
    (hi : i ≤ 15) (hm : (alarmEntry s.alarm i).state = .raised ∨ (alarmEntry s.alarm i).state = .reported)
    (hb : ¬ clearHeldBack i s = true) (hw : nextWork s.store = none) :
    ∃ t, exec (.clearAlarm p i) s = .next t ∧ SourceCleared i (if p = .line then .linePort else .servicePort) s t
      ∧ (portOf t.ports p).slot = .ready .ok (byte1 1 ++ byte1 (alarmEntry s.alarm i).count) := by
  have origin : clearOrigin p = if p = .line then .linePort else .servicePort := by
    cases p with
    | set => exact absurd rfl hp
    | line | service => rfl
  refine ⟨answerPort p (replyOk (byte1 1 ++ byte1 (alarmEntry s.alarm i).count))
    (clearSource i (clearOrigin p) (frameTaken p s)), ?_, ?_, answerPort_slot _ _ _ _⟩
  · refine (congrArg _ (takeRequest_frameTaken (q := .clearAlarm) h hf (permitted_operator hp))).trans ?_
    rw [clearAlarm_clears (s := frameTaken p s) hi hm hb hw]
    rfl
  · rw [← origin]
    refine sourceCleared_answered (clearSource_cleared (s := frameTaken p s) hlen hi hw) hw fun q => ?_
    cases p <;> cases q <;> rfl

/-! ### Automatic clears (R145) -/

theorem autoClear_marked (h : (alarmEntry s.alarm i).state = .raised ∨ (alarmEntry s.alarm i).state = .reported) :
    autoClear i s = clearSource i .automatic s := by
  rcases h with h | h <;> simp only [autoClear, h]

theorem autoClear_reporting (h : (alarmEntry s.alarm i).state = .reporting) :
    autoClear i s = setEntry i { alarmEntry s.alarm i with clearPending := true } s := by
  simp only [autoClear, h]

/-! ### The weighing leaves every source that is not RAISED (R155) -/

theorem grantReport_unraised (h : (alarmEntry s.alarm i).state ≠ .raised) :
    alarmEntry (grantReport s).alarm i = alarmEntry s.alarm i := by
  have granted : alarmEntry (reportGranted (setOwner .report s)).1.alarm i = alarmEntry s.alarm i := by
    have owned : alarmEntry (setOwner .report s).alarm i = alarmEntry s.alarm i := by simp
    cases hn : reportNeeded (setOwner .report s) with
    | false =>
      rw [reportGranted_nothing hn]
      exact owned
    | true =>
      obtain ⟨a, reports, entries, -⟩ := reportGranted_reports hn
      rw [reports]
      refine (entries i).trans ((if_neg fun hmem => ?_).trans owned)
      exact h (owned ▸ raised_of_mem_batchOrder hmem)
  unfold grantReport
  split
  all_goals
    next hg =>
    rw [hg] at granted
    simpa using granted

theorem weigh_unraised (h : (alarmEntry s.alarm i).state ≠ .raised) : alarmEntry (weigh s).alarm i = alarmEntry s.alarm i := by
  have claimed (u : State) (hu : u.alarm = s.alarm) : alarmEntry (makeReportClaim u).alarm i = alarmEntry s.alarm i := by
    unfold makeReportClaim
    simp only
    split
    · rw [grantReport_unraised (by simpa [hu] using h)]
      simp only [hu]
    all_goals simp only [hu]
  have unset : (postUnset s).alarm = s.alarm := by simp
  unfold weigh weighAct
  split
  · rfl
  repeat' split
  case h_1.isTrue => exact claimed _ unset
  all_goals exact congrArg (alarmEntry · i) unset

/-! ### ACK_ALARMS (R164) -/

theorem ackAlarms_range {sources : List Nat} (h : sources = [] ∨ 16 < sources.length ∨ ¬ ∀ j ∈ sources, j ≤ 15) :
    ackAlarms sources s = (s, refuseRange) := by
  refine if_pos ?_
  simpa using h

theorem listedSources_one : ∀ i < 16, listedSources [i] = [i] := by decide

theorem ackAlarms_one (hi : i ≤ 15) :
    ackAlarms [i] s = (weigh (ackSources [i] s).1, replyOk ((ackSources [i] s).2.flatMap byte1)) := by
  rw [ackAlarms, if_neg (by simpa using hi), listedSources_one i (by omega)]

theorem ackSources_unraised (h : (alarmEntry s.alarm i).state ≠ .raised) : ackSources [i] s = (s, []) := by
  have refused : moveEntry .acknowledged (alarmEntry s.alarm i) = none := by
    unfold moveEntry
    split <;> simp_all
  simp [ackSources, moveSource, refused]

/-- A RAISED source is taken to REPORTED, and its latest record is marked (R142, R164). -/
theorem ackSources_raised {x : Place} (h : (alarmEntry s.alarm i).state = .raised) (hw : nextWork s.store = none)
    (room : queueHasRoom s.store = true) (hx : (alarmEntry s.alarm i).latest = some x) :
    ackSources [i] s = ({ setEntry i { alarmEntry s.alarm i with state := .reported, reRaised := false } s with
      store := { s.store with queue := s.store.queue ++ [.mark x .reported] } }, [i]) := by
  have moved : moveSource .acknowledged i s
      = some (setEntry i { alarmEntry s.alarm i with state := .reported, reRaised := false } s) := by
    simp [moveSource, moveEntry, h]
  simp only [ackSources, moved, hx, postReportedMark, settleWaiting_none (s := setEntry i _ s) hw, enqueue,
    setEntry_store, room, if_true]

theorem ackAlarms_rests (h : Running s) (hf : SlotFree .line s) (hi : i ≤ 15) (hr : (alarmEntry s.alarm i).state ≠ .raised) :
    ∃ t, exec (.ackAlarms .line [i]) s = .next t ∧ SameOutsideAlarm s t ∧ t.store = s.store
      ∧ alarmEntry t.alarm i = alarmEntry s.alarm i ∧ (portOf t.ports .line).slot = .ready .ok [] := by
  have ends : ackAlarms [i] (frameTaken .line s) = (weigh (frameTaken .line s), replyOk []) := by
    rw [ackAlarms_one hi, ackSources_unraised (s := frameTaken .line s) hr]
    rfl
  obtain ⟨x, ends, slot⟩ := request_ends (q := .ackAlarms) h hf rfl ends
  exact ⟨_, ends, weigh_same (frameTaken .line s), (weigh_weighed (frameTaken .line s)).store,
    weigh_unraised (s := frameTaken .line s) hr, slot⟩

theorem ackAlarms_acknowledges {x : Place} (h : Running s) (hlen : s.alarm.entries.length = 16) (hf : SlotFree .line s)
    (hi : i ≤ 15) (hr : (alarmEntry s.alarm i).state = .raised) (hw : nextWork s.store = none)
    (room : queueHasRoom s.store = true) (hx : (alarmEntry s.alarm i).latest = some x) :
    ∃ t, exec (.ackAlarms .line [i]) s = .next t ∧ SameOutsideAlarm s t
      ∧ alarmEntry t.alarm i = { alarmEntry s.alarm i with state := .reported, reRaised := false }
      ∧ t.store = { s.store with queue := s.store.queue ++ [.mark x .reported] }
      ∧ (portOf t.ports .line).slot = .ready .ok (byte1 i) := by
  generalize hv : ({ setEntry i { alarmEntry s.alarm i with state := .reported, reRaised := false } (frameTaken .line s) with
    store := { s.store with queue := s.store.queue ++ [.mark x .reported] } } : State) = v
  have ends : ackAlarms [i] (frameTaken .line s) = (weigh v, replyOk (byte1 i)) := by
    rw [ackAlarms_one hi, ackSources_raised (s := frameTaken .line s) hr hw room hx, ← hv]
    simp only [List.flatMap_cons, List.flatMap_nil, List.append_nil]
    rfl
  have entry : alarmEntry v.alarm i = { alarmEntry s.alarm i with state := .reported, reRaised := false } := by
    rw [← hv]
    exact alarmEntry_setEntry_self (s := frameTaken .line s) (hlen ▸ Nat.lt_succ_of_le hi)
  have marked : SameOutsideAlarm s v := by
    rw [← hv]
    exact same_refl s
  obtain ⟨y, ends, slot⟩ := request_ends (q := .ackAlarms) h hf rfl ends
  refine ⟨_, ends, same_trans marked (weigh_same v), ?_, ?_, slot⟩
  · exact (weigh_unraised (by simp [entry])).trans entry
  · exact (weigh_weighed v).store.trans (by rw [← hv])

/-! ### The end of a backoff (R163) -/

theorem grantReport_backoffUntil (s : State) : (grantReport s).report.backoffUntil = s.report.backoffUntil := by
  have granted : (reportGranted (setOwner .report s)).1.report.backoffUntil = s.report.backoffUntil := by
    cases hn : reportNeeded (setOwner .report s) with
    | false =>
      rw [reportGranted_nothing hn]
      simp [answerNothing, endRun]
    | true =>
      obtain ⟨a, reports, -⟩ := reportGranted_reports hn
      rw [reports]
      simp
  unfold grantReport
  split
  all_goals
    next hg =>
    rw [hg] at granted
    simpa using granted

theorem weigh_standby_backoffUntil (h : Running s) (hr : s.report.state = .standby) :
    (weigh s).report.backoffUntil = s.report.backoffUntil := by
  cases hn : reportNeeded s with
  | false => rw [weigh_standby_unneeded h hn hr, postUnset_report]
  | true =>
    rw [weigh_standby_needed h hn hr]
    unfold makeReportClaim
    simp only
    split
    · exact grantReport_backoffUntil _
    all_goals rfl

theorem backoffExpiry_ends (h : Running s) (hr : s.report.state = .backoff) : exec .backoffExpiry s
    = .next (weigh { s with report := { s.report with state := .standby, backoffUntil := none } }) := by
  refine congrArg _ ((whenAwake_awake (awake_of_running h)).trans ?_)
  exact if_pos hr

theorem backoffExpiry_rests (h : Running s) (hr : s.report.state ≠ .backoff) : exec .backoffExpiry s = .next s := by
  refine congrArg _ ((whenAwake_awake (awake_of_running h)).trans ?_)
  exact if_neg hr

/-! ### The obligation -/

/-- Settles O50: the clear by its checks, the automatic clear and the acknowledgement by the source's state, the backoff's end
by the need. -/
theorem alarmsAreClearedAndAcknowledged : Obligations.AlarmsAreClearedAndAcknowledged := by
  intro i p sources s h hlen e heldBack
  refine ⟨fun hf hp => ⟨fun hi => ?_, fun hi => ⟨fun held => ?_, fun hq free => ?_, fun hm free hw => ?_⟩⟩,
    fun hi => ⟨fun hm hw => ?_, autoClear_quiet, autoClear_reporting⟩,
    fun hf => ⟨fun hr => ?_, ackAlarms_rests h hf,
      fun hi hr hw room x hx => ackAlarms_acknowledges h hlen hf hi hr hw room hx⟩,
    backoffExpiry_rests h, fun hr => ⟨_, backoffExpiry_ends h hr, ?_⟩⟩
  · exact request_answered h hf (permitted_operator hp) (clearAlarm_range hi)
  · exact request_answered h hf (permitted_operator hp)
      (clearAlarm_refused (s := frameTaken p s) hi (held.imp_right clearHeldBack_iff.2))
  · exact request_answered h hf (permitted_operator hp)
      (clearAlarm_quiet (s := frameTaken p s) hi hq (mt clearHeldBack_iff.1 free))
  · exact clearAlarm_cleared h hlen hf hp hi hm (mt clearHeldBack_iff.1 free) hw
  · rw [autoClear_marked hm]
    exact clearSource_cleared hlen hi hw
  · exact request_answered h hf rfl (ackAlarms_range hr)
  · generalize hv : ({ s with report := { s.report with state := .standby, backoffUntil := none } } : State) = v
    have running : Running v := by rw [← hv]; exact h
    have standby : v.report.state = .standby := by rw [← hv]
    refine ⟨?_, ?_, ?_, fun hn => ?_, fun hn ho => ?_⟩
    · exact same_trans (t := v) (by rw [← hv]; exact same_refl s) (weigh_same v)
    · exact (weigh_weighed v).store.trans (by rw [← hv])
    · exact (weigh_standby_backoffUntil running standby).trans (by rw [← hv])
    · rw [weigh_standby_unneeded running (by rw [← hv]; exact hn) standby]
      exact (postUnset_report v).trans (by rw [← hv])
    · rw [weigh_standby_needed running (by rw [← hv]; exact hn) standby,
        makeReportClaim_waits (.inl (by rw [← hv]; exact ho)), ← hv]
      exact ⟨rfl, rfl⟩

end Sys2Proof.Proofs
end

section
/-! PROOFS. What spares the array and a locked identity: the relation, and the shared operations that queue work (O4, O8). -/

namespace Sys2Proof.Proofs

open Sys2Proof Sys2Proof.Machine Sys2Proof.Laws

variable {s t : State} {st st' st'' : Store}

/-! ### The relation -/

/-- From `st` to `st'` the array stays as it is; and where the working identity is LOCKED it stays too, and no operation that
could change what sector 0 says comes in. -/
structure Spares (st st' : Store) : Prop where
  array : st'.array = st.array
  identity : st.identity.lock = .locked → st'.identity = st.identity
  untouched : st.identity.lock = .locked → IdentityUntouched st → IdentityUntouched st'

theorem Spares.refl (st : Store) : Spares st st := ⟨rfl, fun _ => rfl, fun _ => id⟩

theorem Spares.of_eq (h : st' = st) : Spares st st' := h ▸ .refl st

theorem Spares.trans (h : Spares st st') (h' : Spares st' st'') : Spares st st'' where
  array := h'.array.trans h.array
  identity hl := (h'.identity (by rwa [h.identity hl])).trans (h.identity hl)
  untouched hl hu := h'.untouched (by rwa [h.identity hl]) (h.untouched hl hu)

theorem Spares.ite {p : Prop} [Decidable p] {t u : State} (ht : Spares st t.store) (hu : Spares st u.store) :
    Spares st (if p then t else u).store := by
  split
  · exact ht
  · exact hu

/-- What the laws of the identity read of a store beside its array. -/
def identityView (st : Store) :=
  (st.array, st.identity, st.queue, st.reserved, st.program, st.erase, st.nextSave, st.callRing.sector, st.alarmRing.sector)

/-- A record update that these laws do not read leaves the view as it is by definition. -/
theorem Spares.of_view (h : identityView st' = identityView st) : Spares st st' := by
  simp only [identityView, Prod.mk.injEq] at h
  obtain ⟨harray, hidentity, hqueue, hreserved, hprogram, herase, hnext, hcall, halarm⟩ := h
  refine ⟨harray, fun _ => hidentity, fun _ hu => ?_⟩
  unfold IdentityUntouched
  rwa [hqueue, hreserved, hprogram, herase, hnext, hcall, halarm]

/-! ### Queueing (R168) -/

theorem untouched_enqueued {ops : List StoreOp} (h : IdentityUntouched st) (hops : ∀ op ∈ ops, touchesIdentity op = false) :
    IdentityUntouched { st with queue := st.queue ++ ops } := by
  obtain ⟨hqueue, hrest⟩ := h
  refine ⟨?_, hrest⟩
  rw [List.all_append, hqueue, Bool.true_and, List.all_eq_true]
  exact fun op hop => by simp [hops op hop]

theorem untouched_ring_sector (h : IdentityUntouched st) (r : Ring) : (ringOf st r).sector ≠ 0 := by
  obtain ⟨-, -, -, -, -, hcall, halarm⟩ := h
  cases r
  · exact hcall
  · exact halarm

theorem untouched_setRing {v : RingState} (h : IdentityUntouched st) (r : Ring) (hv : v.sector ≠ 0) :
    IdentityUntouched (setRing r v st) := by
  obtain ⟨hqueue, hreserved, hprogram, herase, hnext, hcall, halarm⟩ := h
  cases r
  · exact ⟨hqueue, hreserved, hprogram, herase, hnext, hv, halarm⟩
  · exact ⟨hqueue, hreserved, hprogram, herase, hnext, hcall, hv⟩

theorem setRing_identity (r : Ring) (v : RingState) (st : Store) : (setRing r v st).identity = st.identity := by
  cases r <;> rfl

theorem enqueued_spares {op : StoreOp} (hop : IdentityUntouched st → touchesIdentity op = false) :
    Spares st { st with queue := st.queue ++ [op] } :=
  ⟨rfl, fun _ => rfl, fun _ hu => untouched_enqueued hu fun _ hx => List.mem_singleton.1 hx ▸ hop hu⟩

theorem enqueue_spares {op : StoreOp} (hop : IdentityUntouched st → touchesIdentity op = false)
    (h : enqueue op st = some st') : Spares st st' := by
  unfold enqueue at h
  split at h
  · exact Option.some.inj h ▸ enqueued_spares hop
  · cases h

theorem setRing_spares (r : Ring) {v : RingState} (hv : IdentityUntouched st → v.sector ≠ 0) : Spares st (setRing r v st) :=
  ⟨setRing_array r v st, fun _ => setRing_identity r v st, fun _ hu => untouched_setRing hu r (hv hu)⟩

/-! ### The rings (R171 to R173) -/

theorem ringFirst_pos (r : Ring) : 0 < ringFirst r := by
  cases r <;> decide

theorem nextSector_ne_zero (r : Ring) (sector : Nat) : nextSector r sector ≠ 0 := by
  have := ringFirst_pos r
  unfold nextSector ringAdvance
  omega

theorem openFor_sector {r : Ring} {g : RingState} (h : openFor r st = some g) (hu : IdentityUntouched st) : g.sector ≠ 0 := by
  unfold openFor at h
  simp only at h
  split at h
  · exact Option.some.inj h ▸ untouched_ring_sector hu r
  split at h
  · exact Option.some.inj h ▸ nextSector_ne_zero r _
  · cases h

theorem touchesIdentity_record {p : Place} (r : Record) (h : p.sector ≠ 0) : touchesIdentity (.record p r) = false := by
  simpa [touchesIdentity] using h

theorem touchesIdentity_erase {sector : Nat} (seq : Nat) (h : sector ≠ 0) : touchesIdentity (.erase sector seq) = false := by
  simpa [touchesIdentity] using h

/-- A ring record lies in a sector of its ring. -/
theorem postRing_spares {r : Ring} {rec : Record} {p : Place} (h : postRing r rec st = some (st', p)) : Spares st st' := by
  unfold postRing at h
  split at h
  · cases h
  split at h
  · cases h
  rename_i g hg
  simp only at h
  split at h
  · cases h
  rename_i st1 he
  have queued : Spares st st1 := enqueue_spares (fun hu => touchesIdentity_record _ (openFor_sector hg hu)) he
  have placed : Spares st (setRing r { g with used := g.used + 1 } st1) :=
    ⟨(setRing_array ..).trans queued.array, fun hl => (setRing_identity ..).trans (queued.identity hl),
      fun hl hu => untouched_setRing (queued.untouched hl hu) r (openFor_sector (g := g) hg hu)⟩
  split at h <;> (obtain ⟨rfl, -⟩ := Prod.mk.inj (Option.some.inj h))
  · exact placed.trans (setRing_spares r fun hu => untouched_ring_sector hu r)
  · exact placed

theorem postRecord_spares {r : Ring} {rec : Record} {p : Place} (h : postRecord r rec s = some (t, p)) :
    Spares s.store t.store :=
  postRing_spares (postRecord_store h)

theorem queueOwedErase_spares (r : Ring) (st : Store) : Spares st (queueOwedErase r st) :=
  .trans (enqueued_spares (op := .erase (nextSector r (ringOf st r).sector) ((ringOf st r).seq + 1))
    fun _ => touchesIdentity_erase _ (nextSector_ne_zero r _)) (setRing_spares r fun hu => untouched_ring_sector hu r)

/-! ### Raisings, clears and the store's waiting work -/

theorem moveSource_spares {m : AlarmMove} {i : Nat} (h : moveSource m i s = some t) : Spares s.store t.store :=
  .of_eq (moveSource_weighed h).store

theorem weigh_spares (s : State) : Spares s.store (weigh s).store := .of_eq (weigh_weighed s).store

theorem raiseWith_spares {lost : State → State} (hlost : ∀ s, Spares s.store (lost s).store) (i : Nat) (o : Origin)
    (s : State) : Spares s.store (raiseWith lost i o s).store := by
  cases hp : postRecord .alarm (alarmRecord false i o (raiseEntry (timeOfDay s) (alarmEntry s.alarm i)).count
      (setEntry i (raiseEntry (timeOfDay s) (alarmEntry s.alarm i)) s))
      (setEntry i (raiseEntry (timeOfDay s) (alarmEntry s.alarm i)) s) with
  | none =>
    rw [raiseWith_refused rfl hp, announce_store]
    exact hlost (setEntry i _ s)
  | some x =>
    rw [raiseWith_posted rfl hp, announce_store, setEntry_store]
    exact (postRecord_spares hp :)

theorem raiseStore_spares (s : State) : Spares s.store (raiseStore s).store := raiseWith_spares (fun s => .refl s.store) _ _ s

theorem raiseNow_spares (i : Nat) (o : Origin) (s : State) : Spares s.store (raiseNow i o s).store := by
  unfold raiseNow
  exact .ite (raiseWith_spares (fun s => .refl s.store) _ _ s) (raiseWith_spares raiseStore_spares _ _ s)

theorem clearSource_spares (i : Nat) (o : Origin) (s : State) : Spares s.store (clearSource i o s).store := by
  have told (k : NoticeKind) (fs : List Byte) (u : State) :
      (weigh (deriveService (postNotice k fs u))).store = u.store := by
    rw [(weigh_weighed _).store, deriveService_store, postNotice_store]
  rw [← quieted_store i s]
  cases hp : postRecord .alarm (alarmRecord true i o (alarmEntry s.alarm i).count (quieted i s)) (quieted i s) with
  | some x =>
    rw [clearSource_posted hp, told]
    exact postRecord_spares hp
  | none =>
    rw [clearSource_refused hp, told]
    exact .ite (.refl _) (raiseStore_spares _)

theorem autoClear_spares (i : Nat) (s : State) : Spares s.store (autoClear i s).store := by
  unfold autoClear
  split
  · exact .refl _
  · exact clearSource_spares i _ s
  · exact clearSource_spares i _ s
  · exact .refl _

theorem askStoreClear_spares (s : State) : Spares s.store (askStoreClear s).store := by
  unfold askStoreClear
  exact .ite (autoClear_spares _ s) (.refl _)

theorem queueRingErase_spares (r : Ring) (s : State) : Spares s.store (queueRingErase r s).store := by
  have queued := queueOwedErase_spares r s.store
  unfold queueRingErase
  refine .ite (queued.trans ?_) queued
  have asked := askStoreClear_spares
    (postNotice .ringState (byte1 (ringByte r) ++ byte1 1) { s with store := queueOwedErase r s.store })
  rwa [postNotice_store] at asked

theorem postOverflow_spares (s : State) : Spares s.store (postOverflow s).store := by
  unfold postOverflow
  split
  · exact .refl _
  · rename_i u p hp
    have cleared : Spares u.store { u.store with totals := {} } := .of_view rfl
    exact (postRecord_spares hp).trans (cleared.trans (askStoreClear_spares { u with store := { u.store with totals := {} } }))

theorem queueSave_spares (st : Store) : Spares st (queueSave st) :=
  .trans (st' := { st with saveOwed := false }) (.of_view rfl) (enqueued_spares fun _ => rfl)

theorem postWaitingMark_spares (p : Place) (s : State) : Spares s.store (postWaitingMark p s).store :=
  .trans (st' := { s.store with waitingMarks := s.store.waitingMarks.tail }) (.of_view rfl) (enqueued_spares fun _ => rfl)

theorem doWork_spares (w : WaitingWork) (s : State) : Spares s.store (doWork w s).store := by
  cases w with
  | mark p => exact postWaitingMark_spares p s
  | ringErase r => exact queueRingErase_spares r s
  | saveErase => exact queueSave_spares s.store
  | overflow => exact postOverflow_spares s

theorem settleWork_spares (n : Nat) (s : State) : Spares s.store (settleWork n s).store := by
  induction n generalizing s with
  | zero => exact .refl _
  | succ n ih =>
    unfold settleWork
    split
    · exact .refl _
    · exact (doWork_spares _ s).trans (ih _)

theorem settleWaiting_spares (s : State) : Spares s.store (settleWaiting s).store := settleWork_spares _ s

theorem freedPlace_spares (s : State) : Spares s.store (freedPlace s).store := by
  unfold freedPlace
  split
  · exact postWaitingMark_spares _ s
  · exact queueSave_spares s.store
  all_goals exact .refl _

/-! ### Postings -/

theorem raise_spares (i : Nat) (o : Origin) (s : State) : Spares s.store (raise i o s).store :=
  (settleWaiting_spares s).trans (raiseNow_spares i o _)

theorem postCallRing_spares (rec : Record) (s : State) : Spares s.store (postCallRing rec s).store := by
  refine (settleWaiting_spares s).trans ?_
  unfold postCallRing
  simp only
  split
  · exact postRecord_spares (by assumption)
  · exact .trans (st' := { (settleWaiting s).store with totals := countRecord rec (settleWaiting s).store.totals })
      (.of_view rfl) (raiseStore_spares { settleWaiting s with store :=
        { (settleWaiting s).store with totals := countRecord rec (settleWaiting s).store.totals } })

theorem postReportedMark_spares (p : Option Place) (s : State) : Spares s.store (postReportedMark p s).store := by
  unfold postReportedMark
  split
  · exact .refl _
  · refine (settleWaiting_spares s).trans ?_
    simp only
    split
    · exact enqueue_spares (op := .mark _ .reported) (fun _ => rfl) (by assumption)
    · exact raiseStore_spares _

theorem postResolvedMark_spares (p : Place) (s : State) : Spares s.store (postResolvedMark p s).store := by
  refine (settleWaiting_spares s).trans ?_
  unfold postResolvedMark
  simp only
  split
  · exact enqueue_spares (op := .mark _ .resolved) (fun _ => rfl) (by assumption)
  · exact .of_view rfl

theorem postCommit_spares (s : State) : Spares s.store (postCommit s).1.store := by
  refine (settleWaiting_spares s).trans ?_
  unfold postCommit
  simp only
  split
  · exact .refl _
  split
  · exact enqueue_spares (op := .commit) (fun _ => rfl) (by assumption)
  · exact .refl _

end Sys2Proof.Proofs
end

section
/-! PROOFS. The call, its metering and its account, the number and the line leave the store as it is, or spare it (O4, O8). -/

namespace Sys2Proof.Proofs

open Sys2Proof Sys2Proof.Machine Sys2Proof.Laws

variable {s t : State}

/-! ### Money and metering leave the store as it is (R30 to R37, R103 to R111) -/

theorem callSide_store (h : OnlyCallSide s t) : t.store = s.store := by
  rw [h]

@[simp] theorem enterWaitLine_store (s : State) : (enterWaitLine s).store = s.store := callSide_store (enterWaitLine_callSide s)

@[simp] theorem reportCredit_store (s : State) : (reportCredit s).store = s.store := callSide_store (reportCredit_callSide s)

@[simp] theorem judge_store (amount : Nat) (s : State) : (judge amount s).store = s.store :=
  callSide_store (judge_callSide amount s)

@[simp] theorem sendOk_store (s : State) : (sendOk s).store = s.store := callSide_store (sendOk_callSide s)

@[simp] theorem grantCustomer_store (s : State) : (grantCustomer s).store = s.store :=
  callSide_store (grantCustomer_callSide s)

@[simp] theorem shortfall_store (s : State) : (shortfall s).store = s.store := by
  obtain ⟨k, -, h⟩ := shortfall_posts s
  rw [h]

@[simp] theorem enterRefund_store (s : State) : (enterRefund s).store = s.store := by
  unfold enterRefund postRefundAll
  repeat' split
  all_goals rfl

@[simp] theorem leaveFlightStage_store (s : State) : (leaveFlightStage s).store = s.store := by
  unfold leaveFlightStage
  repeat' split
  all_goals simp

@[simp] theorem collectEnded_store (f : Account → Account) (s : State) : (collectEnded f s).store = s.store := by
  simp [collectEnded]

@[simp] theorem charge_store (m : Nat) (s : State) : (charge m s).store = s.store := by
  unfold charge
  split <;> simp

@[simp] theorem beginCarry_store (s : State) : (beginCarry s).store = s.store := by
  unfold beginCarry
  split <;> simp

@[simp] theorem stopCallWork_store (s : State) : (stopCallWork s).store = s.store := by
  simp [stopCallWork]

@[simp] theorem enterClearing_store (o : CallOutcome) (s : State) : (enterClearing o s).store = s.store := by
  simp [enterClearing]

@[simp] theorem forcedClear_store (s : State) : (forcedClear s).store = s.store := by
  unfold forcedClear
  simp only
  split <;> simp

@[simp] theorem startStep_store (first : Bool) (e : TariffEntry) (s : State) : (startStep first e s).store = s.store := by
  unfold startStep
  simp only
  split <;> simp

@[simp] theorem setThreshold_store (s : State) : (setThreshold s).store = s.store := by
  simp [setThreshold]

@[simp] theorem warningPoint_store (s : State) : (warningPoint s).store = s.store := by
  simp [warningPoint]

@[simp] theorem forceQuietly_store (s : State) : (forceQuietly s).store = s.store := rfl

@[simp] theorem stepDue_store (first : Bool) (s : State) : (stepDue first s).store = s.store := by
  unfold stepDue
  simp only
  repeat' split
  all_goals simp

@[simp] theorem afterConnection_store (s : State) : (afterConnection s).store = s.store := by
  unfold afterConnection
  simp only
  repeat' split
  all_goals simp

@[simp] theorem connectionCharge_store (s : State) : (connectionCharge s).store = s.store := by
  unfold connectionCharge
  simp only
  repeat' split
  all_goals simp

@[simp] theorem startMetering_store (row : List TariffEntry) (s : State) : (startMetering row s).store = s.store := by
  unfold startMetering
  split <;> simp

@[simp] theorem meterPulse_store (s : State) : (meterPulse s).store = s.store := by
  unfold meterPulse countStep
  simp only
  repeat' split
  all_goals simp

@[simp] theorem answerCall_store (s : State) : (answerCall s).store = s.store := by
  unfold answerCall
  simp only
  split <;> simp

/-! ### The number and the beginning of a call leave it (R44 to R68) -/

@[simp] theorem refuseNumber_store (r : Reason) (s : State) : (refuseNumber r s).store = s.store := by
  simp [refuseNumber]

@[simp] theorem acceptNumber_store (e : PlanEntry) (s : State) : (acceptNumber e s).store = s.store := by
  unfold acceptNumber takeAcceptance
  simp only
  split <;> simp

@[simp] theorem decideNumber_store (e : PlanEntry) (s : State) : (decideNumber e s).store = s.store := by
  unfold decideNumber
  split <;> simp

@[simp] theorem analyseDigit_store (d : Nat) (s : State) : (analyseDigit d s).store = s.store := by
  unfold analyseDigit
  simp only
  repeat' split
  all_goals simp

@[simp] theorem interDigitEnds_store (s : State) : (interDigitEnds s).store = s.store := by
  unfold interDigitEnds
  repeat' split
  all_goals simp

@[simp] theorem postTone_store (s : State) : (postTone s).store = s.store := by
  unfold postTone
  repeat' split
  all_goals simp

theorem keyForDigit_store (d : Nat) (s : State) : (keyForDigit d s).1.store = s.store := by
  have queued : (queueDigit d s).1.store = s.store := by
    unfold queueDigit
    split <;> simp
  unfold keyForDigit
  split
  · simp
  · exact queued
  · exact queued
  all_goals rfl

@[simp] theorem abandonNumber_store (s : State) : (abandonNumber s).store = s.store := by
  simp [abandonNumber]

theorem keyForCancel_store (s : State) : (keyForCancel s).1.store = s.store := by
  unfold keyForCancel
  split <;> simp

theorem keyForFollowOn_store (s : State) : (keyForFollowOn s).1.store = s.store := by
  unfold keyForFollowOn
  repeat' split
  all_goals simp

theorem keyPressed_store (key : Nat) (s : State) : (keyPressed key s).1.store = s.store := by
  unfold keyPressed
  split
  · exact keyForDigit_store key s
  split
  · exact keyForFollowOn_store s
  split
  · exact keyForCancel_store s
  · rfl

@[simp] theorem openAccount_store (s : State) : (openAccount s).store = s.store := by
  unfold openAccount
  split <;> rfl

@[simp] theorem beginCall_store (s : State) : (beginCall s).store = s.store := by
  simp [beginCall]

@[simp] theorem tellCallEnded_store (s : State) : (tellCallEnded s).store = s.store := by
  unfold tellCallEnded
  split <;> rfl

@[simp] theorem takeHeldOffHook_store (s : State) : (takeHeldOffHook s).store = s.store := by
  unfold takeHeldOffHook
  split <;> simp

/-! ### The end of a call may post its record (R76 to R87) -/

theorem postCallRecord_spares (f : Figures) (forfeited : Option Nat) (followOn : Bool) (s : State) :
    Spares s.store (postCallRecord f forfeited followOn s).store := by
  unfold postCallRecord
  exact .ite (postCallRing_spares _ s) (.refl _)

theorem finishCall_spares (f : Figures) (forfeited : Nat) (s : State) : Spares s.store (finishCall f forfeited s).store := by
  refine (postCallRecord_spares f (some forfeited) false s).trans (.of_eq ?_)
  simp [finishCall]

theorem settleAccount_spares (s : State) : Spares s.store (settleAccount s).store := by
  unfold settleAccount
  split
  · exact finishCall_spares _ _ s
  · exact .of_eq (by simp)
  · exact .refl _

theorem enterSettling_spares (s : State) : Spares s.store (enterSettling s).store := by
  have settled := settleAccount_spares (setCallState .settling (stopCallTimer s))
  rwa [setCallState_store, stopCallTimer_store] at settled

theorem leaveByMarks_spares (s : State) : Spares s.store (leaveByMarks s).store := by
  unfold leaveByMarks
  exact .ite (enterSettling_spares s) (.ite (.of_eq (by simp)) (.of_eq (by simp)))

theorem callFailed_spares (s : State) : Spares s.store (callFailed s).store := by
  have fails := leaveByMarks_spares (stopCallWork (fixOutcome .failed none s))
  rw [stopCallWork_store, fixOutcome_store] at fails
  unfold callFailed
  split
  · exact fails
  · exact fails
  · exact fails
  · exact fails
  · exact leaveByMarks_spares s
  all_goals exact .refl _

theorem releaseDone_spares (s : State) : Spares s.store (releaseDone s).store := by
  unfold releaseDone
  exact .ite (leaveByMarks_spares s) (.refl _)

theorem hangUpCall_spares (s : State) : Spares s.store (hangUpCall s).store := by
  have settles {u : State} (hu : u.store = s.store) : Spares s.store (enterSettling u).store :=
    hu ▸ enterSettling_spares u
  unfold hangUpCall
  split
  · exact .refl _
  · exact settles (by simp)
  · exact settles (by simp)
  · exact settles (by simp)
  · exact .of_eq (by simp)
  · exact .of_eq (by simp)
  · exact .of_eq (by simp)
  · exact .of_eq (by simp)
  · exact .refl _
  · exact settles rfl
  · exact settles rfl
  · exact .refl _

theorem endCallForRestart_spares (s : State) : Spares s.store (endCallForRestart s).store := by
  unfold endCallForRestart
  refine .ite (.refl _) (.ite (.of_eq (by simp)) ?_)
  exact hangUpCall_spares { s with call := { s.call with restartEnd := true, heldOffHook := false } }

theorem carryCompletes_spares (s : State) : Spares s.store (carryCompletes s).store := by
  refine (postCallRecord_spares (figuresOf s.account) none true { s with account := carriedAccount s.account }).trans
    (.of_eq ?_)
  simp [carryCompletes]

theorem settled_spares (forRecovery : Bool) (s : State) : Spares s.store (settled forRecovery s).store := by
  unfold settled
  simp only
  split
  · split <;> exact .refl _
  · exact finishCall_spares _ _ { s with account := {} }

theorem settlementEnds_spares (s : State) : Spares s.store (settlementEnds s).store := by
  unfold settlementEnds
  split
  · rename_i forRecovery _
    exact .ite (settled_spares forRecovery
      { s with coin := { s.coin with gateQueue := s.coin.gateQueue.filter (· != .refundAll) } }) (.refl _)
  · exact .refl _

/-! ### The line (R113 to R128) -/

@[simp] theorem grantWaitingCustomer_store (s : State) : (grantWaitingCustomer s).store = s.store := by
  simp [grantWaitingCustomer]

@[simp] theorem arbiter_store (s : State) : (arbiter s).store = s.store := by
  have reports : (grantWaitingReport s).store = s.store := by
    unfold grantWaitingReport
    simp only
    split <;> simp [(grantReport_weighed _).store]
  unfold arbiter
  split <;> simp [reports]

@[simp] theorem handOn_store (s : State) : (handOn s).store = s.store := by
  unfold handOn
  split <;> simp

@[simp] theorem weighAfter_store (o : Owner) (s : State) : (weighAfter o s).store = s.store := by
  unfold weighAfter
  split
  · exact (weigh_weighed s).store
  · rfl

theorem leaveReporting_spares (m : AlarmMove) (i : Nat) (s : State) : Spares s.store (leaveReporting m i s).store := by
  unfold leaveReporting
  split
  · exact .refl _
  · rename_i t h
    exact .ite ((moveSource_spares h).trans (clearSource_spares _ _ _)) (moveSource_spares h)

theorem deliverItem_spares (i : BatchItem) (s : State) : Spares s.store (deliverItem i s).store := by
  refine (leaveReporting_spares .delivered i.source s).trans ?_
  unfold deliverItem
  simp only
  cases h : moveSource .resumed i.source (leaveReporting .delivered i.source s) with
  | none => exact .refl _
  | some t => exact moveSource_spares h

theorem forItems_spares {f : BatchItem → State → State} (hf : ∀ i s, Spares s.store (f i s).store) (l : List BatchItem)
    (s : State) : Spares s.store (forItems f l s).store := by
  induction l generalizing s with
  | nil => exact .refl _
  | cons i rest ih => exact (hf i s).trans (ih _)

theorem reportDelivered_spares (s : State) : Spares s.store (reportDelivered s).store := by
  have items := (forItems_spares deliverItem_spares s.report.batch s).trans
    (forItems_spares (fun i => postReportedMark_spares i.place) s.report.batch _)
  exact items.trans (.of_eq (by simp [reportDelivered, postReportEnded]))

theorem returnItems_spares (l : List BatchItem) (s : State) : Spares s.store (forItems returnItem l s).store :=
  forItems_spares (fun i => leaveReporting_spares .returned i.source) l s

theorem reportFailed_spares (o : ReportOutcome) (s : State) : Spares s.store (reportFailed o s).store :=
  (returnItems_spares s.report.batch s).trans (.of_eq (by simp [reportFailed, postReportEnded]))

theorem reportAborted_spares (s : State) : Spares s.store (reportAborted s).store :=
  (returnItems_spares s.report.batch s).trans (.of_eq (by simp [reportAborted, postReportEnded]))

theorem reportEnded_spares (o : ReportOutcome) (s : State) : Spares s.store (reportEnded o s).store := by
  unfold reportEnded
  refine (settleWaiting_spares s).trans ?_
  cases o with
  | delivered => exact reportDelivered_spares _
  | aborted => exact reportAborted_spares _
  | noAnswer | busy | failed => exact reportFailed_spares _ _

theorem failOwnership_spares (c : CentreCause) (s : State) : Spares s.store (failOwnership c s).store := by
  have told : Spares s.store (tellFailed s.line.owner c (freeLine s)).store := by
    rw [← freeLine_store s]
    cases s.line.owner with
    | customer => exact callFailed_spares _
    | report => exact reportEnded_spares _ _
    | centre => exact .of_eq (by simp [tellFailed])
    | nobody => exact .refl _
  unfold failOwnership
  exact .ite (.refl _) (told.trans (.of_eq (by simp)))

theorem abortDone_spares (atLimit : Bool) (s : State) : Spares s.store (abortDone atLimit s).store := by
  unfold abortDone
  simp only [weighAfter_store, handOn_store]
  rw [← freeLine_store s]
  split
  · exact reportEnded_spares _ _
  · exact .of_eq (by simp)
  · exact .refl _
  · exact .refl _

theorem connectDone_store (o : OrderOutcome) (s : State) : (connectDone o s).store = s.store := by
  unfold connectDone
  repeat' split
  all_goals simp

theorem endOrder_spares (body : OrderBody) (o : OrderOutcome) (s : State) : Spares s.store (endOrder body o s).store := by
  cases body with
  | connect => exact .of_eq (connectDone_store o _)
  | tone => exact .of_eq (by simp [endOrder])
  | release =>
    rw [← freeLine_store s]
    exact (releaseDone_spares _).trans (.of_eq (by simp [endOrder]))
  | report =>
    rw [← freeLine_store s]
    exact (reportEnded_spares (reportOutcomeOf o) _).trans (.of_eq (by simp [endOrder, (weigh_weighed _).store]))
  | abort atLimit => exact abortDone_spares atLimit s

theorem orderDone_spares (kind : Option OrderKind) (number : Nat) (outcome : Option OrderOutcome) (s : State) :
    Spares s.store (orderDone kind number outcome s).1.store := by
  unfold orderDone completeOrder
  repeat' split
  case h_2.isFalse => exact endOrder_spares _ _ s
  all_goals exact .refl _

theorem callEvent_spares (fits : CallState → Bool) {effect : State → State}
    (he : ∀ s, (effect s).store = s.store) (s : State) : Spares s.store (callEvent fits effect s).1.store := by
  unfold callEvent
  split
  · exact .of_eq (he s)
  · exact .refl _

theorem lineLost_spares (s : State) : Spares s.store (lineLost s).store := by
  have raised := raise_spares srcLineFault .lineAllocator s
  unfold lineLost
  exact .ite raised (raised.trans (failOwnership_spares _ _))

theorem orderLimitEnds_spares (s : State) : Spares s.store (orderLimitEnds s).store := by
  unfold orderLimitEnds
  exact .ite (.refl _) ((raise_spares _ _ s).trans (failOwnership_spares _ _))

theorem claimCentre_store (s : State) : (claimCentre s).1.store = s.store := by
  unfold claimCentre
  split <;> simp

theorem endCentre_store (s : State) : (endCentre s).1.store = s.store := by
  unfold endCentre
  split <;> simp

theorem centreSessionEnds_store (s : State) : (centreSessionEnds s).store = s.store := by
  unfold centreSessionEnds
  split <;> simp

theorem fetchOrder_store (part : Nat) (s : State) : (fetchOrder part s).1.store = s.store := by
  unfold fetchOrder
  repeat' split
  all_goals rfl

/-! ### The hook and the call's timers (R61 to R67) -/

theorem offHook_store (s : State) : (offHook s).store = s.store := by
  unfold offHook offHookEvent
  simp only
  repeat' split
  all_goals simp

theorem onHook_spares (s : State) : Spares s.store (onHook s).store := by
  unfold onHook
  exact .ite (hangUpCall_spares { s with call := { s.call with hook := .on, holdFrom := none, heldOffHook := false } })
    (.refl _)

theorem hookFalls_store (s : State) : (hookFalls s).store = s.store := by
  unfold hookFalls
  split <;> rfl

theorem refuseCall_store (r : Reason) (s : State) : (refuseCall r s).store = s.store := by
  simp [refuseCall]

end Sys2Proof.Proofs
end

section
/-! PROOFS. The coins, the setups, the ports, the store's requests and recovery spare the array and a locked identity, and
so does every command that does not write the array (O4, O8). -/

namespace Sys2Proof.Proofs

open Sys2Proof Sys2Proof.Machine Sys2Proof.Laws

variable {s t : State} {st : Store}

/-! ### The coin unit (R1 to R23) -/

theorem checkNear_store (s : State) : (checkNear s).store = s.store := by
  rw [checkNear_eq]

theorem checkFull_spares (below : Bool) (s : State) : Spares s.store (checkFull below s).store := by
  unfold checkFull
  exact .ite (raise_spares _ _ s) (.refl _)

theorem nearFull_spares (below : Bool) (s : State) : Spares s.store (checkFull below (checkNear s)).store :=
  .trans (.of_eq (checkNear_store s)) (checkFull_spares below _)

theorem bankCoin_spares (k v : Nat) (s : State) : Spares s.store (bankCoin k v s).store :=
  nearFull_spares _ { s with coin := { s.coin with tally := countCoin k v s.coin.tally } }

theorem loseFlight_spares (s : State) : Spares s.store (loseFlight s).store := by
  unfold loseFlight
  exact .ite (.refl _) (raise_spares _ _ { s with coin := { s.coin with flightLoss := 0 } })

theorem acceptPulse_spares (k : Nat) (s : State) : Spares s.store (acceptPulse k s).store := by
  unfold acceptPulse
  exact .ite (.refl _) (.ite (loseFlight_spares s) (.refl _))

theorem strayPass_spares (s : State) : Spares s.store (strayPass s).store := by
  have withdrawn : (match pulledBack s with
      | some x => withdrawCoin x { s with coin := { s.coin with lastCredited := none } }
      | none => { s with coin := { s.coin with lastCredited := none } }).store = s.store := by
    split <;> simp [withdrawCoin]
  unfold strayPass
  simp only
  exact .trans (.of_eq withdrawn) (raise_spares _ _ _)

theorem escrowEntry_spares (s : State) : Spares s.store (escrowEntry s).store := by
  unfold escrowEntry
  split
  · exact .ite (.of_eq (by simp [confirmEscrow, postCredited])) (strayPass_spares s)
  · exact strayPass_spares s

theorem confirmCollect_spares (s : State) : Spares s.store (confirmCollect s).store := by
  unfold confirmCollect
  split
  · rename_i x _
    exact (bankCoin_spares x.channel x.value (releaseGate s)).trans (.of_eq (by simp [collected]))
  · exact .refl _

theorem confirmOverflow_spares (f : Flight) (s : State) : Spares s.store (confirmOverflow f s).store :=
  (bankCoin_spares f.channel f.value { s with
    coin := { s.coin with flight := none, flightLoss := 0 }, account := creditBox f.value s.account }).trans
    (.of_eq (by simp [confirmOverflow, postCredited]))

theorem boxEntry_spares (s : State) : Spares s.store (boxEntry s).store := by
  unfold boxEntry
  split
  · exact .ite (confirmCollect_spares s) (confirmOverflow_spares _ s)
  · exact confirmCollect_spares s
  · exact confirmOverflow_spares _ s
  · exact .refl _

theorem returnChute_store (s : State) : (returnChute s).store = s.store := by
  have refunds : (confirmRefund s).store = s.store := by
    unfold confirmRefund
    split <;> simp [refunded]
  have counts (r : Recovery) : (countFlushed r s).store = s.store := by
    unfold countFlushed
    split <;> simp
  unfold returnChute
  split
  · split <;> [exact refunds; rfl]
  · simp [endGateTest]
  · split <;> [exact counts _; rfl]
  · rfl

theorem endGateTest_store (n : Nat) (s : State) : (endGateTest n s).store = s.store := by
  simp [endGateTest]

theorem recordReject_spares (s : State) : Spares s.store (recordReject s).store := by
  unfold recordReject
  exact .ite (raise_spares _ _ { s with coin := { s.coin with rejects := [] } }) (.refl _)

theorem flightWindowEnds_spares (s : State) : Spares s.store (flightWindowEnds s).store := by
  unfold flightWindowEnds
  exact .ite (.refl _) ((loseFlight_spares { s with coin := { s.coin with flight := none } }).trans (.of_eq (by simp)))

theorem takeGateWork_store (s : State) : (takeGateWork s).store = s.store := by
  unfold takeGateWork noEscrowCoin
  simp only
  repeat' split
  all_goals simp

theorem countRefundRun_spares (s : State) : Spares s.store (countRefundRun s).store := by
  unfold countRefundRun
  exact .ite (.refl _) (raise_spares _ _ { s with coin := { s.coin with refundRun := 0 } })

theorem jamCollect_spares (s : State) : Spares s.store (jamCollect s).store := by
  unfold jamCollect
  simp only
  split
  · exact .trans (.of_eq (by simp [collectedUnconfirmed])) (raise_spares _ _ _)
  · exact .trans (.of_eq (by simp)) (raise_spares _ _ _)

theorem loseRefund_spares (s : State) : Spares s.store (loseRefund s).store := by
  unfold loseRefund
  split
  · exact .trans (.of_eq (by simp [refundedUnconfirmed])) (countRefundRun_spares _)
  · exact .trans (.of_eq (by simp)) (countRefundRun_spares _)

theorem gateWindow_spares (s : State) : Spares s.store (match s.coin.gateOp with
    | some g => gateWindowEnds g s
    | none => s).store := by
  split
  · unfold gateWindowEnds
    split
    · exact .refl _
    split
    · exact jamCollect_spares s
    · exact loseRefund_spares s
    · exact .refl _
  · exact .refl _

theorem openCollection_spares (code : Digits) (s : State) : Spares s.store (openCollection code s).1.store := by
  unfold openCollection compareCode
  split
  · exact .refl _
  split
  · exact .refl _
  split
  · exact .of_eq (by rw [openWindow_eq])
  split
  · exact .refl _
  · exact raise_spares _ _ { s with coin := { s.coin with
      wrongCodes := 0, lockoutUntil := some (s.now + Config.collectionLockout) } }

theorem closeCollection_spares (s : State) : Spares s.store (closeCollection s).1.store := by
  unfold closeCollection
  split
  · exact .refl _
  refine (settleWaiting_spares s).trans ?_
  simp only
  split
  · exact .refl _
  · rename_i u p hp
    exact (postRecord_spares hp).trans
      (autoClear_spares _ { u with coin := { u.coin with tally := {}, nearPosted := false, windowUntil := none } })

theorem testGate_store (s : State) : (testGate s).1.store = s.store := by
  unfold testGate
  repeat' split
  all_goals rfl

/-! ### Setups and settings (R2, R15, R19, R48, R53, R71, R135, R136, R150) -/

theorem writeCoin_store (k v : Nat) (s : State) : (writeCoin k v s).1.store = s.store := by
  unfold writeCoin
  repeat' split
  all_goals rfl

theorem writeCapacity_spares (n : Nat) (s : State) : Spares s.store (writeCapacity n s).1.store := by
  unfold writeCapacity
  split
  · exact .refl _
  · exact nearFull_spares _ { s with cfg := { s.cfg with capacity := n } }

theorem writeCode_store (code : Digits) (s : State) : (writeCode code s).1.store = s.store := by
  unfold writeCode
  split <;> rfl

theorem writePlan_store (entry : Nat) (f : PlanFields) (s : State) : (writePlan entry f s).1.store = s.store := by
  unfold writePlan
  repeat' split
  all_goals rfl

theorem writeInterDigit_store (n : Nat) (s : State) : (writeInterDigit n s).1.store = s.store := by
  unfold writeInterDigit
  split <;> rfl

theorem writeRing_store (n : Nat) (s : State) : (writeRing n s).1.store = s.store := by
  unfold writeRing
  split <;> rfl

@[simp] theorem weigh_store (s : State) : (weigh s).store = s.store := (weigh_weighed s).store

theorem writeSourceSetup_store (i : Nat) (v : Option Severity) (m : Option Bool) (e : Option Effect) (s : State) :
    (writeSourceSetup i v m e s).1.store = s.store := by
  unfold writeSourceSetup
  repeat' split
  all_goals simp

theorem writeSensorSetup_store (i : Nat) (mode : Option SensorMode) (threshold window : Nat) (s : State) :
    (writeSensorSetup i mode threshold window s).1.store = s.store := by
  unfold writeSensorSetup
  repeat' split
  all_goals simp

theorem writeThreshold_store (x : Option Severity) (s : State) : (writeThreshold x s).1.store = s.store := by
  unfold writeThreshold
  split <;> simp

theorem writePriority_store (m : Option PriorityMode) (s : State) : (writePriority m s).1.store = s.store := by
  unfold writePriority
  split <;> simp

theorem writePrimary_store (n : Digits) (s : State) : (writePrimary n s).1.store = s.store := by
  unfold writePrimary
  split <;> simp

theorem writeFallback_store (n : Digits) (s : State) : (writeFallback n s).1.store = s.store := by
  unfold writeFallback
  split <;> simp

/-! ### The alarms (R132, R143, R163, R164) -/

theorem clearAlarm_spares (p : Port) (i : Nat) (s : State) : Spares s.store (clearAlarm p i s).1.store := by
  have cleared (u : State) : Spares u.store (clearByHand p i u).1.store := by
    unfold clearByHand
    split
    · exact .refl _
    · exact .refl _
    · exact clearSource_spares _ _ u
    · exact clearSource_spares _ _ u
  unfold clearAlarm
  repeat' split
  case isFalse.isFalse.isFalse.isFalse => exact (settleWaiting_spares s).trans (cleared _)
  all_goals exact .refl _

theorem ackSources_spares (l : List Nat) (s : State) : Spares s.store (ackSources l s).1.store := by
  induction l generalizing s with
  | nil => exact .refl _
  | cons i rest ih =>
    unfold ackSources
    split
    · exact ih s
    · rename_i t h
      exact (moveSource_spares h).trans ((postReportedMark_spares _ _).trans (ih _))

theorem ackAlarms_spares (l : List Nat) (s : State) : Spares s.store (ackAlarms l s).1.store := by
  unfold ackAlarms
  split
  · exact .refl _
  · exact (ackSources_spares _ s).trans (weigh_spares _)

theorem sensorEdge_spares (i : Nat) (high : Bool) (s : State) : Spares s.store (sensorEdge i high s).store := by
  unfold sensorEdge
  exact .ite (.refl _) (.ite (.refl _) (.ite (raise_spares i .sensor (setSensor i _ s)) (.refl _)))

theorem backoffEnds_store (s : State) : (backoffEnds s).store = s.store := by
  unfold backoffEnds
  split <;> simp

/-! ### The tariff unit (R89 to R102) -/

theorem writeTariff_store (cls band : Nat) (e : Option TariffFields) (s : State) :
    (writeTariff cls band e s).1.store = s.store := by
  unfold writeTariff cancelSchedule
  repeat' split
  all_goals simp

theorem activate_spares (c : ActivationCause) (s : State) : Spares s.store (activate c s).store := by
  unfold activate
  simp only [postNotice_store]
  exact (postCommit_spares { s with
    cfg := { s.cfg with
      bank := copyBank s.cfg.bank s.tariff.pendingBank
      generation := if 65535 ≤ s.cfg.generation then 0 else s.cfg.generation + 1 }
    tariff := { s.tariff with schedule := .none } } :)

theorem activateTariff_spares (time : Option DateTime) (s : State) : Spares s.store (activateTariff time s).1.store := by
  have scheduled (t : DateTime) : Spares s.store (scheduleActivation t s).1.store := by
    unfold scheduleActivation
    split
    · exact activate_spares _ s
    · exact .refl _
  unfold activateTariff
  split
  · split
    · exact .refl _
    · exact activate_spares _ s
  · split
    · exact .refl _
    split
    · exact .refl _
    · exact scheduled _

theorem setClock_spares (x : DateTime) (s : State) : Spares s.store (setClock x s).1.store := by
  unfold setClock compareSchedule
  split
  · exact .refl _
  simp only
  split
  · exact .refl _
  · exact .ite (activate_spares _ { s with tariff := { s.tariff with clock := some ⟨x, 0⟩ } }) (.refl _)

theorem writeDayType_store (d : Option DayType) (points : List (Nat × Nat)) (s : State) :
    (writeDayType d points s).1.store = s.store := by
  unfold writeDayType
  repeat' split
  all_goals rfl

theorem writeHoliday_store (slot : Nat) (d : Option Date) (s : State) : (writeHoliday slot d s).1.store = s.store := by
  unfold writeHoliday
  repeat' split
  all_goals rfl

theorem clockEnds_store (s : State) : (clockEnds s).store = s.store := by
  unfold clockEnds
  split <;> simp

theorem scheduledActivation_spares (s : State) : Spares s.store (match s.tariff.schedule with
    | .scheduled _ => activate .scheduled s
    | .none => s
    | .waitingClock _ => s).store := by
  split
  · exact activate_spares _ s
  · exact .refl _
  · exact .refl _

/-! ### Requests and events at the ports (R200 to R211) -/

/-- The erase in flight may change its phase; the laws of the identity read its sector. -/
theorem erasePhase_spares (f : EraseJob → EraseJob) (hf : ∀ j, (f j).sector = j.sector) (st : Store) :
    Spares st { st with erase := st.erase.map f } := by
  refine ⟨rfl, fun _ => rfl, fun _ hu => ?_⟩
  obtain ⟨hqueue, hreserved, hprogram, herase, hrest⟩ := hu
  refine ⟨hqueue, hreserved, hprogram, ?_, hrest⟩
  show (st.erase.map f).all (fun j => j.sector != 0) = true
  cases he : st.erase with
  | none => rfl
  | some j => simpa [he, hf] using herase

theorem resumeErase_spares (st : Store) : Spares st (resumeErase st) := by
  unfold resumeErase
  split
  · exact .refl _
  · exact erasePhase_spares _ (fun j => by split <;> rfl) st

theorem takeFrame_spares (p : Port) (s : State) : Spares s.store (takeFrame p s).store := by
  unfold takeFrame
  refine .ite (.trans (st' := { s.store with read := none }) (.of_view rfl) (resumeErase_spares _)) (.refl _)

theorem takeRequest_spares (q : Request) (p : Port) {owner : State → State × Reply}
    (ho : ∀ s, Spares s.store (owner s).1.store) (s : State) : Spares s.store (takeRequest q p owner s).store := by
  have taken := takeFrame_spares p s
  unfold takeRequest
  exact .ite (.refl _) (.ite taken (.ite taken (taken.trans (ho _))))

theorem whenAwake_spares {f : State → State} (hf : ∀ s, Spares s.store (f s).store) (s : State) :
    Spares s.store (whenAwake f s).store := by
  unfold whenAwake
  exact .ite (hf s) (.refl _)

theorem frameEnds_spares (p : Port) (bytes : List Byte) (s : State) : Spares s.store (frameEnds p bytes s).store := by
  unfold frameEnds
  split
  · exact .refl _
  split
  · exact .refl _
  · exact takeFrame_spares p s

theorem setNoticeMask_store (p : Port) (m : Nat) (s : State) : (setNoticeMask p m s).1.store = s.store := by
  unfold setNoticeMask
  split <;> rfl

/-! ### The store's requests (R170, R176, R177, R181 to R183) -/

theorem afterRead_spares (st : Store) : Spares st (afterRead st) :=
  .trans (st' := { st with read := none }) (.of_view rfl) (erasePhase_spares _ (fun j => by split <;> rfl) _)

theorem readRecords_spares (r : Option Ring) (offset count : Nat) (s : State) :
    Spares s.store (readRecords r offset count s).1.store := by
  unfold readRecords
  split
  · exact .refl _
  split
  · exact .refl _
  split
  · exact afterRead_spares s.store
  · exact .of_view rfl

theorem readReady_spares (s : State) : Spares s.store (readReady s).store := by
  unfold readReady
  split
  · exact .refl _
  · exact .ite (afterRead_spares s.store) (.refl _)

theorem ackRecords_spares (r : Option Ring) (count : Nat) (s : State) : Spares s.store (ackRecords r count s).1.store := by
  unfold ackRecords
  split
  · exact .refl _
  split
  · exact .refl _
  split
  · exact .refl _
  refine (settleWaiting_spares s).trans ?_
  simp only
  split
  · exact .refl _
  · rename_i st hst
    obtain ⟨st1, he, rfl⟩ := Option.map_eq_some_iff.1 hst
    exact (enqueue_spares (op := .mark _ .acknowledged) (fun _ => rfl) he).trans
      (setRing_spares _ fun hu => untouched_ring_sector hu _)

theorem commitConfig_spares (s : State) : Spares s.store (commitConfig s).1.store := by
  unfold commitConfig
  split <;> exact postCommit_spares s

/-- An identity that is LOCKED takes no WRITE_IDENTITY (R183). -/
theorem writeIdentity_spares (terminal : Digits) (site : Nat) (s : State) :
    Spares s.store (writeIdentity terminal site s).1.store := by
  have waiting := settleWaiting_spares s
  unfold writeIdentity
  split
  · exact .refl _
  split
  · exact .refl _
  rename_i hl
  simp only
  split
  · exact ⟨waiting.array, fun h => absurd h (by simp_all), fun h => absurd h (by simp_all)⟩
  · exact waiting

/-- An identity that is LOCKED takes no LOCK_IDENTITY (R183). -/
theorem lockIdentity_spares (s : State) : Spares s.store (lockIdentity s).1.store := by
  have waiting := settleWaiting_spares s
  unfold lockIdentity
  split
  · exact .refl _
  rename_i hl
  simp only
  split
  · exact waiting
  · rename_i st he
    have array : st.array = s.store.array := (enqueue_array he).trans waiting.array
    exact ⟨array, fun h => absurd h (by simp_all), fun h => absurd h (by simp_all)⟩

/-! ### The supply (R188 to R190) -/

theorem reserved_spares {op : StoreOp} (hop : IdentityUntouched st → touchesIdentity op = false) :
    Spares st { st with reserved := some op } := by
  refine ⟨rfl, fun _ => rfl, fun _ hu => ?_⟩
  have harmless := hop hu
  obtain ⟨hqueue, -, hrest⟩ := hu
  exact ⟨hqueue, by simp [harmless], hrest⟩

theorem unreserved_spares (st : Store) : Spares st { st with reserved := none } := by
  refine ⟨rfl, fun _ => rfl, fun _ hu => ?_⟩
  obtain ⟨hqueue, -, hrest⟩ := hu
  exact ⟨hqueue, rfl, hrest⟩

theorem setNextSave_spares {x : Option (Place × SaveRecord)} (hx : ∀ y, x = some y → y.1.sector ≠ 0) (st : Store) :
    Spares st { st with nextSave := x } := by
  refine ⟨rfl, fun _ => rfl, fun _ hu => ?_⟩
  obtain ⟨hqueue, hreserved, hprogram, herase, -, hrest⟩ := hu
  refine ⟨hqueue, hreserved, hprogram, herase, ?_, hrest⟩
  show x.all (fun x => x.1.sector != 0) = true
  cases x with
  | none => rfl
  | some y => simpa using hx y rfl

theorem stopErase_spares (st : Store) : Spares st (stopErase st) := by
  refine ⟨rfl, fun _ => rfl, fun _ hu => ?_⟩
  obtain ⟨hqueue, hreserved, hprogram, herase, hrest⟩ := hu
  refine ⟨hqueue, hreserved, hprogram, ?_, hrest⟩
  unfold stopErase
  cases he : st.erase with
  | none => rfl
  | some j =>
    rw [he] at herase
    simp only
    split
    · rfl
    · exact herase

theorem placeSave_spares (r : SaveRecord) (st : Store) : Spares st (placeSave r st) := by
  unfold placeSave
  split
  · exact .refl _
  generalize hp : (⟨saveSector, st.saveNext, (headerSeq saveSector st.array.headers).getD 0⟩ : Place) = place
  have sector : place.sector ≠ 0 := by
    rw [← hp]
    exact (by decide : saveSector ≠ 0)
  simp only
  split
  · exact .trans (st' := { st with saveNext := st.saveNext + 1, currentSave := some place }) (.of_view rfl)
      (setNextSave_spares (fun y hy => Option.some.inj hy ▸ sector) _)
  · exact .trans (st' := { st with saveNext := st.saveNext + 1, currentSave := some place }) (.of_view rfl)
      (reserved_spares fun _ => touchesIdentity_record _ sector)

theorem withdrawSave_spares (st : Store) : Spares st (withdrawSave st) := by
  unfold withdrawSave
  simp only
  split
  · exact .of_view rfl
  split
  · exact .trans (st' := { st with saveNext := st.saveNext - 1, currentSave := none, saveOwed := true }) (.of_view rfl)
      (queueSave_spares _)
  · exact .of_view rfl

theorem settleSave_spares (st : Store) : Spares st (settleSave st) := by
  have marks (p : Place) : Spares st { st with reserved := some (.mark p .superseded), currentSave := none } :=
    .trans (st' := { st with currentSave := none }) (.of_view rfl) (reserved_spares fun _ => rfl)
  unfold settleSave
  split
  · exact (setNextSave_spares (fun _ hy => by cases hy) st).trans (withdrawSave_spares _)
  split
  · exact .refl _
  split
  · exact (unreserved_spares st).trans (withdrawSave_spares _)
  split
  · split
    · exact .of_view rfl
    · exact marks _
  · exact marks _

theorem warnFalls_spares (s : State) : Spares s.store (warnFalls s).store := by
  have hs : (setSupplyState .warn s).store = s.store := by simp [setSupplyState]
  have stopped (u : State) : Spares u.store (settleWaiting { u with store := stopErase u.store }).store :=
    (stopErase_spares u.store).trans (settleWaiting_spares { u with store := stopErase u.store })
  have warned := stopped (setSupplyState .warn s)
  rw [hs] at warned
  unfold warnFalls
  simp only [hs]
  exact .ite warned (warned.trans (placeSave_spares _ _))

theorem warnRises_spares (s : State) : Spares s.store (warnRises s).store := by
  have hs : (setSupplyState .normal s).store = s.store := by simp [setSupplyState]
  unfold warnRises
  simp only [hs]
  exact (settleSave_spares s.store).trans (erasePhase_spares _ (fun j => by split <;> rfl) _)

/-! ### Recovery (R191, R197, R198) -/

theorem requestRestart_spares (m : Option RestartMode) (s : State) : Spares s.store (requestRestart m s).1.store := by
  unfold requestRestart
  split
  · exact .refl _
  · exact .ite (.refl _) (.refl _)
  · exact .ite (.refl _) (endCallForRestart_spares (setRestart .now s))

theorem endResolution_spares (blocked : Bool) (r : Recovery) (s : State) :
    Spares s.store (endResolution blocked r s).store := by
  have flushed : Spares s.store (if r.cycles = 0 then s else raise srcSupply .recovery s).store :=
    .ite (.refl _) (raise_spares _ _ s)
  have stuck (u : State) : Spares u.store (if blocked then raise srcReturnBlocked .recovery u else u).store :=
    .ite (raise_spares _ _ u) (.refl _)
  have recorded (u : State) : Spares u.store
      (if recordDue r then postCallRing (.recovered (recoveredRecord r u)) u else u).store :=
    .ite (postCallRing_spares _ u) (.refl _)
  have marked (u : State) : Spares u.store (match r.save with
      | some (p, _) => postResolvedMark p u
      | none => u).store := by
    split
    · exact postResolvedMark_spares _ u
    · exact .refl _
  exact flushed.trans ((stuck _).trans ((recorded _).trans (marked _)))

theorem beginCycle_store (r : Recovery) (s : State) : (beginCycle r s).store = s.store := by
  unfold beginCycle
  split <;> rfl

theorem sensorCheck_spares (coins : Bool) (s : State) : Spares s.store (sensorCheck coins s).store := by
  unfold sensorCheck
  split
  · exact .refl _
  · exact .ite (.refl _) (.ite (.of_eq (beginCycle_store _ (setTube true s))) (endResolution_spares _ _ (setTube false s)))

theorem flushWindowEnds_spares (coins : Bool) (s : State) : Spares s.store (flushWindowEnds coins s).store := by
  unfold flushWindowEnds
  split
  · exact .refl _
  · exact .ite (.refl _) (.ite (endResolution_spares _ _ (setTube false s))
      (.ite (endResolution_spares _ _ (setTube true s)) (.of_eq (beginCycle_store _ (setTube true s)))))

theorem testSaveErase_spares (st : Store) : Spares st (testSaveErase st) := by
  unfold testSaveErase
  split
  · exact .of_view rfl
  · exact .refl _

theorem housekeeping_spares (s : State) : Spares s.store (housekeeping s).store := by
  unfold housekeeping
  split
  · exact .refl _
  · refine .ite ((testSaveErase_spares s.store).trans ?_) (.refl _)
    exact (settleWaiting_spares { s with store := testSaveErase s.store }).trans (.of_eq (by simp [endRecovery, watchHook]))

/-! ### Commands -/

/-- The commands that write the array: the engine's, and those that a reset begins with. -/
def writesArray : Instr → Bool
  | .storeOperationStart | .programDone | .markProgramDone | .eraseDone | .commitDone | .supplyReset | .powerOnReset _
  | .restartFallsDue _ | .supplyRisesPastFail _ => true
  | _ => false

/-- Every other command spares the array and a locked identity. -/
theorem exec_spares (c : Instr) (s : State) (hc : writesArray c = false) :
    ∃ t, exec c s = .next t ∧ Spares s.store t.store := by
  have takes {q : Request} {p : Port} {owner : State → State × Reply} (ho : ∀ s, Spares s.store (owner s).1.store) :
      Spares s.store (takeRequest q p owner s).store := takeRequest_spares q p ho s
  have leaves {q : Request} {p : Port} {owner : State → State × Reply} (ho : ∀ s, (owner s).1.store = s.store) :
      Spares s.store (takeRequest q p owner s).store := takeRequest_spares q p (fun s => .of_eq (ho s)) s
  have acts {f : State → State} (hf : ∀ s, Spares s.store (f s).store) : Spares s.store (whenAwake f s).store :=
    whenAwake_spares hf s
  cases c with
  | readAccount | readCall | readStatus | readClock | readAlarmsSensor | readIdentity | readTally | fetchNotices =>
    exact ⟨_, rfl, leaves fun _ => rfl⟩
  | readPlan p entry => exact ⟨_, rfl, leaves fun s => congrArg _ (readPlan_state entry s)⟩
  | readTariff p b cls band => exact ⟨_, rfl, leaves fun s => congrArg _ (readTariff_state b cls band s)⟩
  | readAlarmsSource p first count => exact ⟨_, rfl, leaves fun s => congrArg _ (readSources_state first count s)⟩
  | keyDigit | keyCancel | keyFollowOn => exact ⟨_, rfl, leaves (keyPressed_store _)⟩
  | setNoticeMask p mask => exact ⟨_, rfl, leaves (setNoticeMask_store p mask)⟩
  | fetchOrder p part => exact ⟨_, rfl, leaves (fetchOrder_store part)⟩
  | orderDone p kind number outcome => exact ⟨_, rfl, takes (orderDone_spares kind number outcome)⟩
  | answer => exact ⟨_, rfl, takes (callEvent_spares isAlerting answerCall_store)⟩
  | busy => exact ⟨_, rfl, takes (callEvent_spares isAlerting (enterClearing_store _))⟩
  | farClear => exact ⟨_, rfl, takes (callEvent_spares answered (enterClearing_store _))⟩
  | meterPulse => exact ⟨_, rfl, takes (callEvent_spares answered meterPulse_store)⟩
  | lineLost => exact ⟨_, rfl, takes lineLost_spares⟩
  | lineRestored => exact ⟨_, rfl, takes fun s => (settleWaiting_spares s).trans (autoClear_spares _ _)⟩
  | claimCentre => exact ⟨_, rfl, leaves claimCentre_store⟩
  | endCentre => exact ⟨_, rfl, leaves endCentre_store⟩
  | setClock p time => exact ⟨_, rfl, takes (setClock_spares time)⟩
  | writeCalendarDayType p day points => exact ⟨_, rfl, leaves (writeDayType_store day points)⟩
  | writeCalendarHoliday p slot date => exact ⟨_, rfl, leaves (writeHoliday_store slot date)⟩
  | writeTariff p cls band e => exact ⟨_, rfl, leaves (writeTariff_store cls band e)⟩
  | activateTariff p time => exact ⟨_, rfl, takes (activateTariff_spares time)⟩
  | writePlan p entry f => exact ⟨_, rfl, leaves (writePlan_store entry f)⟩
  | writeCoin p k v => exact ⟨_, rfl, leaves (writeCoin_store k v)⟩
  | writeAlarmSetupSource p i v m e => exact ⟨_, rfl, leaves (writeSourceSetup_store i v m e)⟩
  | writeAlarmSetupSensor p i mode threshold window =>
    exact ⟨_, rfl, leaves (writeSensorSetup_store i mode threshold window)⟩
  | writeSettingInterDigit p n => exact ⟨_, rfl, leaves (writeInterDigit_store n)⟩
  | writeSettingRing p n => exact ⟨_, rfl, leaves (writeRing_store n)⟩
  | writeSettingBoxCapacity p n => exact ⟨_, rfl, takes (writeCapacity_spares n)⟩
  | writeSettingCollectionCode p code => exact ⟨_, rfl, leaves (writeCode_store code)⟩
  | writeSettingReportThreshold p x => exact ⟨_, rfl, leaves (writeThreshold_store x)⟩
  | writeSettingPriorityMode p m => exact ⟨_, rfl, leaves (writePriority_store m)⟩
  | writeSettingPrimaryCentre p n => exact ⟨_, rfl, leaves (writePrimary_store n)⟩
  | writeSettingFallbackCentre p n => exact ⟨_, rfl, leaves (writeFallback_store n)⟩
  | commitConfig => exact ⟨_, rfl, takes commitConfig_spares⟩
  | readRecords p r offset count => exact ⟨_, rfl, takes (readRecords_spares r offset count)⟩
  | ackRecords p r count => exact ⟨_, rfl, takes (ackRecords_spares r count)⟩
  | ackAlarms p l => exact ⟨_, rfl, takes (ackAlarms_spares l)⟩
  | clearAlarm p i => exact ⟨_, rfl, takes (clearAlarm_spares p i)⟩
  | writeIdentity p terminal site => exact ⟨_, rfl, takes (writeIdentity_spares terminal site)⟩
  | lockIdentity => exact ⟨_, rfl, takes lockIdentity_spares⟩
  | restart p mode => exact ⟨_, rfl, takes (requestRestart_spares mode)⟩
  | openCollection p code => exact ⟨_, rfl, takes (openCollection_spares code)⟩
  | closeCollection => exact ⟨_, rfl, takes closeCollection_spares⟩
  | testGate => exact ⟨_, rfl, leaves testGate_store⟩
  | requestFrameError p bytes => exact ⟨_, rfl, frameEnds_spares p bytes s⟩
  | readSelectPeriod p clocked => exact ⟨_, rfl, .ite (.refl _) (.refl _)⟩
  | acceptPulse k => exact ⟨_, rfl, acts (acceptPulse_spares k)⟩
  | escrowEntryEvent => exact ⟨_, rfl, acts escrowEntry_spares⟩
  | boxEntryEvent => exact ⟨_, rfl, acts boxEntry_spares⟩
  | returnChuteEvent => exact ⟨_, rfl, acts fun s => .of_eq (returnChute_store s)⟩
  | rejectPulse => exact ⟨_, rfl, acts recordReject_spares⟩
  | flightWindowExpiry => exact ⟨_, rfl, acts flightWindowEnds_spares⟩
  | gateOperationStart => exact ⟨_, rfl, acts fun s => .ite (.of_eq (takeGateWork_store s)) (.refl _)⟩
  | gateWindowExpiry => exact ⟨_, rfl, acts gateWindow_spares⟩
  | gateTestWindowExpiry => exact ⟨_, rfl, acts fun s => .ite (.of_eq (endGateTest_store 1 s)) (.refl _)⟩
  | collectionWindowExpiry | collectionLockoutExpiry => exact ⟨_, rfl, acts fun s => .refl s.store⟩
  | carryCompletes => exact ⟨_, rfl, acts fun s => .ite (carryCompletes_spares s) (.refl _)⟩
  | settlementEnds => exact ⟨_, rfl, acts settlementEnds_spares⟩
  | offHook => exact ⟨_, rfl, .of_eq (offHook_store s)⟩
  | onHook => exact ⟨_, rfl, onHook_spares s⟩
  | debouncedChangeToOnHook => exact ⟨_, rfl, .of_eq (hookFalls_store s)⟩
  | firstDigitTimerExpiry => exact ⟨_, rfl, acts fun s => .ite (.of_eq (refuseNumber_store _ s)) (.refl _)⟩
  | interDigitTimerExpiry => exact ⟨_, rfl, acts fun s => .ite (.of_eq (interDigitEnds_store s)) (.refl _)⟩
  | depositTimerExpiry => exact ⟨_, rfl, acts fun s => .ite (.of_eq (refuseCall_store _ s)) (.refl _)⟩
  | lineWaitTimerExpiry =>
    exact ⟨_, rfl, acts fun s => .ite (.of_eq (refuseCall_store _ (withdrawCustomerClaim s))) (.refl _)⟩
  | ringTimerExpiry => exact ⟨_, rfl, acts fun s => .ite (.of_eq (enterClearing_store _ s)) (.refl _)⟩
  | followOnTimerExpiry => exact ⟨_, rfl, acts fun s => .ite (.of_eq (stopCallTimer_store s)) (.refl _)⟩
  | stepFallsDue => exact ⟨_, rfl, acts fun s => .ite (.of_eq (stepDue_store _ s)) (.refl _)⟩
  | warningPoint => exact ⟨_, rfl, acts fun s => .ite (.of_eq (warningPoint_store s)) (.refl _)⟩
  | scheduledActivationDue => exact ⟨_, rfl, acts scheduledActivation_spares⟩
  | clockBecomesUnset => exact ⟨_, rfl, acts fun s => .of_eq (clockEnds_store s)⟩
  | orderLimitExpiry => exact ⟨_, rfl, acts orderLimitEnds_spares⟩
  | centreSessionExpiry => exact ⟨_, rfl, acts fun s => .of_eq (centreSessionEnds_store s)⟩
  | sensorEdge i high => exact ⟨_, rfl, acts (sensorEdge_spares i high)⟩
  | backoffExpiry => exact ⟨_, rfl, acts fun s => .of_eq (backoffEnds_store s)⟩
  | eraseSliceEnd => exact ⟨_, rfl, acts fun s => erasePhase_spares _ (fun j => by split <;> rfl) s.store⟩
  | readRecordsReady => exact ⟨_, rfl, acts readReady_spares⟩
  | owedEraseQueued r =>
    exact ⟨_, rfl, acts fun s => .ite ((queueRingErase_spares r s).trans (freedPlace_spares _)) (.refl _)⟩
  | overflowRecord => exact ⟨_, rfl, acts fun s => .ite (postOverflow_spares s) (.refl _)⟩
  | warnFalling => exact ⟨_, rfl, acts fun s => .ite (warnFalls_spares s) (.refl _)⟩
  | warnRising => exact ⟨_, rfl, acts fun s => .ite (warnRises_spares s) (.refl _)⟩
  | sensorCheck coins => exact ⟨_, rfl, acts (sensorCheck_spares coins)⟩
  | flushWindowExpiry coins => exact ⟨_, rfl, acts (flushWindowEnds_spares coins)⟩
  | saveSectorHousekeeping => exact ⟨_, rfl, acts housekeeping_spares⟩
  | storeOperationStart | programDone | markProgramDone | eraseDone | commitDone | supplyReset | powerOnReset
  | restartFallsDue | supplyRisesPastFail => cases hc

end Sys2Proof.Proofs
end

section
/-! PROOFS. What sector 0 says of the identity depends on the records and lock marks of its places alone (O8). -/

namespace Sys2Proof.Proofs

open Sys2Proof Sys2Proof.Machine Sys2Proof.Laws

/-! ### The scan of sector 0 reads three things of a place -/

/-- What the scan of sector 0 reads of a place: its key, its record, and whether it bears the lock mark. -/
def seen (kc : Nat × Cell) : Nat × Option Record × Bool := (kc.1, kc.2.record, kc.2.marks.contains .lock)

def isInSectorZero (x : Nat × Option Record × Bool) : Bool := x.1 / 128 == 0

def isValidSeen (x : Nat × Option Record × Bool) : Bool := isInSectorZero x && x.2.1.isSome

def isLockedSeen (x : Nat × Option Record × Bool) : Bool := isValidSeen x && x.2.2

/-- The last of the seen places that passes the test. -/
def lastSeen (q : Nat × Option Record × Bool → Bool) (l : List (Nat × Cell)) : Option (Nat × Option Record × Bool) :=
  ((l.map seen).filter q).getLast?

/-- What the scan makes of the chosen place and of the last one. -/
def identityOf (chosen last : Option (Nat × Option Record × Bool)) : Identity :=
  let next := (last.map (fun x => x.1 % 128 + 1)).getD 0
  match chosen with
  | some (k, some (.identity t site), locked) =>
    { terminal := t, site := site, lock := if locked then .locked else .unlocked, newest := some (k % 128), next := next }
  | _ => { next := next }

theorem getLast?_sectorCells (q : Nat × Cell → Bool) (p : Nat × Option Record × Bool → Bool)
    (h : ∀ kc, (kc.1 / 128 == 0 && q (kc.1 % 128, kc.2)) = p (seen kc)) (l : List (Nat × Cell)) :
    ((sectorCells 0 l).filter q).getLast? = ((l.filter (fun kc => p (seen kc))).getLast?).map (fun kc => (kc.1 % 128, kc.2)) := by
  unfold sectorCells
  rw [List.filter_map, List.filter_filter, List.getLast?_map]
  congr 3
  funext kc
  rw [← h kc, Bool.and_comm]
  rfl

theorem lastSeen_eq (q : Nat × Option Record × Bool → Bool) (l : List (Nat × Cell)) :
    lastSeen q l = ((l.filter (fun kc => q (seen kc))).getLast?).map seen := by
  rw [lastSeen, List.filter_map, List.getLast?_map]
  rfl

theorem placesUsed_zero (l : List (Nat × Cell)) :
    placesUsed 0 l = ((lastSeen isInSectorZero l).map (fun x => x.1 % 128 + 1)).getD 0 := by
  have last := getLast?_sectorCells (fun _ => true) isInSectorZero (fun kc => by simp [isInSectorZero, seen]) l
  rw [List.filter_true] at last
  rw [placesUsed, last, lastSeen_eq, Option.map_map, Option.map_map]
  rfl

theorem scanIdentity_eq (a : NvArray) : scanIdentity a =
    identityOf ((lastSeen isLockedSeen a.cells).or (lastSeen isValidSeen a.cells)) (lastSeen isInSectorZero a.cells) := by
  have locked := getLast?_sectorCells (fun nc => nc.2.marks.contains .lock && nc.2.record.isSome) isLockedSeen
    (fun kc => by simp [isLockedSeen, isValidSeen, isInSectorZero, seen, Bool.and_comm, Bool.and_left_comm]) a.cells
  have valid := getLast?_sectorCells (fun nc => nc.2.record.isSome) isValidSeen
    (fun kc => by simp [isValidSeen, isInSectorZero, seen]) a.cells
  unfold scanIdentity
  simp only [List.filter_filter, locked, valid, placesUsed_zero]
  rw [lastSeen_eq isLockedSeen, lastSeen_eq isValidSeen]
  generalize (a.cells.filter (fun kc => isLockedSeen (seen kc))).getLast? = x
  generalize (a.cells.filter (fun kc => isValidSeen (seen kc))).getLast? = y
  rcases x with _ | ⟨k, _ | r, marks⟩
  · rcases y with _ | ⟨k, _ | r, marks⟩
    · rfl
    · rfl
    · cases r <;> rfl
  · rfl
  · cases r <;> rfl

/-! ### A copy ahead of the original changes nothing that is read last -/

theorem getLast?_filter_insert {α : Type} (q : α → Bool) {x : α} (a : List α) {b : List α} (h : x ∈ b) :
    ((a ++ x :: b).filter q).getLast? = ((a ++ b).filter q).getLast? := by
  rw [List.filter_append, List.filter_append, List.getLast?_append, List.getLast?_append, List.filter_cons]
  split
  · rename_i hq
    have kept : b.filter q ≠ [] := List.ne_nil_of_mem (List.mem_filter.2 ⟨h, hq⟩)
    rw [List.getLast?_cons_of_ne_nil kept]
  · rfl

/-- Rewriting a place, seen as before, leaves what is seen in place, or, in a list out of order, puts a copy ahead of it. -/
theorem seen_writeCell {key : Nat} {l : List (Nat × Cell)} {c v : Cell} (hread : readCell key l = some c)
    (hv : seen (key, v) = seen (key, c)) : (writeCell key v l).map seen = l.map seen
      ∨ ∃ a b, l.map seen = a ++ b ∧ seen (key, c) ∈ b ∧ (writeCell key v l).map seen = a ++ seen (key, c) :: b := by
  induction l with
  | nil => cases hread
  | cons y rest ih =>
    obtain ⟨k, d⟩ := y
    have mem := List.mem_map_of_mem (f := seen) (readCell_mem hread)
    simp only [writeCell]
    split
    · exact .inr ⟨[], _, rfl, mem, by rw [List.map_cons, hv]; rfl⟩
    split
    · rename_i hk
      subst hk
      obtain rfl : d = c := by simpa [readCell] using hread
      exact .inl (by rw [List.map_cons, hv, List.map_cons])
    · rename_i hk
      rcases ih (by simpa [readCell, Ne.symm hk] using hread) with h | ⟨a, b, hl, hmem, hw⟩
      · exact .inl (by rw [List.map_cons, h, List.map_cons])
      · exact .inr ⟨seen (k, d) :: a, b, by rw [List.map_cons, hl]; rfl, hmem, by rw [List.map_cons, hw]; rfl⟩

theorem lastSeen_writeCell {key : Nat} {l : List (Nat × Cell)} {c v : Cell} (hread : readCell key l = some c)
    (hv : seen (key, v) = seen (key, c)) (q : Nat × Option Record × Bool → Bool) :
    lastSeen q (writeCell key v l) = lastSeen q l := by
  unfold lastSeen
  rcases seen_writeCell hread hv with h | ⟨a, b, hl, hmem, hw⟩
  · rw [h]
  · rw [hw, hl, getLast?_filter_insert q a hmem]

/-- A mark other than the lock mark leaves what sector 0 says. -/
theorem scanIdentity_programMark {key : Nat} {m : MarkKind} (hm : m ≠ .lock) (a : NvArray) :
    scanIdentity (programMark key m a) = scanIdentity a := by
  unfold programMark
  split
  · rfl
  rename_i c hread
  split
  · rfl
  have unseen : seen (key, { c with marks := c.marks ++ [m] }) = seen (key, c) := by
    simp [seen, hm.symm]
  rw [scanIdentity_eq, scanIdentity_eq]
  simp only [lastSeen_writeCell hread unseen]

/-! ### Other sectors are not read -/

theorem scanIdentity_congr {a b : NvArray} (h : sectorCells 0 a.cells = sectorCells 0 b.cells) :
    scanIdentity a = scanIdentity b := by
  unfold scanIdentity placesUsed
  rw [h]

theorem sectorCells_eraseCells {sector : Nat} (h : sector ≠ 0) (l : List (Nat × Cell)) :
    sectorCells 0 (eraseCells sector l) = sectorCells 0 l := by
  unfold sectorCells eraseCells
  rw [List.filter_filter]
  congr 2
  funext kc
  grind

theorem sectorCells_writeCell {key : Nat} (h : key / 128 ≠ 0) (v : Cell) (l : List (Nat × Cell)) :
    sectorCells 0 (writeCell key v l) = sectorCells 0 l := by
  induction l with
  | nil => simp [writeCell, sectorCells, h]
  | cons y rest ih =>
    obtain ⟨k, c⟩ := y
    simp only [writeCell]
    unfold sectorCells at ih ⊢
    split
    · simp [h]
    split
    · rename_i hk
      simp [← hk, h]
    · simp only [List.filter_cons]
      split
      · simpa using ih
      · exact ih

theorem placeKey_sector {sector : Nat} (h : sector ≠ 0) (number : Nat) : placeKey sector number / 128 ≠ 0 := by
  unfold placeKey
  omega

theorem scanIdentity_programBlank {sector : Nat} (h : sector ≠ 0) (number : Nat) (v : Cell) (a : NvArray) :
    scanIdentity (programBlank (placeKey sector number) v a) = scanIdentity a := by
  unfold programBlank
  split
  · rfl
  · exact scanIdentity_congr (sectorCells_writeCell (placeKey_sector h number) v a.cells)

end Sys2Proof.Proofs
end

section
/-! PROOFS. What a property of the store takes to survive the engine, and every command but a reset (O4, O8). -/

namespace Sys2Proof.Proofs

open Sys2Proof Sys2Proof.Machine Sys2Proof.Laws

variable {s t : State} {st st' : Store} {P : Store → Prop}

/-! ### What the engine does beside writing the array -/

theorem endProgram_spares (st : Store) : Spares st (endProgram st) := by
  refine .trans (st' := { st with program := none }) ⟨rfl, fun _ => rfl, fun _ hu => ?_⟩ (resumeErase_spares _)
  obtain ⟨hqueue, hreserved, -, hrest⟩ := hu
  exact ⟨hqueue, hreserved, rfl, hrest⟩

theorem supersedeEnded_spares (p : Place) (st : Store) : Spares st (supersedeEnded p st) := by
  unfold supersedeEnded
  split
  · exact .trans (st' := { st with supersedeAfter := none }) (.of_view rfl)
      (reserved_spares (op := .mark p .superseded) fun _ => rfl)
  · exact .refl _

theorem placeWaitingSave_spares (st : Store) : Spares st (placeWaitingSave st) := by
  unfold placeWaitingSave
  split
  · rename_i p r hn
    refine ⟨rfl, fun _ => rfl, fun _ hu => ?_⟩
    obtain ⟨hqueue, -, hprogram, herase, hnext, hrings⟩ := hu
    rw [hn] at hnext
    have sector : p.sector ≠ 0 := by simpa using hnext
    exact ⟨hqueue, by simp [touchesIdentity_record _ sector], hprogram, herase, rfl, hrings⟩
  · exact .refl _

/-- A lock mark on a LOCKED identity changes nothing of it. -/
theorem identityLocked_spares (s : State) : Spares s.store (identityLocked s).store := by
  have locked : (identityLocked s).store =
      { s.store with identity := { s.store.identity with lock := .locked } } := by
    simp [identityLocked]
  rw [locked]
  exact ⟨rfl, fun hl => by simp [← hl], fun _ => id⟩

theorem afterMark_spares (k : MarkKind) (s : State) : Spares s.store (afterMark k s).store := by
  cases k with
  | lock => exact identityLocked_spares s
  | superseded => exact (placeWaitingSave_spares _).trans (testSaveErase_spares _)
  | acknowledged | reported | resolved => exact .refl _

theorem ended_spares (st : Store) : Spares st { st with erase := none } := by
  refine ⟨rfl, fun _ => rfl, fun _ hu => ?_⟩
  obtain ⟨hqueue, hreserved, hprogram, -, hrest⟩ := hu
  exact ⟨hqueue, hreserved, hprogram, rfl, hrest⟩

theorem suspended_spares {j : EraseJob} (h : st.erase = some j) (x : ErasePhase) :
    Spares st { st with erase := some { j with phase := x } } := by
  refine ⟨rfl, fun _ => rfl, fun _ hu => ?_⟩
  obtain ⟨hqueue, hreserved, hprogram, herase, hrest⟩ := hu
  rw [h] at herase
  exact ⟨hqueue, hreserved, hprogram, herase, hrest⟩

/-! ### A property that survives the engine -/

/-- A property of the store that whatever spares the array and the identity keeps, and that the engine's writings keep: the
beginning of an operation, the end of a program, of a mark's program, of an erase, of a COMMIT's erase and of its copy. -/
structure EngineKeeps (P : Store → Prop) : Prop where
  spares : ∀ {st st'}, Spares st st' → P st → P st'
  reserved : ∀ {st op}, st.reserved = some op → P st → P (beginOp op true { st with reserved := none })
  queued : ∀ {st ahead op behind}, st.queue = ahead ++ op :: behind → P st →
    P (beginOp op false { st with queue := ahead ++ behind })
  record : ∀ {st p r b}, st.program = some { op := .record p r, reserved := b } → P st → P (programRecord p r st)
  mark : ∀ {st p k b}, st.program = some { op := .mark p k, reserved := b } → P st → P (programMarkOp p k st)
  erase : ∀ {st j}, st.erase = some j → P st → P (finishErase j st)
  header : ∀ {st} sector q, P st → P { st with array := programHeader sector q st.array }
  copy : ∀ {st} x y, P st → P { st with array := { st.array with image1 := x, image2 := y } }

theorem whenAwake_keeps {f : State → State} (hf : P s.store → P (f s).store) (h : P s.store) : P (whenAwake f s).store := by
  unfold whenAwake
  split
  · exact hf h
  · exact h

/-- The commands that a reset begins with. -/
def resets : Instr → Bool
  | .supplyReset | .powerOnReset _ | .restartFallsDue _ | .supplyRisesPastFail _ => true
  | _ => false

variable (K : EngineKeeps P)
include K

theorem takeInWarn_keeps (h : P st) : P (takeInWarn st) := by
  unfold takeInWarn
  split
  · exact K.reserved (by assumption) h
  · split
    · exact h
    · rename_i hsplit
      simp only
      split
      · exact h
      · exact K.queued (splitProgram_eq hsplit) h

theorem takeNext_keeps (h : P st) : P (takeNext st) := by
  unfold takeNext
  split
  · exact K.reserved (by assumption) h
  · exact K.queued (ahead := []) (by assumption) h
  · exact h

theorem takePassing_keeps {j : EraseJob} (hj : st.erase = some j) (h : P st) : P (takePassing j st) := by
  have suspended := K.spares (suspended_spares hj .suspended) h
  unfold takePassing
  simp only
  split
  · split
    · exact K.reserved (st := { st with erase := some { j with phase := .suspended } }) (by assumption) suspended
    · exact h
  · split
    · exact K.queued (st := { st with erase := some { j with phase := .suspended } }) (ahead := []) (by assumption) suspended
    · exact h
  · exact h

theorem startOperation_keeps (warn : Bool) (h : P st) : P (startOperation warn st) := by
  unfold startOperation
  split
  · exact h
  split
  · split
    · exact takeInWarn_keeps K h
    · exact takeNext_keeps K h
  · split
    · split
      · exact h
      · exact takePassing_keeps K (by assumption) h
    · exact takeInWarn_keeps K h
    · exact h
    · exact h
    · exact h

theorem programDone_keeps (h : P s.store) : P (programDone s).store := by
  unfold programDone
  split
  · rename_i place r reserved hp
    have ended := K.spares ((endProgram_spares _).trans (supersedeEnded_spares place _)) (K.record hp h)
    simp only
    split
    · exact ended
    · exact K.spares (freedPlace_spares { s with store := supersedeEnded place (endProgram (programRecord place r s.store)) }) ended
  · exact h

theorem markProgramDone_keeps (h : P s.store) : P (markProgramDone s).store := by
  unfold markProgramDone
  split
  · rename_i place k _ hp
    have marked := (afterMark_spares k { s with store := endProgram (programMarkOp place k s.store) }).trans
      (freedPlace_spares _)
    exact K.spares ((endProgram_spares _).trans marked) (K.mark hp h)
  · exact h

theorem commitErased_keeps {j : EraseJob} (hj : s.store.erase = some j) (h : P s.store) : P (commitErased j s).store :=
  K.header (st := { s.store with erase := some { j with phase := .programming s.cfg } }) j.sector j.seq
    (K.spares (suspended_spares hj _) h)

theorem finishCommit_keeps (sector : Nat) (cfg : Configuration) (h : P s.store) : P (finishCommit sector cfg s).store := by
  have ended := K.spares (ended_spares s.store) h
  unfold finishCommit
  simp only [postNotice_store]
  split
  · exact K.copy (st := { s.store with erase := none }) _ s.store.array.image2 ended
  · exact K.copy (st := { s.store with erase := none }) s.store.array.image1 _ ended

theorem eraseDone_keeps (h : P s.store) : P (eraseDone s).store := by
  unfold eraseDone
  split
  · exact h
  rename_i j hj
  split
  · exact h
  split
  · exact commitErased_keeps K hj h
  · exact K.spares (freedPlace_spares { s with store := finishErase j s.store }) (K.erase hj h)

theorem commitDone_keeps (h : P s.store) : P (commitDone s).store := by
  have finished (u : State) (sector : Nat) (cfg : Configuration) (hu : P u.store) :
      P (freedPlace (finishCommit sector cfg u)).store := K.spares (freedPlace_spares _) (finishCommit_keeps K sector cfg hu)
  unfold commitDone
  split
  · exact h
  rename_i j hj
  split
  · exact h
  split
  · exact finished s _ _ h
  · exact finished _ _ _ (commitErased_keeps K hj h)
  · exact finished _ _ _ (commitErased_keeps K hj h)
  · exact h
  · exact h

/-- Every command but a reset keeps what the engine keeps. -/
theorem exec_keeps (c : Instr) (hc : resets c = false) (h : P s.store) : ∃ t, exec c s = .next t ∧ P t.store := by
  by_cases hw : writesArray c = false
  · obtain ⟨t, ht, spared⟩ := exec_spares c s hw
    exact ⟨t, ht, K.spares spared h⟩
  have writes : writesArray c = true := by simpa using hw
  cases c with
  | storeOperationStart => exact ⟨_, rfl, whenAwake_keeps (startOperation_keeps K _) h⟩
  | programDone => exact ⟨_, rfl, whenAwake_keeps (programDone_keeps K) h⟩
  | markProgramDone => exact ⟨_, rfl, whenAwake_keeps (markProgramDone_keeps K) h⟩
  | eraseDone => exact ⟨_, rfl, whenAwake_keeps (eraseDone_keeps K) h⟩
  | commitDone => exact ⟨_, rfl, whenAwake_keeps (commitDone_keeps K) h⟩
  | supplyReset | powerOnReset | restartFallsDue | supplyRisesPastFail => cases hc
  | _ => cases writes

end Sys2Proof.Proofs
end

section
/-! PROOFS. The scan, the stages of recovery after it, and the array's canonical form at every step (O4). -/

namespace Sys2Proof.Proofs

open Sys2Proof Sys2Proof.Machine Sys2Proof.Laws

variable {s t : State} {st : Store}

/-! ### The scan (R179) -/

/-- The newest header is one of the ring's. -/
theorem newestHeader_first {r : Ring} {hs : List (Nat × Nat)} {h : Nat × Nat} (hn : newestHeader r hs = some h) :
    ringFirst r ≤ h.1 := by
  unfold newestHeader at hn
  refine List.foldlRecOn (motive := fun best => ∀ x, best = some x → ringFirst r ≤ x.1) _ _ (by simp)
    (fun best hbest y hy x hx => ?_) h hn
  have first : ringFirst r ≤ y.1 := by
    have inRing := (List.mem_filter.1 hy).2
    simp only [Bool.and_eq_true, decide_eq_true_eq] at inRing
    exact inRing.1
  split at hx
  · exact Option.some.inj hx ▸ first
  split at hx
  · exact Option.some.inj hx ▸ first
  · exact hbest x hx

theorem scanRing_array (r : Ring) (st : Store) : (scanRing r st).array = st.array := by
  unfold scanRing
  split <;> simp

theorem scanErase_array (r : Ring) (st : Store) : (scanErase r st).array = st.array := by
  unfold scanErase
  split
  · exact (queueOwedErase_spares r st).array
  · rfl

theorem scanSave_array (st : Store) : (scanSave st).array = st.array := by
  unfold scanSave
  split
  · rfl
  · simp only
    split <;> rfl

theorem scanStore_array (st : Store) : (scanStore st).array = st.array := by
  unfold scanStore
  simp [scanSave_array, scanErase_array, scanRing_array]

theorem scanRing_untouched (r : Ring) (h : IdentityUntouched st) : IdentityUntouched (scanRing r st) := by
  unfold scanRing
  split
  · have first : ringFirst r ≠ 0 := (ringFirst_pos r).ne'
    refine untouched_setRing (untouched_enqueued h fun op hop => ?_) r first
    exact List.mem_singleton.1 hop ▸ touchesIdentity_erase 0 first
  · rename_i sector seq hn
    have sector_ne : sector ≠ 0 := ((ringFirst_pos r).trans_le (newestHeader_first hn)).ne'
    have opened {v : RingState} (hv : v.sector = sector) : IdentityUntouched (setRing r v st) :=
      untouched_setRing h r (hv ▸ sector_ne)
    exact untouched_setRing (opened rfl) r (untouched_ring_sector (opened rfl) r)

theorem scanErase_untouched (r : Ring) (h : IdentityUntouched st) : IdentityUntouched (scanErase r st) := by
  unfold scanErase
  split
  · refine untouched_setRing (untouched_enqueued h fun op hop => ?_) r (untouched_ring_sector h r)
    exact List.mem_singleton.1 hop ▸ touchesIdentity_erase _ (nextSector_ne_zero r _)
  · exact h

theorem scanSave_untouched (h : IdentityUntouched st) : IdentityUntouched (scanSave st) := by
  unfold scanSave
  split
  · exact h
  simp only
  split
  · exact untouched_enqueued (st := { st with saveNext := 0, saveOwed := false }) h
      fun op hop => List.mem_singleton.1 hop ▸ rfl
  · exact h

theorem scanStore_untouched (h : IdentityUntouched st) : IdentityUntouched (scanStore st) :=
  scanSave_untouched (st := { scanErase .alarm (scanErase .call (scanRing .alarm (scanRing .call st))) with identity := _ })
    (scanErase_untouched _ (scanErase_untouched _ (scanRing_untouched _ (scanRing_untouched _ h))))

/-- The scan takes the working identity from sector 0. -/
theorem scanStore_identity (st : Store) : (scanStore st).identity = scanIdentity st.array := by
  have kept (u : Store) : (scanSave u).identity = u.identity := by
    unfold scanSave
    split
    · rfl
    · simp only
      split <;> rfl
  unfold scanStore
  simp [kept, scanErase_array, scanRing_array]

/-! ### The stages after the scan (R194 to R197) -/

theorem loadConfiguration_store (s : State) : (loadConfiguration s).store = s.store := by
  unfold loadConfiguration
  split
  · rfl
  · simp

theorem forSources_spares {f : Nat → State → State} (hf : ∀ i s, Spares s.store (f i s).store) (l : List Nat) (s : State) :
    Spares s.store (forSources f l s).store := by
  induction l generalizing s with
  | nil => exact .refl _
  | cons i rest ih => exact (hf i s).trans (ih _)

theorem restoreSource_spares (i : Nat) (s : State) : Spares s.store (restoreSource i s).store := by
  unfold restoreSource
  simp only
  split
  · exact .ite (.refl _) (.of_eq (by simp))
  · exact .refl _

theorem raiseActive_spares (i : Nat) (s : State) : Spares s.store (raiseActive i s).store := by
  unfold raiseActive
  exact .ite (raise_spares _ _ s) (.refl _)

theorem stageTwo_spares (levels : List Bool) (s : State) : Spares s.store (stageTwo levels s).store := by
  have restored : Spares s.store (forSources restoreSource (List.range 16) s).store :=
    forSources_spares restoreSource_spares _ s
  have sensed (u : State) : Spares u.store (forSources raiseActive (List.range 8) (takeLevels levels u)).store :=
    forSources_spares raiseActive_spares _ (takeLevels levels u)
  have loaded (u : State) : Spares u.store (if u.supply.loaded then u else raise srcStore .recordStore u).store :=
    .ite (.refl _) (raise_spares _ _ u)
  have caused (u : State) : Spares u.store (if u.supply.cause = .restart then u else raise srcSupply .recovery u).store :=
    .ite (.refl _) (raise_spares _ _ u)
  exact restored.trans ((sensed _).trans ((loaded _).trans (caused _)))

theorem stageThree_spares (found : Option (Place × SaveRecord)) (s : State) : Spares s.store (stageThree found s).store := by
  have tallied : Spares s.store (if s.supply.cause = .restart then s else { s with
      coin := { s.coin with tally := recoveredTally s.store }
      store := { s.store with totals := (found.map (·.2.totals)).getD {} } }).store := .ite (.refl _) (.of_view rfl)
  have near (u : State) : Spares u.store { u with coin := { u.coin with
      nearPosted := nearLevel u.cfg.capacity ≤ u.coin.tally.coins } }.store := .refl _
  have full (u : State) : Spares u.store (if u.cfg.capacity ≤ u.coin.tally.coins
      ∧ (alarmEntry u.alarm srcBoxFull).state = .quiet then raise srcBoxFull .recovery u else u).store :=
    .ite (raise_spares _ _ u) (.refl _)
  exact tallied.trans ((near _).trans (full _))

theorem forPlaces_spares {f : Place → State → State} (hf : ∀ p s, Spares s.store (f p s).store) (l : List Place) (s : State) :
    Spares s.store (forPlaces f l s).store := by
  induction l generalizing s with
  | nil => exact .refl _
  | cons p rest ih => exact (hf p s).trans (ih _)

theorem reconstitute_store (a : Account) (s : State) : (reconstitute a s).store = s.store := by
  simp [reconstitute]

theorem stageFour_spares (found : Option (Place × SaveRecord)) (s : State) : Spares s.store (stageFour found s).store := by
  unfold stageFour
  simp only
  generalize (if found.isSome then _ else _) = marks
  have marked := forPlaces_spares postResolvedMark_spares marks s
  split
  · exact marked
  · exact marked.trans (.ite (.refl _) (.of_eq (by rw [reconstitute_store]; rfl)))

/-- What follows the scan spares what the scan found. -/
theorem recover_spares (levels : Levels) (s : State) : Spares (scanStore s.store) (recover levels s).store := by
  unfold recover
  simp only
  generalize hu : { s with supply := _ } = u
  have hstore : u.store = s.store := by rw [← hu]
  have scanned : Spares (scanStore s.store) (stageOne u).store :=
    .of_eq (by rw [stageOne, loadConfiguration_store, hstore])
  exact scanned.trans ((stageTwo_spares levels.tamper _).trans
    ((stageThree_spares (saveToResolve (stageOne u).store) _).trans (stageFour_spares _ _)))

theorem recover_array (levels : Levels) (s : State) : (recover levels s).store.array = s.store.array :=
  (recover_spares levels s).array.trans (scanStore_array s.store)

/-! ### The canonical form (R166) -/

/-- The array is listed in its canonical form: what `ArrayCanonical` says of a state's. -/
def IsCanonical (a : NvArray) : Prop := cellsWf a.cells ∧ headersWf a.headers

theorem beginOp_canonical (op : StoreOp) (reserved : Bool) (h : IsCanonical st.array) :
    IsCanonical (beginOp op reserved st).array := by
  obtain ⟨hcells, hheaders⟩ := h
  cases op with
  | record | mark => exact ⟨hcells, hheaders⟩
  | erase sector seq =>
    refine ⟨?_, dropHeader_wf sector hheaders⟩
    show cellsWf (if sector = 0 then st.array.cells else eraseCells sector st.array.cells)
    split
    · exact hcells
    · exact eraseCells_wf sector hcells
  | commit =>
    unfold beginOp beginCommit
    simp only
    split <;> exact ⟨hcells, dropHeader_wf _ hheaders⟩

theorem programHeader_canonical (sector q : Nat) {a : NvArray} (h : IsCanonical a) : IsCanonical (programHeader sector q a) := by
  obtain ⟨hcells, hheaders⟩ := h
  exact ⟨(programHeader_cells sector q a).symm ▸ hcells, programHeader_wf sector q hheaders⟩

theorem programMarkOp_canonical (p : Place) (k : MarkKind) (h : IsCanonical st.array) :
    IsCanonical (programMarkOp p k st).array := by
  obtain ⟨hcells, hheaders⟩ := h
  unfold programMarkOp
  split
  · exact ⟨hcells, hheaders⟩
  · exact ⟨programMark_wf _ k hcells, by rwa [programMark_headers]⟩

theorem programBlank_canonical (key : Nat) (v : Cell) {a : NvArray} (h : IsCanonical a) : IsCanonical (programBlank key v a) := by
  obtain ⟨hcells, hheaders⟩ := h
  exact ⟨programBlank_wf key v hcells, by rwa [programBlank_headers]⟩

theorem engine_keeps_canonical : EngineKeeps (fun st => IsCanonical st.array) where
  spares h hst := h.array.symm ▸ hst
  reserved _ h := beginOp_canonical _ _ h
  queued _ h := beginOp_canonical _ _ h
  record _ h := programBlank_canonical _ _ h
  mark _ h := programMarkOp_canonical _ _ h
  erase _ h := by
    obtain ⟨hcells, hheaders⟩ := h
    exact programHeader_canonical _ _ ⟨eraseCells_wf _ hcells, hheaders⟩
  header sector q h := programHeader_canonical sector q h
  copy _ _ h := h

theorem arrayAfterReset_canonical (h : IsCanonical s.store.array) : IsCanonical (arrayAfterReset s) := by
  have torn : IsCanonical (tearProgram s.store.program s.store.array) := by
    unfold tearProgram
    split
    · exact programBlank_canonical _ _ h
    · exact h
  obtain ⟨hcells, hheaders⟩ := torn
  exact ⟨tearErase_wf _ _ hcells, hheaders⟩

theorem recover_canonical (levels : Levels) (h : IsCanonical s.store.array) : IsCanonical (recover levels s).store.array := by
  rwa [recover_array]

theorem exec_keeps_canonical (c : Instr) (h : IsCanonical s.store.array) :
    ∃ t, exec c s = .next t ∧ IsCanonical t.store.array := by
  have restarted (levels : Levels) (cause : StartCause) :
      IsCanonical (recover levels (resetVolatile cause s)).store.array :=
    recover_canonical (s := resetVolatile cause s) levels (arrayAfterReset_canonical h)
  by_cases hc : resets c = false
  · exact exec_keeps engine_keeps_canonical c hc h
  cases c with
  | supplyReset =>
    refine ⟨_, rfl, ?_⟩
    unfold supplyFails
    split
    · exact h
    · exact arrayAfterReset_canonical h
  | powerOnReset levels => exact ⟨_, rfl, restarted levels _⟩
  | restartFallsDue levels =>
    refine ⟨_, rfl, ?_⟩
    split
    · exact restarted levels _
    · exact h
  | supplyRisesPastFail levels =>
    refine ⟨_, rfl, ?_⟩
    split
    · exact restarted levels _
    · exact h
  | _ => exact absurd rfl hc

theorem idle_keeps_canonical (h : IsCanonical s.store.array) : IsCanonical (idle s).1.store.array := by
  rcases idle_cases s with he | he | ⟨-, he⟩ <;> rw [he]
  · exact h
  · exact h
  · exact recover_canonical _ h

/-- A law that every command and every idle step keeps, whatever waits in the queue of commands, is kept by every step. -/
theorem step_keeps {L : State → Prop} (hexec : ∀ c s, L s → ∃ t, exec c s = .next t ∧ L t)
    (hidle : ∀ s, L s → L (idle s).1) (hpending : ∀ s rest, L s → L { s with pending := rest }) (h : L s)
    (hstep : step s = .next t) : L t := by
  have ends {u : State} {c : Instr} (hu : L u) (he : exec c u = .next t) : L t := by
    obtain ⟨v, hv, hlaw⟩ := hexec c u hu
    obtain rfl := Host.Outcome.next.inj (hv.symm.trans he)
    exact hlaw
  unfold step at hstep
  split at hstep
  · exact ends (hpending s _ h) hstep
  · split at hstep
    · exact ends (hidle s h) hstep
    · exact Host.Outcome.next.inj hstep ▸ hidle s h

/-- Settles O4: the engine's writings keep the form, a reset tears places in their order, and nothing else writes the array. -/
theorem arrayStaysCanonical : Obligations.ArrayStaysCanonical := by
  intro s t h hstep
  exact step_keeps (L := ArrayCanonical) (fun c s h => exec_keeps_canonical c h) (fun s h => idle_keeps_canonical h)
    (fun _ _ => id) h hstep

end Sys2Proof.Proofs
end

section
/-! PROOFS. A locked identity stays as it is through every command, reset and scan (O8). -/

namespace Sys2Proof.Proofs

open Sys2Proof Sys2Proof.Machine Sys2Proof.Laws

variable {s t : State} {st : Store} {i : Identity}

/-! ### What sector 0 says, operation by operation -/

theorem untouched_reserved {op : StoreOp} (hop : st.reserved = some op) (h : IdentityUntouched st) :
    touchesIdentity op = false := by
  obtain ⟨-, hreserved, -⟩ := h
  simpa [hop] using hreserved

theorem untouched_queued {ahead behind : List StoreOp} {op : StoreOp} (hq : st.queue = ahead ++ op :: behind)
    (h : IdentityUntouched st) : touchesIdentity op = false := by
  obtain ⟨hqueue, -⟩ := h
  simpa using List.all_eq_true.1 hqueue op (by simp [hq])

theorem untouched_program {op : StoreOp} {b : Bool} (hp : st.program = some { op := op, reserved := b })
    (h : IdentityUntouched st) : touchesIdentity op = false := by
  obtain ⟨-, -, hprogram, -⟩ := h
  simpa [hp] using hprogram

theorem untouched_erase (h : IdentityUntouched st) {j : EraseJob} (hj : st.erase = some j) : j.sector ≠ 0 := by
  obtain ⟨-, -, -, herase, -⟩ := h
  simpa [hj] using herase

theorem touchesIdentity_record_iff {p : Place} {r : Record} : touchesIdentity (.record p r) = false ↔ p.sector ≠ 0 := by
  simp [touchesIdentity]

theorem touchesIdentity_mark_ne {p : Place} {k : MarkKind} (h : touchesIdentity (.mark p k) = false) : k ≠ .lock := by
  rintro rfl
  cases h

theorem commitSector_ne_zero (a : NvArray) : commitSector a ≠ 0 := by
  unfold commitSector
  split
  · decide
  · decide
  · split <;> decide

/-- The beginning of an operation leaves what sector 0 says: an erase of sector 0 takes its places only at its end. -/
theorem beginOp_scanIdentity (op : StoreOp) (b : Bool) (st : Store) :
    scanIdentity (beginOp op b st).array = scanIdentity st.array := by
  cases op with
  | record | mark => rfl
  | erase sector seq =>
    refine scanIdentity_congr ?_
    show sectorCells 0 (if sector = 0 then st.array.cells else eraseCells sector st.array.cells) = _
    split
    · rfl
    · exact sectorCells_eraseCells (by assumption) _
  | commit =>
    unfold beginOp beginCommit
    simp only
    split <;> rfl

theorem beginOp_untouched {op : StoreOp} (b : Bool) (hop : touchesIdentity op = false) (h : IdentityUntouched st) :
    IdentityUntouched (beginOp op b st) := by
  obtain ⟨hqueue, hreserved, hprogram, herase, hrest⟩ := h
  cases op with
  | record | mark => exact ⟨hqueue, hreserved, by simpa [beginOp] using hop, herase, hrest⟩
  | erase sector seq =>
    have sector_ne : sector ≠ 0 := by simpa [touchesIdentity] using hop
    exact ⟨hqueue, hreserved, hprogram, by simpa [beginOp, beginErase] using sector_ne, hrest⟩
  | commit => exact ⟨hqueue, hreserved, hprogram, by simpa [beginOp, beginCommit] using commitSector_ne_zero st.array, hrest⟩

theorem beginOp_identity (op : StoreOp) (b : Bool) (st : Store) : (beginOp op b st).identity = st.identity := by
  cases op <;> rfl

/-! ### The engine keeps a locked identity -/

/-- A store whose sector 0 says `i`, whose working identity is `i`, and in which nothing can change that. -/
def IdentityKept (i : Identity) (st : Store) : Prop :=
  scanIdentity st.array = i ∧ IdentityUntouched st ∧ st.identity = i

theorem IdentityKept.untouched (h : IdentityKept i st) : IdentityUntouched st := by
  obtain ⟨-, hu, -⟩ := h
  exact hu

theorem IdentityKept.spares {st' : Store} (hi : i.lock = .locked) (hs : Spares st st') (h : IdentityKept i st) :
    IdentityKept i st' := by
  obtain ⟨hscan, hu, hid⟩ := h
  have locked : st.identity.lock = .locked := by rw [hid, hi]
  exact ⟨by rw [hs.array, hscan], hs.untouched locked hu, (hs.identity locked).trans hid⟩

theorem IdentityKept.begun {op : StoreOp} (b : Bool) (hop : touchesIdentity op = false) (h : IdentityKept i st) :
    IdentityKept i (beginOp op b st) := by
  obtain ⟨hscan, hu, hid⟩ := h
  exact ⟨(beginOp_scanIdentity op b st).trans hscan, beginOp_untouched b hop hu, (beginOp_identity op b st).trans hid⟩

theorem IdentityKept.setArray {a : NvArray} (ha : scanIdentity a = scanIdentity st.array) (h : IdentityKept i st) :
    IdentityKept i { st with array := a } := by
  obtain ⟨hscan, hu, hid⟩ := h
  exact ⟨ha.trans hscan, hu, hid⟩

theorem scanIdentity_programHeader (sector q : Nat) (a : NvArray) : scanIdentity (programHeader sector q a) = scanIdentity a :=
  scanIdentity_congr (by rw [programHeader_cells])

theorem finishErase_kept {j : EraseJob} (hj : st.erase = some j) (h : IdentityKept i st) :
    IdentityKept i (finishErase j st) := by
  have sector_ne : j.sector ≠ 0 := untouched_erase h.untouched hj
  have erased : scanIdentity { st.array with cells := eraseCells j.sector st.array.cells } = scanIdentity st.array :=
    scanIdentity_congr (sectorCells_eraseCells sector_ne _)
  obtain ⟨hscan, ⟨hqueue, hreserved, hprogram, -, hrest⟩, hid⟩ := h
  refine ⟨?_, ⟨hqueue, hreserved, hprogram, rfl, hrest⟩, hid⟩
  exact (scanIdentity_programHeader j.sector j.seq _).trans (erased.trans hscan)

theorem programMarkOp_kept (p : Place) {k : MarkKind} (hk : k ≠ .lock) (h : IdentityKept i st) :
    IdentityKept i (programMarkOp p k st) := by
  unfold programMarkOp
  split
  · exact h
  · exact h.setArray (scanIdentity_programMark hk _)

theorem engine_keeps_identity (hi : i.lock = .locked) : EngineKeeps (IdentityKept i) where
  spares hs h := h.spares hi hs
  reserved := by
    rintro st op hop h
    have harmless : touchesIdentity op = false := untouched_reserved hop h.untouched
    exact (h.spares hi (unreserved_spares st)).begun true harmless
  queued := by
    rintro st ahead op behind hq ⟨hscan, hu, hid⟩
    have harmless := untouched_queued hq hu
    obtain ⟨hqueue, hrest⟩ := hu
    have others : (ahead ++ behind).all (fun op => !touchesIdentity op) = true := by
      rw [hq] at hqueue
      simp only [List.all_append, List.all_cons, Bool.and_eq_true] at hqueue ⊢
      exact ⟨hqueue.1, hqueue.2.2⟩
    exact IdentityKept.begun (st := { st with queue := ahead ++ behind }) false harmless ⟨hscan, ⟨others, hrest⟩, hid⟩
  record := by
    rintro st p r b hp h
    have sector := touchesIdentity_record_iff.1 (untouched_program hp h.untouched)
    exact h.setArray (scanIdentity_programBlank sector _ _ _)
  mark := by
    rintro st p k b hp h
    exact programMarkOp_kept p (touchesIdentity_mark_ne (untouched_program hp h.untouched)) h
  erase hj h := finishErase_kept hj h
  header sector q h := h.setArray (scanIdentity_programHeader _ _ _)
  copy _ _ h := h.setArray rfl

/-! ### Resets and the scan -/

theorem tearProgram_scanIdentity (h : IdentityUntouched st) :
    scanIdentity (tearProgram st.program st.array) = scanIdentity st.array := by
  unfold tearProgram
  split
  · rename_i hp
    exact scanIdentity_programBlank (touchesIdentity_record_iff.1 (untouched_program hp h)) _ _ _
  · rfl

/-- Only an erase of sector 0 leaves its places for a reset to tear. -/
theorem tearErase_otherSector {job : Option EraseJob} (h : ∀ j, job = some j → j.sector ≠ 0) (n : Nat)
    (l : List (Nat × Cell)) : tearErase n job l = l := by
  unfold tearErase
  split
  · exact if_neg (h _ rfl)
  · rfl

theorem arrayAfterReset_scanIdentity (h : IdentityUntouched s.store) :
    scanIdentity (arrayAfterReset s) = scanIdentity s.store.array := by
  refine .trans (scanIdentity_congr ?_) (tearProgram_scanIdentity h)
  exact congrArg _ (tearErase_otherSector (fun _ hj => untouched_erase h hj) _ _)

theorem resetVolatile_untouched (cause : StartCause) (s : State) : IdentityUntouched (resetVolatile cause s).store := by
  unfold IdentityUntouched
  simp [resetVolatile]

theorem scanStore_kept (hscan : scanIdentity st.array = i) (hu : IdentityUntouched st) : IdentityKept i (scanStore st) :=
  ⟨by rw [scanStore_array, hscan], scanStore_untouched hu, (scanStore_identity st).trans hscan⟩

theorem recover_kept (hi : i.lock = .locked) (levels : Levels) (hscan : scanIdentity s.store.array = i)
    (hu : IdentityUntouched s.store) : IdentityKept i (recover levels s).store :=
  (scanStore_kept hscan hu).spares hi (recover_spares levels s)

/-! ### A part that is asleep -/

theorem awake_iff (s : State) : awake s = true ↔ s.supply.inReset = false ∧ recoveryPending s = false := by
  unfold awake recoveryPending
  cases s.supply.inReset <;> cases s.supply.recovery <;> simp

/-- The supply stays as it is, the array too, and nothing comes in that could change what sector 0 says. -/
structure Undisturbed (s t : State) : Prop where
  supply : t.supply = s.supply
  array : t.store.array = s.store.array
  untouched : IdentityUntouched s.store → IdentityUntouched t.store

theorem Undisturbed.of_store (hs : t.supply = s.supply) (h : t.store = s.store) : Undisturbed s t :=
  ⟨hs, by rw [h], by rw [h]; exact id⟩

theorem resumeErase_untouched (h : IdentityUntouched st) : IdentityUntouched (resumeErase st) := by
  unfold resumeErase
  split
  · exact h
  obtain ⟨hqueue, hreserved, hprogram, herase, hrest⟩ := h
  refine ⟨hqueue, hreserved, hprogram, ?_, hrest⟩
  cases he : st.erase with
  | none => rfl
  | some j =>
    rw [he] at herase
    simp only [Option.map_some]
    split <;> exact herase

theorem takeFrame_undisturbed (p : Port) (s : State) : Undisturbed s (takeFrame p s) := by
  unfold takeFrame
  simp only
  split
  · have resumed : (resumeErase { s.store with read := none }).array = s.store.array := by
      unfold resumeErase
      split <;> rfl
    exact ⟨rfl, resumed, fun h => resumeErase_untouched (st := { s.store with read := none }) h⟩
  · exact .of_store rfl rfl

theorem answered_undisturbed (p : Port) (r : Reply) (s : State) : Undisturbed s (answerPort p r (takeFrame p s)) := by
  obtain ⟨hsupply, harray, hu⟩ := takeFrame_undisturbed p s
  exact ⟨hsupply, harray, hu⟩

theorem recovering_of_asleep (h : awake s = false) (hr : s.supply.inReset = false) : recovering s = true := by
  unfold awake at h
  unfold recovering
  cases hv : s.supply.recovery <;> simp_all

/-- A part that is asleep refuses every request but READ_STATUS and FETCH_NOTICES. -/
theorem takeRequest_undisturbed {q : Request} (p : Port) (owner : State → State × Reply) (hq : answeredInRecovery q = false)
    (h : awake s = false) : Undisturbed s (takeRequest q p owner s) := by
  unfold takeRequest
  split
  · exact .of_store rfl rfl
  · rename_i hr
    have refused : (recovering s && !answeredInRecovery q) = true := by
      simp [recovering_of_asleep h (by simpa using hr), hq]
    rw [if_pos refused]
    split <;> exact answered_undisturbed p _ s

theorem takeRequest_reads {q : Request} (p : Port) {owner : State → State × Reply}
    (ho : ∀ u, (owner u).1.supply = u.supply ∧ (owner u).1.store = u.store) : Undisturbed s (takeRequest q p owner s) := by
  obtain ⟨hsupply, harray, hu⟩ := takeFrame_undisturbed p s
  obtain ⟨hos, hot⟩ := ho (takeFrame p s)
  unfold takeRequest
  split
  · exact .of_store rfl rfl
  split
  · exact answered_undisturbed p _ s
  split
  · exact answered_undisturbed p _ s
  · exact ⟨hos.trans hsupply, by rw [answerPort_store, hot, harray], by rw [answerPort_store, hot]; exact hu⟩

theorem frameEnds_undisturbed (p : Port) (bytes : List Byte) (s : State) : Undisturbed s (frameEnds p bytes s) := by
  unfold frameEnds
  split
  · exact .of_store rfl rfl
  split
  · exact .of_store rfl rfl
  · exact answered_undisturbed p _ s

theorem hookWatched_of_asleep (h : awake s = false) : hookWatched s = false := by
  simp [hookWatched, h]

/-- No command but a reset disturbs a part that is asleep: it takes no event and refuses what would act. -/
theorem exec_undisturbed (c : Instr) (hc : resets c = false) (h : awake s = false) :
    ∃ t, exec c s = .next t ∧ Undisturbed s t := by
  have sleeps (f : State → State) : Undisturbed s (whenAwake f s) :=
    .of_store (by rw [whenAwake_asleep h]) (by rw [whenAwake_asleep h])
  have refuses {q : Request} (p : Port) (owner : State → State × Reply) (hq : answeredInRecovery q = false) :
      Undisturbed s (takeRequest q p owner s) := takeRequest_undisturbed p owner hq h
  have unwatched := hookWatched_of_asleep h
  cases c with
  | readStatus p | fetchNotices p => exact ⟨_, rfl, takeRequest_reads p fun _ => ⟨rfl, rfl⟩⟩
  | requestFrameError p bytes => exact ⟨_, rfl, frameEnds_undisturbed p bytes s⟩
  | readSelectPeriod p clocked =>
    refine ⟨_, rfl, ?_⟩
    split <;> exact .of_store rfl rfl
  | offHook => exact ⟨_, rfl, .of_store (by simp [offHook, unwatched]) (by simp [offHook, unwatched])⟩
  | onHook => exact ⟨_, rfl, .of_store (by simp [onHook, unwatched]) (by simp [onHook, unwatched])⟩
  | debouncedChangeToOnHook => exact ⟨_, rfl, .of_store (by simp [hookFalls, unwatched]) (by simp [hookFalls, unwatched])⟩
  | supplyReset | powerOnReset | restartFallsDue | supplyRisesPastFail => cases hc
  | keyDigit | keyCancel | keyFollowOn | readAccount | readCall | setNoticeMask | fetchOrder | orderDone | answer | busy
  | farClear | meterPulse | lineLost | lineRestored | claimCentre | endCentre | setClock | readClock
  | writeCalendarDayType | writeCalendarHoliday | writeTariff | readTariff | activateTariff | writePlan | readPlan
  | writeCoin | writeAlarmSetupSource | writeAlarmSetupSensor | writeSettingInterDigit | writeSettingRing
  | writeSettingBoxCapacity | writeSettingCollectionCode | writeSettingReportThreshold | writeSettingPriorityMode
  | writeSettingPrimaryCentre | writeSettingFallbackCentre | commitConfig | readRecords | ackRecords | readAlarmsSource
  | readAlarmsSensor | ackAlarms | clearAlarm | writeIdentity | readIdentity | lockIdentity | restart | openCollection
  | closeCollection | readTally | testGate => exact ⟨_, rfl, refuses _ _ rfl⟩
  | _ => exact ⟨_, rfl, sleeps _⟩

/-! ### The law -/

theorem lockedAs_lock (h : LockedAs i s) : i.lock = .locked := by
  obtain ⟨hi, -⟩ := h
  exact hi

theorem lockedAs_kept (h : LockedAs i s) (ha : awake s = true) : IdentityKept i s.store := by
  obtain ⟨-, hscan, hu, hid⟩ := h
  obtain ⟨hr, hp⟩ := (awake_iff s).1 ha
  exact ⟨hscan, hu, hid hr hp⟩

theorem IdentityKept.lockedAs (hi : i.lock = .locked) (h : IdentityKept i s.store) : LockedAs i s := by
  obtain ⟨hscan, hu, hid⟩ := h
  exact ⟨hi, hscan, hu, fun _ _ => hid⟩

theorem lockedAs_undisturbed (h : LockedAs i s) (ha : awake s = false) (hs : Undisturbed s t) : LockedAs i t := by
  obtain ⟨hi, hscan, hu, -⟩ := h
  obtain ⟨hsupply, harray, htouched⟩ := hs
  refine ⟨hi, by rw [harray, hscan], htouched hu, fun hr hp => ?_⟩
  have woken : awake s = true := (awake_iff s).2 ⟨hsupply ▸ hr, by rwa [← recoveryPending_congr (congrArg _ hsupply)]⟩
  exact absurd ha (by simp [woken])

theorem lockedAs_reset (h : LockedAs i s) (cause : StartCause) : scanIdentity (resetVolatile cause s).store.array = i := by
  obtain ⟨-, hscan, hu, -⟩ := h
  exact (arrayAfterReset_scanIdentity hu).trans hscan

theorem lockedAs_restarted (h : LockedAs i s) (levels : Levels) (cause : StartCause) :
    LockedAs i (recover levels (resetVolatile cause s)) :=
  (recover_kept (lockedAs_lock h) levels (lockedAs_reset h cause) (resetVolatile_untouched cause s)).lockedAs
    (lockedAs_lock h)

theorem supplyFails_lockedAs (h : LockedAs i s) : LockedAs i (supplyFails s) := by
  unfold supplyFails
  split
  · exact h
  · exact ⟨lockedAs_lock h, lockedAs_reset h .supplyReset, resetVolatile_untouched .supplyReset s, fun hr => by cases hr⟩

theorem exec_keeps_lockedAs (c : Instr) (h : LockedAs i s) : ∃ t, exec c s = .next t ∧ LockedAs i t := by
  have restartedIf (p : Prop) [Decidable p] (levels : Levels) (cause : StartCause) :
      LockedAs i (if p then recover levels (resetVolatile cause s) else s) := by
    split
    · exact lockedAs_restarted h levels cause
    · exact h
  by_cases hc : resets c = false
  · by_cases ha : awake s = true
    · obtain ⟨t, ht, kept⟩ := exec_keeps (engine_keeps_identity (lockedAs_lock h)) c hc (lockedAs_kept h ha)
      exact ⟨t, ht, kept.lockedAs (lockedAs_lock h)⟩
    · have asleep : awake s = false := by simpa using ha
      obtain ⟨t, ht, hs⟩ := exec_undisturbed c hc asleep
      exact ⟨t, ht, lockedAs_undisturbed h asleep hs⟩
  cases c with
  | supplyReset => exact ⟨_, rfl, supplyFails_lockedAs h⟩
  | powerOnReset levels => exact ⟨_, rfl, lockedAs_restarted h levels _⟩
  | restartFallsDue levels => exact ⟨_, rfl, restartedIf _ levels _⟩
  | supplyRisesPastFail levels => exact ⟨_, rfl, restartedIf _ levels _⟩
  | _ => exact absurd rfl hc

theorem idle_keeps_lockedAs (h : LockedAs i s) : LockedAs i (idle s).1 := by
  rcases idle_cases s with he | he | ⟨-, he⟩ <;> rw [he]
  · exact h
  · exact h
  · obtain ⟨hi, hscan, hu, -⟩ := h
    exact (recover_kept hi (heldLevels s) hscan hu).lockedAs hi

/-- Settles O8: no operation that waits or is in flight reaches a place of sector 0 or its lock mark, a LOCKED identity takes
none in, and the scan after a reset reads the same again. -/
theorem lockedIdentityIsKept : Obligations.LockedIdentityIsKept := by
  intro i s t h hstep
  exact step_keeps (L := LockedAs i) (fun c s h => exec_keeps_lockedAs c h) (fun s h => idle_keeps_lockedAs h)
    (fun _ _ => id) h hstep

end Sys2Proof.Proofs
end

section
/-! PROOFS. The requests of the record store: reading and acknowledging records, and the identity (O12, O51, O55). -/

namespace Sys2Proof.Proofs

open Sys2Proof Sys2Proof.Machine Sys2Proof.Laws

variable {s : State} {st : Store} {op : StoreOp}

/-- Settles O12: the owner reads the identity of the frame-taken state, which is that of `s`. -/
theorem readIdentityAnswers : Obligations.ReadIdentityAnswers := by
  intro p s h hf
  exact request_answered h hf rfl rfl

/-! ### Places of the queue -/

theorem queueHasRoom_iff : queueHasRoom st = true ↔ queueUsed st < 8 := decide_eq_true_iff

theorem enqueue_room (h : queueHasRoom st = true) : enqueue op st = some { st with queue := st.queue ++ [op] } := if_pos h

theorem queueHasRoom_full (h : 8 ≤ queueUsed st) : queueHasRoom st = false := decide_eq_false (Nat.not_lt.2 h)

theorem enqueue_full (h : queueHasRoom st = false) : enqueue op st = none := if_neg (by simp [h])

/-! ### Reading records (R170, R176) -/

theorem afterRead_eq (st : Store) : afterRead st = { st with
    read := none
    erase := st.erase.map (fun j => if j.phase = .running ∨ j.phase = .suspended then { j with phase := .slice } else j) } := by
  unfold afterRead
  congr 2
  funext j
  cases hj : j.phase <;> simp

/-- Past the last record present a response carries none (R176). -/
theorem recordsFields_past {r : Ring} {offset count : Nat} (h : (ringPresent r st).length ≤ offset) :
    recordsFields r offset count st = byte2 (ringPresent r st).length ++ flagByte (ringOf st r).full
      ++ byte2 (ringOf st r).torn ++ byte1 0 := by
  simp [recordsFields, List.drop_eq_nil_of_le h, fitRecords]

/-! ### READ_RECORDS, answered at once or when the array is free (R170, R176) -/

theorem readRecords_range {r : Ring} {offset count : Nat} (h : 3071 < offset ∨ count < 1 ∨ 4 < count) :
    readRecords (some r) offset count s = (s, refuseRange) :=
  if_pos (by simpa [or_assoc] using h)

theorem readRecords_inRange {r : Ring} {offset count : Nat} (h : offset ≤ 3071) (hmin : 1 ≤ count) (hmax : count ≤ 4) :
    readRecords (some r) offset count s =
      if readable s.store then
        ({ s with store := afterRead s.store }, replyOk (recordsFields r offset count s.store))
      else ({ s with store := { s.store with read := some ⟨r, offset, count⟩ } }, none) :=
  if_neg (by simp; omega)

theorem readReady_waiting {w : WaitingRead} (hw : s.store.read = some w) (h : readable s.store = true) :
    readReady s = answerPort .line (replyOk (recordsFields w.ring w.offset w.count s.store))
      { s with store := afterRead s.store } := by
  simp [readReady, hw, h]

theorem readReady_no_read (h : s.store.read = none) : readReady s = s := by
  simp [readReady, h]

theorem readReady_not_readable (h : readable s.store = false) : readReady s = s := by
  unfold readReady
  split
  · rfl
  · simp [h]

/-! ### ACK_RECORDS (R177) -/

theorem ackRecords_range {r : Ring} {count : Nat} (h : count < 1 ∨ 3072 < count ∨ (ringPresent r s.store).length < count) :
    ackRecords (some r) count s = (s, refuseRange) := by
  unfold ackRecords
  by_cases hc : (count < 1 || 3072 < count) = true
  · exact if_pos hc
  · have past : (ringPresent r s.store)[count - 1]? = none := by
      simp only [Bool.or_eq_true, decide_eq_true_eq] at hc
      exact List.getElem?_eq_none (by omega)
    simp only [if_neg hc, past]

/-- The acknowledged mark of the newest record acknowledged is queued, and the upload mark moves past it. -/
def acknowledged (r : Ring) (position : Nat) (place : Place) (st : Store) : Store :=
  setRing r { ringOf st r with upload := position + 1 } { st with queue := st.queue ++ [.mark place .acknowledged] }

theorem acknowledge_eq (r : Ring) (position : Nat) (place : Place) (st : Store) : acknowledge r position place st =
    if queueHasRoom st then some (acknowledged r position place st) else none := by
  unfold acknowledge enqueue acknowledged
  split
  · cases r <;> rfl
  · rfl

theorem ackRecords_inRange {r : Ring} {count : Nat} {x : Nat × Place × Cell} (hw : nextWork s.store = none)
    (hmin : 1 ≤ count) (hmax : count ≤ 3072) (hx : (ringPresent r s.store)[count - 1]? = some x) :
    ackRecords (some r) count s = if queueHasRoom s.store then
        ({ s with store := acknowledged r x.1 x.2.1 s.store },
          replyOk (byte2 (ringPresent r (acknowledged r x.1 x.2.1 s.store)).length))
      else (s, refuseBusy) := by
  have range : (count < 1 || 3072 < count) = false := by simp; omega
  simp only [ackRecords, range, hx, settleWaiting_none hw, acknowledge_eq, Bool.false_eq_true, if_false]
  cases queueHasRoom s.store <;> rfl

/-- Settles O51: each owner by the range of its fields, then by whether the array is free, or the queue. -/
theorem recordsAreReadAndAcknowledged : Obligations.RecordsAreReadAndAcknowledged := by
  intro r offset count s h resumed present
  have awoken := awake_of_running h
  have resumed_eq : afterRead s.store = resumed := afterRead_eq s.store
  refine ⟨fun hf => ⟨fun hrange => ?_, fun ho hmin hmax => ⟨fun hread => ?_, fun hread => ?_⟩, fun hrange => ?_,
    fun hw hmin hmax x hx => ⟨fun hroom => ?_, fun hroom => ?_⟩⟩, recordsFields_past, fun hread => ?_, fun hread => ?_,
    fun w hw hread => ?_⟩
  · exact request_answered h hf rfl (readRecords_range hrange)
  · refine request_answered h hf rfl ((readRecords_inRange ho hmin hmax).trans ?_)
    rw [← resumed_eq]
    exact if_pos hread
  · change Host.Outcome.next (takeRequest .readRecords .line _ s) = _
    rw [takeRequest_frameTaken h hf rfl, readRecords_inRange ho hmin hmax]
    have waits : readable (frameTaken .line s).store = false := hread
    rw [waits]
    rfl
  · exact request_answered h hf rfl (ackRecords_range hrange)
  · exact request_answered h hf rfl ((ackRecords_inRange (s := frameTaken .line s) hw hmin hmax hx).trans
      (if_neg (Bool.eq_false_iff.1 hroom)))
  · exact request_answered h hf rfl ((ackRecords_inRange (s := frameTaken .line s) hw hmin hmax hx).trans (if_pos hroom))
  · exact congrArg _ ((whenAwake_awake awoken).trans (readReady_no_read hread))
  · exact congrArg _ ((whenAwake_awake awoken).trans (readReady_not_readable hread))
  · rw [← resumed_eq]
    exact congrArg _ ((whenAwake_awake awoken).trans (readReady_waiting hw hread))

/-! ### The identity (R182, R183) -/

theorem identityValid_iff {terminal : Digits} {site : Nat} : identityValid terminal site = true ↔
    terminal.length ≤ 16 ∧ (∀ d ∈ terminal, d ≤ 9) ∧ site ≤ 65535 := by
  simp [identityValid, and_assoc]

theorem writeIdentity_invalid {terminal : Digits} {site : Nat} (h : identityValid terminal site = false) :
    writeIdentity terminal site s = (s, refuseRange) := by
  simp [writeIdentity, h]

theorem writeIdentity_locked {terminal : Digits} {site : Nat} (h : identityValid terminal site = true)
    (hl : s.store.identity.lock ≠ .unlocked) : writeIdentity terminal site s = (s, refuseState) := by
  simp [writeIdentity, h, hl]

theorem writeIdentity_room {terminal : Digits} {site : Nat} {ops : List StoreOp} {place : Nat}
    (h : identityValid terminal site = true) (hl : s.store.identity.lock = .unlocked) (hw : nextWork s.store = none)
    (hops : identityOps terminal site s.store = (ops, place)) (hr : queueUsed s.store + ops.length ≤ 8) :
    writeIdentity terminal site s =
      ({ s with store := { s.store with
          queue := s.store.queue ++ ops
          identity := { terminal := terminal, site := site, lock := .unlocked, newest := some place, next := place + 1 } } },
        replyOk []) := by
  simp [writeIdentity, h, hl, settleWaiting_none hw, hops, Config.queuePlaces, hr]

theorem writeIdentity_full {terminal : Digits} {site : Nat} (h : identityValid terminal site = true)
    (hl : s.store.identity.lock = .unlocked) (hw : nextWork s.store = none) (hn : s.store.identity.next < 64)
    (hr : 8 ≤ queueUsed s.store) : writeIdentity terminal site s = (s, refuseBusy) := by
  have hops : identityOps terminal site s.store = ([_], _) := if_pos hn
  have full : ¬ queueUsed s.store + 1 ≤ 8 := by omega
  simp [writeIdentity, h, hl, settleWaiting_none hw, hops, Config.queuePlaces, full]

theorem lockIdentity_refused (h : s.store.identity.lock ≠ .unlocked ∨ s.store.identity.terminal = []) :
    lockIdentity s = (s, refuseState) := if_pos h

theorem lockIdentity_full (hl : s.store.identity.lock = .unlocked) (ht : s.store.identity.terminal ≠ [])
    (hw : nextWork s.store = none) (hr : 8 ≤ queueUsed s.store) : lockIdentity s = (s, refuseBusy) := by
  have written : ¬ (s.store.identity.lock ≠ .unlocked ∨ s.store.identity.terminal = []) := by simp [hl, ht]
  simp only [lockIdentity, if_neg written, settleWaiting_none hw, enqueue_full (queueHasRoom_full hr)]

theorem lockIdentity_room {k : Nat} (hl : s.store.identity.lock = .unlocked) (ht : s.store.identity.terminal ≠ [])
    (hw : nextWork s.store = none) (hr : queueUsed s.store < 8) (hk : s.store.identity.newest = some k) : lockIdentity s =
      ({ s with store := { s.store with
          queue := s.store.queue ++ [.mark ⟨0, k, 0⟩ .lock]
          identity := { s.store.identity with lock := .locking } } }, replyAccepted) := by
  have written : ¬ (s.store.identity.lock ≠ .unlocked ∨ s.store.identity.terminal = []) := by simp [hl, ht]
  simp only [lockIdentity, if_neg written, settleWaiting_none hw, enqueue_room (queueHasRoom_iff.2 hr), hk, Option.getD_some]

/-- Settles O55: WRITE_IDENTITY by its fields, the lock and the places left in sector 0; LOCK_IDENTITY by the lock and the
places of the queue. -/
theorem identityIsWrittenAndLocked : Obligations.IdentityIsWrittenAndLocked := by
  intro p terminal site s h hf valid used
  refine ⟨fun hp => ⟨fun hv => ?_, fun hv hl => ?_,
    fun hv hl hw => ⟨fun hn => ⟨fun hu => ?_, fun hu => ?_⟩, fun hn hu => ?_⟩⟩, ?_⟩
  · have invalid : identityValid terminal site = false := Bool.eq_false_iff.2 (mt identityValid_iff.1 hv)
    exact request_answered h hf (permitted_operator hp) (writeIdentity_invalid invalid)
  · exact request_answered h hf (permitted_operator hp) (writeIdentity_locked (identityValid_iff.2 hv) hl)
  · exact request_answered h hf (permitted_operator hp)
      (writeIdentity_full (s := frameTaken p s) (identityValid_iff.2 hv) hl hw hn hu)
  · exact request_answered h hf (permitted_operator hp)
      (writeIdentity_room (s := frameTaken p s) (identityValid_iff.2 hv) hl hw (if_pos hn) (Nat.succ_le_of_lt hu))
  · exact request_answered h hf (permitted_operator hp) (writeIdentity_room (s := frameTaken p s) (identityValid_iff.2 hv) hl hw
      (if_neg (Nat.not_lt.2 hn)) (Nat.add_le_add_right (Nat.le_of_lt_succ hu) 2))
  · rintro rfl
    refine ⟨fun hl => ?_, fun hl ht hw => ⟨fun hu => ?_, fun hu k hk => ?_⟩⟩
    · exact request_answered h hf rfl (lockIdentity_refused hl)
    · exact request_answered h hf rfl (lockIdentity_full (s := frameTaken .line s) hl ht hw hu)
    · exact request_answered h hf rfl (lockIdentity_room (s := frameTaken .line s) hl ht hw hu hk)

end Sys2Proof.Proofs
end

section
/-! PROOFS. The supply falls below FAIL (O57). -/

namespace Sys2Proof.Proofs

open Sys2Proof Sys2Proof.Machine Sys2Proof.Laws

variable {s : State}

theorem programBlank_cells (key : Nat) (v : Cell) (a : NvArray) :
    programBlank key v a = { a with cells := (programBlank key v a).cells } := by
  unfold programBlank
  split <;> rfl

theorem tearProgram_cells (job : Option ProgramJob) (a : NvArray) :
    tearProgram job a = { a with cells := (tearProgram job a).cells } := by
  unfold tearProgram
  split
  · exact programBlank_cells _ _ a
  · rfl

/-- A reset tears places and changes nothing else of the array. -/
theorem arrayAfterReset_cells (s : State) :
    arrayAfterReset s = { s.store.array with cells := (arrayAfterReset s).cells } := by
  unfold arrayAfterReset
  simp only
  rw [tearProgram_cells]

theorem arrayAfterReset_otherErase (h : ∀ j, s.store.erase = some j → j.sector ≠ 0) :
    arrayAfterReset s = tearProgram s.store.program s.store.array := by
  unfold arrayAfterReset
  simp only [tearErase_otherSector h]

theorem tearProgram_mark {place : Place} {kind : MarkKind} {job : ProgramJob} (h : job.op = .mark place kind) (a : NvArray) :
    tearProgram (some job) a = a := by
  obtain ⟨op, reserved⟩ := job
  obtain rfl : op = _ := h
  rfl

theorem tearProgram_record {place : Place} {r : Record} {job : ProgramJob} (h : job.op = .record place r) (a : NvArray) :
    tearProgram (some job) a = programBlank (placeKey place.sector place.number) { record := none, marks := [] } a := by
  obtain ⟨op, reserved⟩ := job
  obtain rfl : op = _ := h
  rfl

theorem supplyFails_powered (h : s.supply.inReset = false) : supplyFails s =
    { resetVolatile .supplyReset s with supply := { cause := .supplyReset, inReset := true } } :=
  if_neg (by simp [h])

/-- Settles O57: a reset puts every block to its reset value, and of the array tears the place of the record program in
flight, where no erase of sector 0 is cut off. -/
theorem supplyFailureLosesTheVolatileState : Obligations.SupplyFailureLosesTheVolatileState := by
  intro s
  refine ⟨fun hr => congrArg Host.Outcome.next (if_pos hr),
    fun hr => ⟨_, congrArg Host.Outcome.next (supplyFails_powered hr), rfl, ?_, fun he => ?_⟩⟩
  · exact arrayAfterReset_cells s
  have torn := arrayAfterReset_otherErase he
  change (s.store.program = none → arrayAfterReset s = s.store.array) ∧ _
  refine ⟨fun hp => by rw [torn, hp]; rfl, fun x hx => ⟨fun place kind hop => ?_, fun place r hop => ?_⟩⟩
  · change arrayAfterReset s = s.store.array
    rw [torn, hx, tearProgram_mark hop]
  · rw [hx, tearProgram_record hop] at torn
    change (∀ c, _ → arrayAfterReset s = s.store.array) ∧ (_ → readCell _ (arrayAfterReset s).cells = _)
      ∧ ∀ key, _ → readCell key (arrayAfterReset s).cells = _
    rw [torn]
    exact ⟨fun c hc => programBlank_programmed hc, readCell_programBlank_self, fun key => readCell_programBlank_other⟩

end Sys2Proof.Proofs
end

section
/-! PROOFS. The store takes its next operation, and the slice of a resumed erase ends (O52). -/

namespace Sys2Proof.Proofs

open Sys2Proof Sys2Proof.Machine Sys2Proof.Laws

variable {s : State} {st : Store} {op : StoreOp} {ahead behind rest : List StoreOp} {j : EraseJob} {warn : Bool} {k : Nat}

/-! ### What the engine begins -/

theorem beginOp_program (h : (programSector op).isSome = true) (reserved : Bool) (st : Store) :
    beginOp op reserved st = { st with program := some { op := op, reserved := reserved } } := by
  cases op with
  | record | mark => rfl
  | erase | commit => cases h

theorem beginOp_commit (reserved : Bool) (st : Store) : beginOp .commit reserved st = { st with
    erase := some { sector := commitSector st.array, seq := 0, commit := true, phase := .running }
    array := if commitSector st.array = 1
      then { st.array with headers := dropHeader 1 st.array.headers, image1 := none }
      else { st.array with headers := dropHeader 2 st.array.headers, image2 := none } } := by
  have sectors : commitSector st.array = 1 ∨ commitSector st.array = 2 := by
    unfold commitSector
    split
    · exact .inl rfl
    · exact .inr rfl
    · split
      · exact .inl rfl
      · exact .inr rfl
  unfold beginOp beginCommit
  rcases sectors with h | h <;> simp [h]

theorem splitProgram_none (h : ∀ x ∈ rest, programSector x = none) : splitProgram rest = none := by
  induction rest with
  | nil => rfl
  | cons x rest ih =>
    obtain ⟨hx, hrest⟩ := List.forall_mem_cons.1 h
    simp [splitProgram, hx, ih hrest]

theorem splitProgram_some (h : ∀ x ∈ ahead, programSector x = none) (hop : (programSector op).isSome = true) :
    splitProgram (ahead ++ op :: behind) = some (ahead, op, behind) := by
  induction ahead with
  | nil => simp [splitProgram, hop]
  | cons x ahead ih =>
    obtain ⟨hx, hahead⟩ := List.forall_mem_cons.1 h
    simp [splitProgram, hx, ih hahead]

/-! ### What it takes, by what is in flight (R168, R169, R188) -/

theorem takeNext_reserved (h : st.reserved = some op) : takeNext st = beginOp op true { st with reserved := none } := by
  simp [takeNext, h]

theorem takeNext_queued (hr : st.reserved = none) (hq : st.queue = op :: rest) :
    takeNext st = beginOp op false { st with queue := rest } := by
  simp [takeNext, hr, hq]

theorem takeNext_empty (hr : st.reserved = none) (hq : st.queue = []) : takeNext st = st := by
  simp [takeNext, hr, hq]

theorem takeInWarn_reserved (h : st.reserved = some op) : takeInWarn st = beginOp op true { st with reserved := none } := by
  simp [takeInWarn, h]

theorem takeInWarn_no_program (hr : st.reserved = none) (hq : ∀ x ∈ st.queue, programSector x = none) : takeInWarn st = st := by
  simp [takeInWarn, hr, splitProgram_none hq]

/-- An erase of the program's sector that is queued ahead of it, or in flight. -/
def isBarred (ahead : List StoreOp) (k : Nat) (st : Store) : Prop :=
  (∃ x ∈ ahead, isEraseOf k x = true) ∨ (∃ j, st.erase = some j ∧ j.sector = k ∧ j.commit = false)

theorem barred_iff : (ahead.any (isEraseOf k) || erasing st k) = true ↔ isBarred ahead k st := by
  unfold isBarred erasing
  rw [Bool.or_eq_true, List.any_eq_true]
  refine or_congr .rfl ?_
  cases he : st.erase with
  | none => simp
  | some j => simp [and_comm]

theorem takeInWarn_program (hr : st.reserved = none) (hq : st.queue = ahead ++ op :: behind)
    (ha : ∀ x ∈ ahead, programSector x = none) (hop : programSector op = some k) : takeInWarn st =
      if (ahead.any (isEraseOf k) || erasing st k) = true then st
      else { st with queue := ahead ++ behind, program := some { op := op, reserved := false } } := by
  have program : (programSector op).isSome = true := by rw [hop]; rfl
  simp only [takeInWarn, hr, hq, splitProgram_some ha program, hop, Option.getD_some, beginOp_program program]

theorem takePassing_reserved (hr : st.reserved = some op) (h : ∃ k, programSector op = some k ∧ k ≠ j.sector) :
    takePassing j st = { st with
      reserved := none, erase := some { j with phase := .suspended }, program := some { op := op, reserved := true } } := by
  obtain ⟨k, hk, hne⟩ := h
  have program : (programSector op).isSome = true := by rw [hk]; rfl
  simp [takePassing, hr, hk, hne, beginOp_program program]

theorem takePassing_queued (hr : st.reserved = none) (hq : st.queue = op :: rest)
    (h : ∃ k, programSector op = some k ∧ k ≠ j.sector) : takePassing j st = { st with
      queue := rest, erase := some { j with phase := .suspended }, program := some { op := op, reserved := false } } := by
  obtain ⟨k, hk, hne⟩ := h
  have program : (programSector op).isSome = true := by rw [hk]; rfl
  simp [takePassing, hr, hq, hk, hne, beginOp_program program]

theorem takePassing_stays (hr : st.reserved = none) (hq : st.queue = op :: rest)
    (h : programSector op = none ∨ programSector op = some j.sector) : takePassing j st = st := by
  rcases h with h | h <;> simp [takePassing, hr, hq, h]

theorem startOperation_busy (h : st.program ≠ none ∨ st.read ≠ none) : startOperation warn st = st := by
  refine if_pos ?_
  simpa [Option.isSome_iff_ne_none] using h

theorem startOperation_free (hp : st.program = none) (hr : st.read = none) (he : st.erase = none) :
    startOperation warn st = if warn then takeInWarn st else takeNext st := by
  simp [startOperation, hp, hr, he]

theorem startOperation_running (hp : st.program = none) (hr : st.read = none) (he : st.erase = some j)
    (hj : j.phase = .running) : startOperation warn st = if warn then st else takePassing j st := by
  simp [startOperation, hp, hr, he, hj]

theorem startOperation_held (he : st.erase = some j) (hrun : j.phase ≠ .running) (hstop : j.phase ≠ .stopped) :
    startOperation warn st = st := by
  unfold startOperation
  split
  · rfl
  rw [he]
  simp only
  split <;> simp_all

theorem startOperation_inWarn (hp : st.program = none) (hr : st.read = none) (he : ∀ j, st.erase = some j → j.phase = .stopped) :
    startOperation true st = takeInWarn st := by
  unfold startOperation
  rw [hp, hr]
  simp only [Option.isSome_none, Bool.or_self, Bool.false_eq_true, if_false, if_true]
  split
  · rfl
  · simp [he _ (by assumption)]

/-- With nothing in flight a program is begun in WARN as in NORMAL. -/
theorem startOperation_reserved (hp : st.program = none) (hr : st.read = none) (he : st.erase = none)
    (h : st.reserved = some op) : startOperation warn st = beginOp op true { st with reserved := none } := by
  rw [startOperation_free hp hr he, takeInWarn_reserved h, takeNext_reserved h, ite_self]

theorem startOperation_program (hp : st.program = none) (hr : st.read = none) (he : st.erase = none) (hv : st.reserved = none)
    (hq : st.queue = op :: rest) (hop : (programSector op).isSome = true) :
    startOperation warn st = { st with queue := rest, program := some { op := op, reserved := false } } := by
  obtain ⟨k, hk⟩ := Option.isSome_iff_exists.1 hop
  have unbarred : ¬ (([] : List StoreOp).any (isEraseOf k) || erasing st k) = true := by simp [erasing, he]
  rw [startOperation_free hp hr he, takeNext_queued hv hq, beginOp_program hop,
    takeInWarn_program hv (ahead := []) hq (by simp) hk, if_neg unbarred, List.nil_append, ite_self]

theorem startOperation_empty (hp : st.program = none) (hr : st.read = none) (he : st.erase = none) (hv : st.reserved = none)
    (hq : st.queue = []) : startOperation warn st = st := by
  rw [startOperation_free hp hr he, takeNext_empty hv hq, takeInWarn_no_program hv (by simp [hq]), ite_self]

/-! ### The slice (R169) -/

theorem sliceEnds_eq (h : st.erase = some j) (hj : j.phase = .slice) :
    sliceEnds st = { st with erase := some { j with phase := .running } } := by
  simp [sliceEnds, h, hj]

theorem sliceEnds_none (h : ∀ j, st.erase = some j → j.phase ≠ .slice) : sliceEnds st = st := by
  have kept : st.erase.map (fun j => if j.phase = .slice then { j with phase := ErasePhase.running } else j) = st.erase := by
    cases he : st.erase with
    | none => rfl
    | some j => simp [h j he]
  unfold sliceEnds
  rw [kept]

/-! ### The two commands -/

theorem operationStart_store (ha : awake s = true) (h : startOperation (s.supply.state == .warn) s.store = st) :
    exec .storeOperationStart s = .next { s with store := st } := by
  subst h
  exact congrArg Host.Outcome.next (whenAwake_awake ha)

theorem sliceEnd_store (ha : awake s = true) (h : sliceEnds s.store = st) :
    exec .eraseSliceEnd s = .next { s with store := st } := by
  subst h
  exact congrArg Host.Outcome.next (whenAwake_awake ha)

/-- Settles O52: by what is in flight, by the supply, and by the operation that stands first. -/
theorem storeTakesOperations : Obligations.StoreTakesOperations := by
  intro s ha
  have starts {st : Store} (h : ∀ warn, startOperation warn s.store = st) :
      exec .storeOperationStart s = .next { s with store := st } := operationStart_store ha (h _)
  have startsNormal {st : Store} (hn : s.supply.state = .normal) (h : startOperation false s.store = st) :
      exec .storeOperationStart s = .next { s with store := st } := operationStart_store ha (by rw [hn]; exact h)
  have startsWarn {st : Store} (hw : s.supply.state = .warn) (h : startOperation true s.store = st) :
      exec .storeOperationStart s = .next { s with store := st } := operationStart_store ha (by rw [hw]; exact h)
  refine ⟨fun hbusy => starts fun _ => startOperation_busy hbusy, fun hp hr => ⟨fun he => ⟨?_, ?_, ?_⟩, ?_, ?_, ?_⟩,
    fun he => sliceEnd_store ha (sliceEnds_none (by simp [he])),
    fun j he => ⟨fun hj => sliceEnd_store ha (sliceEnds_eq he hj), fun hj => sliceEnd_store ha (sliceEnds_none ?_)⟩⟩
  case refine_1 =>
    intro op hv hop
    exact starts fun _ => (startOperation_reserved hp hr he hv).trans (beginOp_program hop _ _)
  case refine_2 =>
    intro hv hq
    exact starts fun _ => startOperation_empty hp hr he hv hq
  case refine_3 =>
    intro hv op rest hq
    have taken : startOperation false s.store = beginOp op false { s.store with queue := rest } :=
      (startOperation_free hp hr he).trans (takeNext_queued hv hq)
    refine ⟨fun hop => starts fun _ => startOperation_program hp hr he hv hq hop, fun hn sector seq hop => ?_, fun hn hop => ?_⟩
    · exact startsNormal hn (taken.trans (by rw [hop]; rfl))
    · exact startsNormal hn (taken.trans (by rw [hop, beginOp_commit]))
  case refine_4 =>
    intro j he hj hn
    have passes : startOperation false s.store = takePassing j s.store := startOperation_running hp hr he hj
    refine ⟨fun op hv h => startsNormal hn (passes.trans (takePassing_reserved hv h)),
      fun hv op rest hq => ⟨fun h => ?_, fun h => ?_⟩⟩
    · exact startsNormal hn (passes.trans (takePassing_queued hv hq h))
    · exact startsNormal hn (passes.trans (takePassing_stays hv hq h))
  case refine_5 =>
    intro j he hrun hstop
    exact starts fun _ => startOperation_held he hrun hstop
  case refine_6 =>
    intro hw he
    have taken : startOperation true s.store = takeInWarn s.store := startOperation_inWarn hp hr he
    refine ⟨fun op hv hop => startsWarn hw (taken.trans ((takeInWarn_reserved hv).trans (beginOp_program hop _ _))),
      fun hv hq => startsWarn hw (taken.trans (takeInWarn_no_program hv hq)), ?_⟩
    intro hv ahead op behind hq hahead k hk barred
    have program := takeInWarn_program hv hq hahead hk
    refine ⟨fun h => ?_, fun h => ?_⟩
    · exact startsWarn hw (taken.trans (program.trans (if_pos (barred_iff.2 h))))
    · exact startsWarn hw (taken.trans (program.trans (if_neg (mt barred_iff.1 h))))
  case refine_7 =>
    intro i hi
    obtain rfl := Option.some.inj (he.symm.trans hi)
    exact hj

end Sys2Proof.Proofs
end

section
/-! PROOFS. Operations of the array end (O53). -/

namespace Sys2Proof.Proofs

open Sys2Proof Sys2Proof.Machine Sys2Proof.Laws

variable {s : State} {st : Store} {j : EraseJob} {place : Place} {kind : MarkKind} {r : Record}

/-! ### What the engine's bookkeeping writes (R168, R190) -/

theorem freedPlace_writes (s : State) : ∃ queue marks owed,
    freedPlace s = { s with store := { s.store with queue := queue, waitingMarks := marks, saveOwed := owed } } := by
  unfold freedPlace
  split <;> exact ⟨_, _, _, rfl⟩

theorem endProgram_writes (st : Store) : ∃ erase, endProgram st = { st with program := none, erase := erase } := by
  unfold endProgram resumeErase
  split <;> exact ⟨_, rfl⟩

theorem supersedeEnded_writes (p : Place) (st : Store) : ∃ after reserved,
    supersedeEnded p st = { st with supersedeAfter := after, reserved := reserved } := by
  unfold supersedeEnded
  split <;> exact ⟨_, _, rfl⟩

theorem placeWaitingSave_writes (st : Store) : ∃ save reserved,
    placeWaitingSave st = { st with nextSave := save, reserved := reserved } := by
  unfold placeWaitingSave
  split <;> exact ⟨_, _, rfl⟩

theorem testSaveErase_writes (st : Store) : ∃ owed, testSaveErase st = { st with saveOwed := owed } := by
  unfold testSaveErase
  split <;> exact ⟨_, rfl⟩

/-! ### A record's program ends (R166, R168) -/

theorem programDone_idle (h : s.store.program = none) : programDone s = s := by
  simp [programDone, h]

/-- The record's program ends with the place programmed, and writes the store alone. -/
theorem programDone_record {reserved : Bool} (h : s.store.program = some { op := .record place r, reserved := reserved }) :
    ∃ st, programDone s = { s with store := st } ∧ st.program = none ∧ st.array = (programRecord place r s.store).array := by
  obtain ⟨erase, hend⟩ := endProgram_writes (programRecord place r s.store)
  obtain ⟨after, next, hsup⟩ := supersedeEnded_writes place (endProgram (programRecord place r s.store))
  obtain ⟨queue, marks, owed, hfreed⟩ :=
    freedPlace_writes { s with store := supersedeEnded place (endProgram (programRecord place r s.store)) }
  unfold programDone
  rw [h]
  simp only [hfreed]
  rw [hsup, hend]
  cases reserved <;> exact ⟨_, rfl, rfl, rfl⟩

/-! ### A mark's program ends (R166, R178) -/

theorem markProgramDone_idle (h : s.store.program = none) : markProgramDone s = s := by
  simp [markProgramDone, h]

theorem programMark_cells (key : Nat) (m : MarkKind) (a : NvArray) :
    programMark key m a = { a with cells := (programMark key m a).cells } := by
  unfold programMark
  split
  · rfl
  · split <;> rfl

theorem readCell_programMark_self {key : Nat} {c : Cell} {a : NvArray} (m : MarkKind) (h : readCell key a.cells = some c) :
    readCell key (programMark key m a).cells =
      some { c with marks := if m ∈ c.marks then c.marks else c.marks ++ [m] } := by
  unfold programMark
  rw [h]
  by_cases hm : m ∈ c.marks
  · simp [hm, h]
  · simp [hm, readCell_writeCell_self]

theorem readCell_programMark_other {key other : Nat} {m : MarkKind} {a : NvArray} (h : other ≠ key) :
    readCell other (programMark key m a).cells = readCell other a.cells := by
  unfold programMark
  split
  · rfl
  · split
    · rfl
    · exact readCell_writeCell_other _ _ h

/-- A mark is programmed, unless it is a reported mark whose sector bears another number. -/
def markFits (place : Place) (kind : MarkKind) (st : Store) : Prop :=
  kind ≠ .reported ∨ headerSeq place.sector st.array.headers = some place.seq

theorem programMarkOp_fits (h : markFits place kind st) : programMarkOp place kind st =
    { st with array := programMark (placeKey place.sector place.number) kind st.array } := by
  refine if_neg ?_
  rintro ⟨hkind, hseq⟩
  exact h.elim (· hkind) (absurd · hseq)

theorem programMarkOp_stale (hk : kind = .reported) (hs : headerSeq place.sector st.array.headers ≠ some place.seq) :
    programMarkOp place kind st = st := if_pos ⟨hk, hs⟩

theorem programMarkOp_writes (place : Place) (kind : MarkKind) (st : Store) : ∃ cells,
    programMarkOp place kind st = { st with array := { st.array with cells := cells } } := by
  unfold programMarkOp
  split
  · exact ⟨st.array.cells, rfl⟩
  · exact ⟨_, congrArg (fun a => { st with array := a }) (programMark_cells _ _ _)⟩

theorem programMarkOp_other {key : Nat} (h : key ≠ placeKey place.sector place.number) :
    readCell key (programMarkOp place kind st).array.cells = readCell key st.array.cells := by
  unfold programMarkOp
  split
  · rfl
  · exact readCell_programMark_other h

theorem markProgramDone_eq {reserved : Bool} (h : s.store.program = some { op := .mark place kind, reserved := reserved }) :
    markProgramDone s = freedPlace (afterMark kind { s with store := endProgram (programMarkOp place kind s.store) }) := by
  simp [markProgramDone, h]

/-- What follows the program of any mark but the lock mark writes the store alone. -/
theorem afterMark_writes (hk : kind ≠ .lock) (s : State) : ∃ save reserved owed,
    afterMark kind s = { s with store := { s.store with nextSave := save, reserved := reserved, saveOwed := owed } } := by
  cases kind with
  | lock => exact absurd rfl hk
  | superseded =>
    obtain ⟨save, reserved, hplace⟩ := placeWaitingSave_writes s.store
    obtain ⟨owed, htest⟩ := testSaveErase_writes (placeWaitingSave s.store)
    refine ⟨save, reserved, owed, ?_⟩
    simp only [afterMark, htest]
    rw [hplace]
  | acknowledged | reported | resolved => exact ⟨_, _, _, rfl⟩

theorem offerAll_setStore (k : NoticeKind) (fs : List (List Byte)) (st : Store) (s : State) :
    offerAll k fs { s with store := st } = { offerAll k fs s with store := st } := by
  unfold offerAll
  simp only
  split <;> rfl

/-- The identity, LOCKED by its mark, is told of, and the need of a report weighed behind that (R183). -/
theorem identityLocked_eq (st : Store) (s : State) : identityLocked { s with store := st } =
    weigh { offerAll .identityLocked [packTerminal st.identity.terminal, byte2 st.identity.site] s with
      store := { st with identity := { st.identity with lock := .locked } } } := by
  simp only [identityLocked, offerAll_setStore]

theorem markProgramDone_other {reserved : Bool} (hk : kind ≠ .lock)
    (h : s.store.program = some { op := .mark place kind, reserved := reserved }) :
    ∃ st, markProgramDone s = { s with store := st } ∧ st.program = none ∧ st.identity = s.store.identity
      ∧ st.array = (programMarkOp place kind s.store).array := by
  obtain ⟨cells, hmark⟩ := programMarkOp_writes place kind s.store
  obtain ⟨erase, hend⟩ := endProgram_writes (programMarkOp place kind s.store)
  obtain ⟨save, next, owed, hafter⟩ := afterMark_writes hk { s with store := endProgram (programMarkOp place kind s.store) }
  obtain ⟨queue, marks, again, hfreed⟩ :=
    freedPlace_writes (afterMark kind { s with store := endProgram (programMarkOp place kind s.store) })
  rw [markProgramDone_eq h, hfreed, hafter, hend, hmark]
  exact ⟨_, rfl, rfl, rfl, rfl⟩

theorem freedPlace_weigh_writes (s : State) : ∃ queue marks owed, freedPlace (weigh s) =
    { weigh s with store := { s.store with queue := queue, waitingMarks := marks, saveOwed := owed } } := by
  obtain ⟨queue, marks, owed, h⟩ := freedPlace_writes (weigh s)
  rw [weigh_store] at h
  exact ⟨queue, marks, owed, h⟩

/-- The lock mark's program ends: the notice first, then the weighing, then the freed place of the queue. -/
theorem markProgramDone_lock {reserved : Bool} (h : s.store.program = some { op := .mark place .lock, reserved := reserved }) :
    ∃ st st' : Store, markProgramDone s =
        { weigh { offerAll .identityLocked [packTerminal s.store.identity.terminal, byte2 s.store.identity.site] s with
          store := st } with store := st' }
      ∧ st.identity = { s.store.identity with lock := .locked } ∧ st'.identity = { s.store.identity with lock := .locked }
      ∧ st'.program = none ∧ st'.array = (programMarkOp place .lock s.store).array := by
  obtain ⟨cells, hmark⟩ := programMarkOp_writes place .lock s.store
  obtain ⟨erase, hend⟩ := endProgram_writes (programMarkOp place .lock s.store)
  generalize hst : endProgram (programMarkOp place .lock s.store) = st at hend
  have identity : st.identity = s.store.identity := by rw [hend, hmark]
  obtain ⟨queue, marks, owed, hfreed⟩ := freedPlace_weigh_writes { offerAll .identityLocked
    [packTerminal s.store.identity.terminal, byte2 s.store.identity.site] s with
      store := { st with identity := { s.store.identity with lock := .locked } } }
  have hdone := markProgramDone_eq h
  rw [hst, afterMark, identityLocked_eq, identity, hfreed] at hdone
  exact ⟨_, _, hdone, rfl, rfl, by simp [hend], by simp [hend]⟩

/-- What a mark's program does to the array. -/
theorem programMarkOp_array (place : Place) (kind : MarkKind) (st : Store) :
    (programMarkOp place kind st).array = { st.array with cells := (programMarkOp place kind st).array.cells }
    ∧ (kind = .reported → headerSeq place.sector st.array.headers ≠ some place.seq →
        (programMarkOp place kind st).array = st.array)
    ∧ (markFits place kind st → ∀ c, readCell (placeKey place.sector place.number) st.array.cells = some c →
        readCell (placeKey place.sector place.number) (programMarkOp place kind st).array.cells =
          some { c with marks := if kind ∈ c.marks then c.marks else c.marks ++ [kind] })
    ∧ ∀ key, key ≠ placeKey place.sector place.number →
        readCell key (programMarkOp place kind st).array.cells = readCell key st.array.cells := by
  obtain ⟨cells, hmark⟩ := programMarkOp_writes place kind st
  refine ⟨by rw [hmark], fun hk hs => by rw [programMarkOp_stale hk hs], fun hf c hc => ?_, fun key => programMarkOp_other⟩
  rw [programMarkOp_fits hf]
  exact readCell_programMark_self kind hc

/-! ### An erase ends (R166, R169, R171) -/

theorem programHeader_eq (sector q : Nat) (a : NvArray) : programHeader sector q a =
    { a with headers := if sector = 0 then a.headers else writeHeader sector q a.headers } := by
  unfold programHeader
  split <;> rfl

theorem eraseDone_idle (h : ∀ j, s.store.erase = some j → eraseActive j = false) : eraseDone s = s := by
  unfold eraseDone
  split
  · rfl
  · simp [h _ (by assumption)]

theorem commitDone_idle (h : ∀ j, s.store.erase = some j → j.phase = .suspended ∨ j.phase = .stopped) : commitDone s = s := by
  unfold commitDone
  split
  · rfl
  · rename_i j hj
    rcases h j hj with hp | hp <;> simp [hp]

theorem eraseActive_of_held (h : j.phase = .suspended ∨ j.phase = .stopped) : eraseActive j = false := by
  rcases h with h | h <;> simp [eraseActive, h]

theorem eraseDone_commit (h : s.store.erase = some j) (hp : j.phase = .running) (hc : j.commit = true) :
    eraseDone s = commitErased j s := by
  simp [eraseDone, h, eraseActive, hp, hc]

/-- An erase ends with its sector blank under its new header, and writes the store alone. -/
theorem eraseDone_erase (h : s.store.erase = some j) (hp : j.phase = .running) (hc : j.commit = false) :
    ∃ st, eraseDone s = { s with store := st } ∧ st.erase = none ∧ st.array = (finishErase j s.store).array := by
  obtain ⟨queue, marks, owed, hfreed⟩ := freedPlace_writes { s with store := finishErase j s.store }
  have ended : eraseDone s = freedPlace { s with store := finishErase j s.store } := by
    simp [eraseDone, h, eraseActive, hp, hc]
  rw [ended, hfreed]
  exact ⟨_, rfl, rfl, rfl⟩

/-! ### A COMMIT ends (R181) -/

/-- The image copy that a COMMIT leaves valid. -/
def committed (sector : Nat) (cfg : Configuration) (s : State) : NvArray :=
  let copy : ImageCopy := { seq := commitSequence sector s, cfg := cfg }
  if sector = 1 then { s.store.array with image1 := some copy } else { s.store.array with image2 := some copy }

theorem commitDone_commit {cfg : Configuration} (h : s.store.erase = some j) (hp : j.phase = .programming cfg)
    (hc : j.commit = true) : ∃ st ports, commitDone s = { s with freeCount := s.freeCount + 1, store := st, ports := ports }
      ∧ st.erase = none ∧ st.array = committed j.sector cfg s := by
  have ended : commitDone s = freedPlace (finishCommit j.sector cfg s) := by
    simp [commitDone, h, hp, hc]
  obtain ⟨queue, marks, owed, hfreed⟩ := freedPlace_writes (finishCommit j.sector cfg s)
  rw [ended, hfreed, finishCommit, postNotice_eq]
  exact ⟨_, _, rfl, by simp, by simp [committed]⟩

theorem commitSequence_second {other : ImageCopy} (h : s.store.array.image2 = some other) : commitSequence 1 s = other.seq + 1 := by
  simp [commitSequence, h]

theorem commitSequence_first {other : ImageCopy} (h : s.store.array.image1 = some other) : commitSequence 2 s = other.seq + 1 := by
  simp [commitSequence, h]

theorem committed_images (sector : Nat) (cfg : Configuration) (s : State) : committed sector cfg s =
    { s.store.array with image1 := (committed sector cfg s).image1, image2 := (committed sector cfg s).image2 } := by
  unfold committed
  simp only
  split <;> rfl

/-! ### The commands -/

/-- Settles O53: the end of a record's program, of a mark's, of an erase and of a COMMIT, each by what it writes. -/
theorem arrayOperationsEnd : Obligations.ArrayOperationsEnd := by
  intro s ha
  have ends {c : Instr} {f : State → State} (hc : exec c s = .next (whenAwake f s)) {t : State} (h : f s = t) :
      exec c s = .next t := by rw [hc, whenAwake_awake ha, h]
  refine ⟨fun hp => ⟨ends rfl (programDone_idle hp), ends rfl (markProgramDone_idle hp)⟩, ?programs,
    fun he => ⟨ends rfl (eraseDone_idle (by simp [he])), ends rfl (commitDone_idle (by simp [he]))⟩, ?erases⟩
  case programs =>
    rintro ⟨op, reserved⟩ hx
    refine ⟨?_, ?_⟩
    · rintro place r (rfl : op = _)
      obtain ⟨st, hdone, hprogram, harray⟩ := programDone_record hx
      refine ⟨_, ends rfl hdone, hprogram, rfl, ?_⟩
      simp only [harray, programRecord]
      exact ⟨programBlank_cells _ _ _, fun c hc => programBlank_programmed hc, readCell_programBlank_self,
        fun key => readCell_programBlank_other⟩
    · rintro place kind (rfl : op = _)
      by_cases hk : kind = .lock
      · subst hk
        obtain ⟨st, st', hdone, hid, hid', hprogram, harray⟩ := markProgramDone_lock hx
        obtain ⟨-, -, hcfg, hcoin, haccount, -, hcall, -⟩ := weigh_same { offerAll .identityLocked
          [packTerminal s.store.identity.terminal, byte2 s.store.identity.site] s with store := st }
        have grown := (weigh_goesBy (i := srcStore) { offerAll .identityLocked
          [packTerminal s.store.identity.terminal, byte2 s.store.identity.site] s with store := st }).notices
        refine ⟨_, ends rfl hdone, hprogram, by simpa using hcfg, by simpa using hcoin, by simpa using haccount,
          by simpa using hcall, fun h => absurd rfl h, fun _ => ⟨hid', ⟨st, hid, rfl⟩, grown⟩, ?_⟩
        have marked := programMarkOp_array place .lock s.store
        rw [← harray] at marked
        exact marked
      · obtain ⟨st, hdone, hprogram, hid, harray⟩ := markProgramDone_other hk hx
        refine ⟨_, ends rfl hdone, hprogram, rfl, rfl, rfl, rfl, fun _ => ⟨rfl, hid⟩, fun h => absurd h hk, ?_⟩
        exact harray ▸ programMarkOp_array place kind s.store
  case erases =>
    intro j hj
    refine ⟨fun hheld => ⟨ends rfl (eraseDone_idle ?_), ends rfl (commitDone_idle ?_)⟩, fun hp hc => ?_, fun hp hc => ?_,
      fun cfg hp hc => ?_⟩
    · intro i hi
      obtain rfl := Option.some.inj (hj.symm.trans hi)
      exact eraseActive_of_held hheld
    · intro i hi
      obtain rfl := Option.some.inj (hj.symm.trans hi)
      exact hheld
    · refine ends rfl ((eraseDone_commit hj hp hc).trans ?_)
      rw [commitErased, programHeader_eq]
    · obtain ⟨st, hdone, herase, harray⟩ := eraseDone_erase hj hp hc
      exact ⟨_, ends rfl hdone, herase, rfl, harray.trans (programHeader_eq _ _ _)⟩
    · obtain ⟨st, ports, hdone, herase, harray⟩ := commitDone_commit hj hp hc
      refine ⟨_, ends rfl hdone, herase, rfl, rfl, ?_⟩
      simp only [harray]
      refine ⟨committed_images _ _ s, fun hs => ?_, fun hs => ?_⟩
      · rw [hs]
        exact ⟨rfl, rfl, fun other ho => by simp [committed, commitSequence_second ho]⟩
      · rw [hs]
        exact ⟨rfl, rfl, fun other ho => by simp [committed, commitSequence_first ho]⟩

end Sys2Proof.Proofs
end

section
/-! PROOFS. The places of ring records (O54: R168, R171 to R173). -/

namespace Sys2Proof.Proofs

open Sys2Proof Sys2Proof.Machine Sys2Proof.Laws

variable {r q : Ring} {st : Store} {s : State} {rec : Record} {k : Nat}

/-! ### What of the following sector lets it be opened (R172) -/

theorem eraseQueued_iff : eraseQueued st k = true ↔ ∃ seq, StoreOp.erase k seq ∈ st.queue := by
  unfold eraseQueued
  rw [List.any_eq_true]
  refine ⟨fun ⟨op, hop, he⟩ => ?_, fun ⟨seq, h⟩ => ⟨_, h, by simp [isEraseOf]⟩⟩
  cases op with
  | erase x seq =>
    obtain rfl : x = k := by simpa [isEraseOf] using he
    exact ⟨seq, hop⟩
  | record | mark | commit => cases he

theorem erasing_iff : erasing st k = true ↔ ∃ j, st.erase = some j ∧ j.sector = k ∧ j.commit = false := by
  unfold erasing
  cases st.erase with
  | none => simp
  | some j => simp

/-- The sector is blank under the number `seq`, or its erase is queued or in flight. -/
def isReady (k seq : Nat) (st : Store) : Prop :=
  eraseQueued st k = true ∨ erasing st k = true
    ∨ (headerSeq k st.array.headers = some seq ∧ sectorCells k st.array.cells = [])

theorem isReady_iff {seq : Nat} : isReady k seq st ↔ (∃ q, StoreOp.erase k q ∈ st.queue)
    ∨ (∃ j, st.erase = some j ∧ j.sector = k ∧ j.commit = false)
    ∨ (headerSeq k st.array.headers = some seq ∧ sectorCells k st.array.cells = []) :=
  or_congr eraseQueued_iff (or_congr erasing_iff .rfl)

theorem openable_iff (h : (ringOf st r).sector ≠ k) : openable r st k = true ↔ isReady k ((ringOf st r).seq + 1) st := by
  unfold openable sectorState isReady
  rw [if_neg h]
  cases erasing st k with
  | true => simp
  | false =>
    cases eraseQueued st k with
    | true => simp
    | false =>
      cases hs : headerSeq k st.array.headers with
      | none => simp
      | some seq =>
        by_cases hc : sectorCells k st.array.cells = []
        · by_cases hq : seq = (ringOf st r).seq + 1 <;> simp [hc, hq]
        · simp [hc]

/-- A ring has more than one sector. -/
theorem nextSector_ne (r : Ring) (k : Nat) : k ≠ nextSector r k := by
  unfold nextSector ringAdvance
  cases r <;> simp only [ringFirst, ringSectors] <;> omega

theorem openable_next : openable r st (nextSector r (ringOf st r).sector) = true ↔
    isReady (nextSector r (ringOf st r).sector) ((ringOf st r).seq + 1) st :=
  openable_iff (nextSector_ne r _)

theorem sectorUnacked_iff : sectorUnacked r st k = true ↔ ∃ x ∈ ringSectorCells r st.array k, (ringOf st r).upload ≤ x.1 := by
  simp [sectorUnacked]

/-! ### Setting a ring's pointers -/

@[simp] theorem setRing_setRing (r : Ring) (v w : RingState) (st : Store) : setRing r v (setRing r w st) = setRing r v st := by
  cases r <;> rfl

@[simp] theorem setRing_erase (r : Ring) (v : RingState) (st : Store) : (setRing r v st).erase = st.erase := by
  cases r <;> rfl

theorem setRing_ringOf (r : Ring) (st : Store) : setRing r (ringOf st r) st = st := by
  cases r <;> rfl

/-! ### The OPEN sector of a posting (R172) -/

/-- The OPEN sector that takes the next record, where the ring takes one. -/
def openedFor (r : Ring) (st : Store) : RingState :=
  if (ringOf st r).used < ringPlaces r then ringOf st r
  else { ringOf st r with sector := nextSector r (ringOf st r).sector, seq := (ringOf st r).seq + 1, used := 0 }

theorem openFor_eq (r : Ring) (st : Store) : openFor r st =
    if (ringOf st r).used < ringPlaces r ∨ openable r st (nextSector r (ringOf st r).sector) = true
    then some (openedFor r st) else none := by
  unfold openFor openedFor
  by_cases h : (ringOf st r).used < ringPlaces r
  · simp [h]
  · simp [h]

theorem openedFor_kept (r : Ring) (st : Store) :
    (openedFor r st).upload = (ringOf st r).upload ∧ (openedFor r st).full = (ringOf st r).full := by
  unfold openedFor
  split <;> exact ⟨rfl, rfl⟩

/-- The ring's pointers behind a posting, its FULL state apart. -/
def postedRing (r : Ring) (st : Store) : RingState := { openedFor r st with used := (openedFor r st).used + 1 }

/-- The store behind a posting, the ring's FULL state apart. -/
def postedStore (r : Ring) (rec : Record) (st : Store) : Store :=
  setRing r (postedRing r st) { st with
    queue := st.queue ++ [.record ⟨(openedFor r st).sector, (openedFor r st).used, (openedFor r st).seq⟩ rec] }

theorem postRing_posted {x : Store × Place} (h : postRing r rec st = some x) :
    (ringOf st r).full = false ∧ x.2 = ⟨(openedFor r st).sector, (openedFor r st).used, (openedFor r st).seq⟩
      ∧ x.1 = setRing r { postedRing r st with full := becomesFull r (postedStore r rec st) } (postedStore r rec st) := by
  have full : (ringOf st r).full = false := by
    by_contra hf
    rw [postRing_none_iff.2 (.inl (by simpa using hf))] at h
    cases h
  have kept : (postedRing r st).full = false := (openedFor_kept r st).2.trans full
  unfold postRing at h
  simp only [full, openFor_eq, enqueue] at h
  by_cases ho : (ringOf st r).used < ringPlaces r ∨ openable r st (nextSector r (ringOf st r).sector) = true
  · cases hr : queueHasRoom st with
    | false => simp [ho, hr] at h
    | true =>
      simp only [ho, hr, if_true, Bool.false_eq_true, if_false] at h
      change (if becomesFull r (postedStore r rec st) = true
        then some (setRing r { ringOf (postedStore r rec st) r with full := true } (postedStore r rec st), _)
        else some (postedStore r rec st, _)) = some x at h
      refine ⟨full, ?_, ?_⟩
      · split at h <;> exact (Option.some.inj h) ▸ rfl
      · cases hb : becomesFull r (postedStore r rec st) with
        | true =>
          rw [hb, if_pos rfl, postedStore, ringOf_setRing_self] at h
          exact (Option.some.inj h) ▸ rfl
        | false =>
          rw [hb] at h
          obtain rfl := Option.some.inj h
          simp only [postedStore, setRing_setRing, ← kept]
  · simp [ho] at h

/-- The sector after the OPEN one of a posting is read as before it: a record queues no erase. -/
theorem isReady_posted {seq : Nat} : isReady k seq (postedStore r rec st) ↔ isReady k seq st := by
  simp [isReady, postedStore, eraseQueued, erasing, isEraseOf]

theorem becomesFull_posted : becomesFull r (postedStore r rec st) = true ↔
    (openedFor r st).used + 1 = ringPlaces r
      ∧ ¬ isReady (nextSector r (openedFor r st).sector) ((openedFor r st).seq + 1) st
      ∧ ∃ x ∈ ringSectorCells r st.array (nextSector r (openedFor r st).sector), (ringOf st r).upload ≤ x.1 := by
  have ring : ringOf (postedStore r rec st) r = postedRing r st := ringOf_setRing_self ..
  have ready := openable_next (r := r) (st := postedStore r rec st)
  have unacked := sectorUnacked_iff (r := r) (st := postedStore r rec st) (k := nextSector r (postedRing r st).sector)
  rw [isReady_posted, ring] at ready
  rw [ring] at unacked
  simp only [becomesFull, eraseOwed, ring, Bool.and_eq_true, beq_iff_eq, Bool.not_eq_true', ← Bool.not_eq_true, ready, unacked,
    and_assoc]
  simp [postedRing, postedStore, (openedFor_kept r st).1]

/-- A ring record is refused for the FULL state, for want of a place of the queue, or for want of a sector (R173). -/
theorem postRing_refused_iff : postRing r rec st = none ↔ (ringOf st r).full = true ∨ 8 ≤ queueUsed st
    ∨ (ringPlaces r ≤ (ringOf st r).used
      ∧ ¬ isReady (nextSector r (ringOf st r).sector) ((ringOf st r).seq + 1) st) := by
  have room : queueHasRoom st = false ↔ 8 ≤ queueUsed st := by
    rw [← Bool.not_eq_true, queueHasRoom_iff, Nat.not_lt]
  rw [postRing_none_iff, openFor_eq, room, ← openable_next]
  simp only [ite_eq_right_iff, reduceCtorEq, imp_false, not_or, Nat.not_lt]
  tauto

theorem postRecord_posted {x : Store × Place} (h : postRing r rec s.store = some x) : postRecord r rec s = some
    (if (ringOf x.1 r).full = true then postNotice .ringState (byte1 (ringByte r) ++ byte1 0) { s with store := x.1 }
      else { s with store := x.1 }, x.2) := by
  obtain ⟨st, place⟩ := x
  simp only [postRecord, h]
  exact (apply_ite (fun t => some (t, place)) _ _ _).symm

theorem placesAreAssigned : PlacesAreAssigned := by
  intro r rec s st g following ready unacknowledged
  have isReady_ready (k seq : Nat) : isReady k seq st ↔ ready k seq := isReady_iff
  refine ⟨?_, fun x hx => ?_, postRecord_none_iff.2⟩
  · rw [← isReady_ready]
    exact postRing_refused_iff
  · obtain ⟨-, hplace, hstore⟩ := postRing_posted hx
    intro h place
    have opened : openedFor r st = h := rfl
    have ring : ringOf x.1 r = { postedRing r st with full := becomesFull r (postedStore r rec st) } := by
      rw [hstore, ringOf_setRing_self]
    have full : (ringOf x.1 r).full = becomesFull r (postedStore r rec st) := by rw [ring]
    refine ⟨hplace, by rw [full, ring]; rfl, ?_, ?_, ?_⟩
    · rw [full, ← isReady_ready]
      exact becomesFull_posted
    · rw [ring]
      exact hstore.trans (setRing_setRing ..)
    · have posted := postRecord_posted (s := s) hx
      rw [hplace] at posted
      exact posted

end Sys2Proof.Proofs
end

section
/-! PROOFS. The work the store owes is queued, and a COMMIT (O54). -/

namespace Sys2Proof.Proofs

open Sys2Proof Sys2Proof.Machine Sys2Proof.Laws

variable {r q : Ring} {st : Store} {s t : State} {rec : Record}

/-! ### What waits first (R168, R172) -/

theorem eraseEligible_iff : eraseEligible r st = true ↔
    ¬ isReady (nextSector r (ringOf st r).sector) ((ringOf st r).seq + 1) st
      ∧ (∀ x ∈ ringSectorCells r st.array (nextSector r (ringOf st r).sector), x.1 < (ringOf st r).upload)
      ∧ queueUsed st < 8 := by
  have unacked : sectorUnacked r st (nextSector r (ringOf st r).sector) = false ↔
      ∀ x ∈ ringSectorCells r st.array (nextSector r (ringOf st r).sector), x.1 < (ringOf st r).upload := by
    rw [← Bool.not_eq_true, sectorUnacked_iff]
    simp
  simp only [eraseEligible, eraseOwed, Bool.and_eq_true, Bool.not_eq_true', unacked, queueHasRoom_iff, and_assoc,
    ← Bool.not_eq_true (openable _ _ _), openable_next]

theorem eraseEligible_room (h : eraseEligible r st = true) : queueHasRoom st = true :=
  queueHasRoom_iff.2 (eraseEligible_iff.1 h).2.2

theorem nextWork_ringErase_iff : nextWork st = some (.ringErase r) ↔
    eraseEligible r st = true ∧ st.waitingMarks = [] ∧ (r = .alarm → eraseEligible .call st = false) := by
  unfold nextWork
  cases room : queueHasRoom st with
  | false =>
    have none_eligible : eraseEligible r st ≠ true := fun h => by simp [eraseEligible_room h] at room
    simp [none_eligible]
  | true =>
    cases st.waitingMarks with
    | cons p rest => simp
    | nil =>
      cases hc : eraseEligible .call st with
      | true => cases r <;> simp [hc]
      | false =>
        cases hl : eraseEligible .alarm st with
        | true => cases r <;> simp [hc, hl]
        | false =>
          have none_eligible : eraseEligible r st ≠ true := by cases r <;> simp [hc, hl]
          simp only [none_eligible]
          split <;> simp
          split <;> simp

theorem nextWork_of_no_erase (hr : queueHasRoom st = true) (hm : st.waitingMarks = []) (he : ∀ q, eraseEligible q st = false) :
    nextWork st = if st.saveOwed then some .saveErase else if overflowOwed st then some .overflow else none := by
  simp [nextWork, hr, hm, he]

theorem nextWork_overflow (h : nextWork st = some .overflow) : queueHasRoom st = true ∧ st.waitingMarks = []
    ∧ (∀ q, eraseEligible q st = false) ∧ st.saveOwed = false ∧ overflowOwed st = true := by
  unfold nextWork at h
  split at h
  · cases h
  rename_i room
  split at h
  · cases h
  rename_i unmarked
  split at h
  · cases h
  rename_i call
  split at h
  · cases h
  rename_i alarm
  split at h
  · cases h
  rename_i unowed
  split at h
  · rename_i owed
    refine ⟨by simpa using room, unmarked, fun q => ?_, by simpa using unowed, owed⟩
    cases q
    · simpa using call
    · simpa using alarm
  · cases h

theorem freedPlace_stays (hm : s.store.waitingMarks = []) (ho : s.store.saveOwed = false) : freedPlace s = s := by
  have unmarked (p : Place) : nextWork s.store ≠ some (.mark p) := by
    simp only [nextWork, hm]
    repeat' split
    all_goals simp
  have unowed : nextWork s.store ≠ some .saveErase := by
    simp only [nextWork, hm, ho]
    repeat' split
    all_goals simp_all
  unfold freedPlace
  split
  · exact absurd (by assumption) (unmarked _)
  · exact absurd (by assumption) unowed
  all_goals rfl

/-! ### The owed erase of a ring (R172) -/

/-- The erase of the sector after the OPEN one, under the next number. -/
def owedErase (r : Ring) (st : Store) : StoreOp := .erase (nextSector r (ringOf st r).sector) ((ringOf st r).seq + 1)

/-- A store with operations behind its queue. -/
def queuedBehind (ops : List StoreOp) (st : Store) : Store := { st with queue := st.queue ++ ops }

theorem ringOf_queuedBehind (ops : List StoreOp) (st : Store) : ringOf (queuedBehind ops st) r = ringOf st r := by
  cases r <;> rfl

theorem queueOwedErase_eq (r : Ring) (st : Store) : queueOwedErase r st =
    setRing r { ringOf st r with full := false } (queuedBehind [owedErase r st] st) := rfl

theorem queueOwedErase_open (h : (ringOf st r).full = false) : queueOwedErase r st = queuedBehind [owedErase r st] st := by
  have same : { ringOf st r with full := false } = ringOf (queuedBehind [owedErase r st] st) r := by
    rw [ringOf_queuedBehind, ← h]
  rw [queueOwedErase_eq, same, setRing_ringOf]

theorem queueRingErase_open (h : (ringOf s.store r).full = false) :
    queueRingErase r s = { s with store := queuedBehind [owedErase r s.store] s.store } := by
  simp [queueRingErase, h, queueOwedErase_open h]

/-- The state in which a FULL ring has left FULL, with RING_STATE OPEN posted. -/
def leftFull (r : Ring) (s : State) : State :=
  postNotice .ringState (byte1 (ringByte r) ++ byte1 1) { s with store := queueOwedErase r s.store }

theorem leftFull_store (r : Ring) (s : State) : (leftFull r s).store = queueOwedErase r s.store := postNotice_store ..

theorem leftFull_alarm (r : Ring) (s : State) : (leftFull r s).alarm = s.alarm := postNotice_alarm ..

theorem queueRingErase_full (h : (ringOf s.store r).full = true) : queueRingErase r s = askStoreClear (leftFull r s) := by
  simp [queueRingErase, h, leftFull]

theorem queueOwedErase_marks (r : Ring) (st : Store) : (queueOwedErase r st).waitingMarks = st.waitingMarks := by
  cases r <;> rfl

theorem queueOwedErase_owed (r : Ring) (st : Store) : (queueOwedErase r st).saveOwed = st.saveOwed := by
  cases r <;> rfl

theorem queueOwedErase_queue (r : Ring) (st : Store) : (queueOwedErase r st).queue = st.queue ++ [owedErase r st] := by
  cases r <;> rfl

theorem ringOf_queueOwedErase (r : Ring) (st : Store) :
    ringOf (queueOwedErase r st) r = { ringOf st r with full := false } := ringOf_setRing_self ..

/-- The sector whose erase is queued can be opened. -/
theorem isReady_queueOwedErase (r : Ring) (st : Store) :
    isReady (nextSector r (ringOf (queueOwedErase r st) r).sector) ((ringOf (queueOwedErase r st) r).seq + 1)
      (queueOwedErase r st) := by
  refine .inl (eraseQueued_iff.2 ⟨(ringOf st r).seq + 1, ?_⟩)
  rw [queueOwedErase_queue, ringOf_queueOwedErase]
  exact List.mem_append_right _ (List.mem_singleton.2 rfl)

/-- The condition for which STORE stands is over once the ring has left FULL: the other ring is not FULL either, and the totals
are zero (R175). -/
theorem storeConditionOver_queueOwedErase : storeConditionOver (queueOwedErase r st) = true ↔
    (∀ q, q ≠ r → (ringOf st q).full = false) ∧ st.totals = {} := by
  cases r with
  | call =>
    refine ⟨fun h => ⟨fun q hq => ?_, ?_⟩, fun ⟨hq, ht⟩ => ?_⟩
    · cases q with
      | call => exact absurd rfl hq
      | alarm => simp_all [storeConditionOver, queueOwedErase, setRing, ringOf]
    · simp_all [storeConditionOver, queueOwedErase, setRing]
    · have open_ : st.alarmRing.full = false := hq .alarm (by simp)
      simp [storeConditionOver, queueOwedErase, setRing, open_, ht]
  | alarm =>
    refine ⟨fun h => ⟨fun q hq => ?_, ?_⟩, fun ⟨hq, ht⟩ => ?_⟩
    · cases q with
      | call => simp_all [storeConditionOver, queueOwedErase, setRing, ringOf]
      | alarm => exact absurd rfl hq
    · simp_all [storeConditionOver, queueOwedErase, setRing]
    · have open_ : st.callRing.full = false := hq .call (by simp)
      simp [storeConditionOver, queueOwedErase, setRing, open_, ht]

/-! ### The save area's erase behind it (R168, R185) -/

theorem isReady_queuedBehind {k seq : Nat} (ops : List StoreOp) (h : isReady k seq st) : isReady k seq (queuedBehind ops st) := by
  refine h.imp_left fun hq => ?_
  obtain ⟨x, hx⟩ := eraseQueued_iff.1 hq
  exact eraseQueued_iff.2 ⟨x, List.mem_append_left _ hx⟩

theorem queueUsed_queuedBehind (ops : List StoreOp) (st : Store) :
    queueUsed (queuedBehind ops st) = queueUsed st + ops.length := by
  unfold queueUsed queuedBehind
  rw [List.length_append, Nat.add_right_comm _ ops.length, Nat.add_right_comm _ ops.length]

/-- What is queued makes no other erase eligible. -/
theorem eraseEligible_queuedBehind {ops : List StoreOp} (h : eraseEligible q (queuedBehind ops st) = true) :
    eraseEligible q st = true := by
  rw [eraseEligible_iff, ringOf_queuedBehind] at h
  obtain ⟨unready, acked, room⟩ := h
  refine eraseEligible_iff.2 ⟨fun hr => unready (isReady_queuedBehind ops hr), acked, lt_of_le_of_lt ?_ room⟩
  rw [queueUsed_queuedBehind]
  exact Nat.le_add_right ..

theorem eraseEligible_owedErase : eraseEligible r (queuedBehind [owedErase r st] st) = false := by
  rw [← Bool.not_eq_true, eraseEligible_iff, ringOf_queuedBehind]
  rintro ⟨unready, -⟩
  exact unready (.inl (eraseQueued_iff.2 ⟨_, List.mem_append_right _ (List.mem_singleton.2 rfl)⟩))

theorem freedPlace_saveErase (hm : s.store.waitingMarks = []) (ho : s.store.saveOwed = true) (hr : queueHasRoom s.store = true)
    (he : ∀ q, eraseEligible q s.store = false) : freedPlace s = { s with store := queueSave s.store } := by
  have next : nextWork s.store = some .saveErase := by
    rw [nextWork_of_no_erase hr hm he, ho]
    rfl
  simp only [freedPlace, next, queueSaveErase]

/-! ### The clear of STORE behind it (R175) -/

/-- A clear of STORE posts its record or loses it, and writes nothing else of the store. -/
theorem autoClear_store (s : State) : (autoClear srcStore s).store = s.store
    ∨ ∃ rec y, postRing .alarm rec s.store = some y ∧ (autoClear srcStore s).store = y.1 := by
  have cleared (o : Origin) : (clearSource srcStore o s).store = s.store
      ∨ ∃ rec y, postRing .alarm rec s.store = some y ∧ (clearSource srcStore o s).store = y.1 := by
    cases hy : postRing .alarm (alarmRecord true srcStore o (alarmEntry s.alarm srcStore).count s) s.store with
    | none =>
      left
      obtain ⟨store, -⟩ := afterClear_posts .alarmCleared (byte1 srcStore ++ byte1 (alarmEntry s.alarm srcStore).count
        ++ byte1 (clearOriginByte o)) (quieted srcStore s)
      rw [clearSource_refused (postRecord_refused (quieted_store srcStore s) hy), if_pos rfl, store, quieted_store]
    | some y => exact .inr ⟨_, y, hy, (clearSource_told hy).1⟩
  unfold autoClear
  split
  · exact .inl rfl
  · exact cleared _
  · exact cleared _
  · exact .inl rfl

theorem postRing_writes {x : Store × Place} (h : postRing r rec st = some x) :
    ∃ v queue, x.1 = setRing r v { st with queue := queue } := by
  obtain ⟨-, -, hstore⟩ := postRing_posted h
  exact ⟨_, _, hstore.trans (setRing_setRing ..)⟩

theorem autoClear_writes (s : State) : ∃ v queue,
    (autoClear srcStore s).store = setRing .alarm v { s.store with queue := queue } := by
  rcases autoClear_store s with h | ⟨rec, y, hy, h⟩
  · exact ⟨s.store.alarmRing, s.store.queue, h.trans (setRing_ringOf .alarm _).symm⟩
  · rw [h]
    exact postRing_writes hy

/-- With the following sector ready to be opened a posting does not make the ring FULL. -/
theorem becomesFull_ready (h : isReady (nextSector r (ringOf st r).sector) ((ringOf st r).seq + 1) st) :
    becomesFull r (postedStore r rec st) = false := by
  rw [← Bool.not_eq_true, becomesFull_posted]
  rintro ⟨used, unready, -⟩
  unfold openedFor at used unready
  split at used
  · rename_i hlt
    rw [if_pos hlt] at unready
    exact unready h
  · cases r <;> simp [ringPlaces] at used

/-- A clear of STORE leaves a ring that is not FULL so, where the sector after its OPEN one is ready. -/
theorem autoClear_not_full (hf : (ringOf s.store r).full = false)
    (h : isReady (nextSector r (ringOf s.store r).sector) ((ringOf s.store r).seq + 1) s.store) :
    (ringOf (autoClear srcStore s).store r).full = false := by
  rcases autoClear_store s with hst | ⟨rec, y, hy, hst⟩
  · rw [hst, hf]
  · obtain ⟨-, -, hstore⟩ := postRing_posted hy
    rw [hst, hstore]
    cases r with
    | call => exact hf
    | alarm => exact (congrArg RingState.full (ringOf_setRing_self ..)).trans (becomesFull_ready h)

theorem autoClear_stays (hm : s.store.waitingMarks = []) (ho : s.store.saveOwed = false) :
    freedPlace (autoClear srcStore s) = autoClear srcStore s := by
  obtain ⟨v, queue, h⟩ := autoClear_writes s
  exact freedPlace_stays (by rw [h]; exact hm) (by rw [h]; exact ho)

theorem take_queued {l m : List StoreOp} {op : StoreOp} (h : l ++ [op] <+: m) : m.take (l.length + 1) = l ++ [op] := by
  rw [List.prefix_iff_eq_take, List.length_append] at h
  exact h.symm

/-! ### A COMMIT is queued (R181) -/

theorem commitConfig_joins (hw : nextWork s.store = none) (hc : s.store.queue.any isCommit = true) :
    commitConfig s = (s, replyAccepted) := by
  simp [commitConfig, postCommit, settleWaiting_none hw, hc]

theorem commitConfig_room (hw : nextWork s.store = none) (hc : s.store.queue.any isCommit = false)
    (hr : queueHasRoom s.store = true) :
    commitConfig s = ({ s with store := { s.store with queue := s.store.queue ++ [.commit] } }, replyAccepted) := by
  simp [commitConfig, postCommit, settleWaiting_none hw, hc, enqueue_room hr]

theorem commitConfig_full (hw : nextWork s.store = none) (hc : s.store.queue.any isCommit = false)
    (hr : queueHasRoom s.store = false) : commitConfig s = (s, refuseBusy) := by
  simp [commitConfig, postCommit, settleWaiting_none hw, hc, enqueue_full hr]

/-! ### The OVERFLOW record (R175) -/

theorem askStoreClear_queue (s : State) : s.store.queue <+: (askStoreClear s).store.queue := by
  unfold askStoreClear
  split
  · exact autoClear_queue srcStore s
  · exact List.prefix_refl _

theorem askStoreClear_totals (s : State) : (askStoreClear s).store.totals = s.store.totals := by
  unfold askStoreClear
  split
  · obtain ⟨v, queue, h⟩ := autoClear_writes s
    rw [h, setRing_totals]
  · rfl

/-- The OVERFLOW record that is owed now. -/
def overflowRecord (s : State) : Record := .overflow s.store.totals (timeOfDay s)

theorem postOverflow_refused (h : postRing .call (overflowRecord s) s.store = none) : postOverflow s = s := by
  have refused : postRecord .call (.overflow s.store.totals (timeOfDay s)) s = none := postRecord_none_iff.2 h
  simp [postOverflow, refused]

theorem postOverflow_posted {x : Store × Place} (h : postRing .call (overflowRecord s) s.store = some x) :
    (postOverflow s).store.totals = {}
      ∧ s.store.queue ++ [.record x.2 (overflowRecord s)] <+: (postOverflow s).store.queue := by
  obtain ⟨u, hu⟩ : ∃ u, postRecord .call (.overflow s.store.totals (timeOfDay s)) s = some (u, x.2) :=
    ⟨_, postRecord_posted h⟩
  have eq : postOverflow s = askStoreClear { u with store := { u.store with totals := {} } } := by
    simp [postOverflow, hu]
  have queue := askStoreClear_queue { u with store := { u.store with totals := {} } }
  rw [eq]
  refine ⟨askStoreClear_totals _, ?_⟩
  rw [overflowRecord, ← postRecord_queue hu]
  exact queue

/-! ### The commands -/

theorem owedEraseQueued_exec (ha : awake s = true) (r : Ring) : exec (.owedEraseQueued r) s =
    .next (if nextWork s.store = some (.ringErase r) then freedPlace (queueRingErase r s) else s) :=
  congrArg Host.Outcome.next (whenAwake_awake ha)

theorem overflowRecord_exec (ha : awake s = true) : exec .overflowRecord s =
    .next (if nextWork s.store = some .overflow then postOverflow s else s) :=
  congrArg Host.Outcome.next (whenAwake_awake ha)

/-- What follows the owed erase of a ring that was not FULL: nothing, or the save area's owed erase. -/
theorem owedErase_alone (hf : (ringOf s.store r).full = false) (hm : s.store.waitingMarks = [])
    (ho : s.store.saveOwed = false) :
    freedPlace (queueRingErase r s) = { s with store := queuedBehind [owedErase r s.store] s.store } := by
  rw [queueRingErase_open hf]
  exact freedPlace_stays (s := { s with store := queuedBehind [owedErase r s.store] s.store }) hm ho

theorem owedErase_saveErase (hf : (ringOf s.store r).full = false) (hm : s.store.waitingMarks = [])
    (ho : s.store.saveOwed = true) (hu : queueUsed s.store ≤ 6) (hothers : ∀ q, q ≠ r → eraseEligible q s.store = false) :
    freedPlace (queueRingErase r s) = { s with store := queueSave (queuedBehind [owedErase r s.store] s.store) } := by
  have room : queueHasRoom (queuedBehind [owedErase r s.store] s.store) = true := by
    rw [queueHasRoom_iff, queueUsed_queuedBehind]
    exact Nat.lt_succ_of_le (Nat.succ_le_succ hu)
  have ineligible (q : Ring) : eraseEligible q (queuedBehind [owedErase r s.store] s.store) = false := by
    by_cases hq : q = r
    · exact hq ▸ eraseEligible_owedErase
    · exact Bool.eq_false_iff.2 fun h => Bool.eq_false_iff.1 (hothers q hq) (eraseEligible_queuedBehind h)
  rw [queueRingErase_open hf]
  exact freedPlace_saveErase (s := { s with store := queuedBehind [owedErase r s.store] s.store }) hm ho room ineligible

/-- What follows the owed erase of a FULL ring, with no erase of the save area owed: the clear of STORE, where its condition is
over. -/
theorem owedErase_left (hf : (ringOf s.store r).full = true) (hm : s.store.waitingMarks = []) (ho : s.store.saveOwed = false) :
    freedPlace (queueRingErase r s) = askStoreClear (leftFull r s) := by
  have marks : (leftFull r s).store.waitingMarks = [] := by rw [leftFull_store, queueOwedErase_marks, hm]
  have owed : (leftFull r s).store.saveOwed = false := by rw [leftFull_store, queueOwedErase_owed, ho]
  rw [queueRingErase_full hf]
  unfold askStoreClear
  split
  · exact autoClear_stays marks owed
  · exact freedPlace_stays marks owed

theorem leftFull_asks (h : (∀ q, q ≠ r → (ringOf s.store q).full = false) ∧ s.store.totals = {}) :
    askStoreClear (leftFull r s) = autoClear srcStore (leftFull r s) :=
  if_pos (by rwa [leftFull_store, storeConditionOver_queueOwedErase])

theorem leftFull_stays (h : ¬ ((∀ q, q ≠ r → (ringOf s.store q).full = false) ∧ s.store.totals = {})
      ∨ (alarmEntry s.alarm srcStore).state = .quiet) : askStoreClear (leftFull r s) = leftFull r s := by
  by_cases hc : (∀ q, q ≠ r → (ringOf s.store q).full = false) ∧ s.store.totals = {}
  · rw [leftFull_asks hc]
    exact autoClear_quiet (by rw [leftFull_alarm]; exact h.resolve_left (not_not.2 hc))
  · exact if_neg (by rwa [leftFull_store, storeConditionOver_queueOwedErase])

/-- The clear of STORE that the ring's leaving FULL asks. -/
theorem leftFull_cleared (r : Ring) (s : State)
    (h : (alarmEntry s.alarm srcStore).state = .raised ∨ (alarmEntry s.alarm srcStore).state = .reported) :
    (ringOf (autoClear srcStore (leftFull r s)).store r).full = false
      ∧ alarmEntry (autoClear srcStore (leftFull r s)).alarm srcStore = {}
      ∧ s.store.queue ++ [owedErase r s.store] <+: (autoClear srcStore (leftFull r s)).store.queue := by
  rw [← leftFull_alarm r s] at h
  have listed : srcStore < (leftFull r s).alarm.entries.length := lt_length_of_marked (by rcases h with h | h <;> simp [h])
  have queue := autoClear_queue srcStore (leftFull r s)
  rw [leftFull_store, queueOwedErase_queue] at queue
  refine ⟨autoClear_not_full ?_ ?_, ?_, queue⟩
  · rw [leftFull_store, ringOf_queueOwedErase]
  · rw [leftFull_store]
    exact isReady_queueOwedErase r s.store
  · rw [autoClear_marked h]
    exact clearSource_entry listed .automatic

/-- Settles O54: the posting of a ring record; the owed erase by the ring's FULL state and the save area's erase behind it; the
OVERFLOW record; and a COMMIT. -/
theorem owedWorkIsQueued : Obligations.OwedWorkIsQueued := by
  refine ⟨placesAreAssigned, ?_⟩
  intro r s ha g next erase queued left cleared store first last
  have nextErase : nextWork s.store = some (.ringErase r) ↔ eraseEligible r s.store = true ∧ first := nextWork_ringErase_iff
  have unqueued (h : nextWork s.store ≠ some (.ringErase r)) : exec (.owedEraseQueued r) s = .next s := by
    rw [owedEraseQueued_exec ha, if_neg h]
  have queues (he : eraseEligible r s.store = true) (hfirst : first) {t : State} (ht : freedPlace (queueRingErase r s) = t) :
      exec (.owedEraseQueued r) s = .next t := by
    rw [owedEraseQueued_exec ha, if_pos (nextErase.2 ⟨he, hfirst⟩), ht]
  refine ⟨eraseEligible_iff, fun h => unqueued fun hn => ?_,
    fun he hfirst => ⟨fun hf => ⟨fun ho => ?_, fun ho hu hothers => ?_⟩,
    fun hf ho => ⟨fun h => ?_, fun hc hs => ?_, fun hc hs => ?_⟩⟩, fun h => ?_,
    fun hcalls hf hlast => ⟨fun hx => ?_, fun x hx => ?_⟩,
    fun h hslot hw => ⟨fun hc => ?_, fun hc hr => ?_, fun hc hr => ?_⟩⟩
  · obtain ⟨he, hfirst⟩ := nextErase.1 hn
    exact h.elim (by simp [he]) (absurd hfirst)
  · exact queues he hfirst (owedErase_alone hf hfirst.1 ho)
  · exact queues he hfirst (owedErase_saveErase hf hfirst.1 ho hu hothers)
  · exact queues he hfirst ((owedErase_left hf hfirst.1 ho).trans (leftFull_stays h))
  · refine queues he hfirst ((owedErase_left hf hfirst.1 ho).trans ((leftFull_asks hc).trans ?_))
    rw [autoClear_reporting ((leftFull_alarm r s).symm ▸ hs), setEntry, leftFull_alarm]
    rfl
  · have taken := (owedErase_left hf hfirst.1 ho).trans (leftFull_asks hc)
    obtain ⟨full, entry, queue⟩ := leftFull_cleared r s hs
    refine ⟨_, queues he hfirst taken, rfl, ?_, full, entry, ?_⟩
    · exact taken ▸ same_trans (queueRingErase_same r s) (freedPlace_same _)
    · exact take_queued queue
  · rw [overflowRecord_exec ha, if_neg]
    intro hn
    obtain ⟨-, hm, he, ho, howed⟩ := nextWork_overflow hn
    obtain ⟨calls, open_⟩ : 0 < s.store.totals.calls ∧ s.store.callRing.full = false := by
      simpa [overflowOwed] using howed
    rcases h with h | h | h
    · exact absurd h calls.ne'
    · simp [open_] at h
    · exact h ⟨hm, he, ho⟩
  · rw [overflowRecord_exec ha, postOverflow_refused hx, ite_self]
  · obtain ⟨hm, he, ho⟩ := hlast
    have room : queueHasRoom s.store = true := by
      by_contra hr
      rw [postRing_none_iff.2 (.inr (.inr (by simpa using hr)))] at hx
      cases hx
    have owed : overflowOwed s.store = true := by simp [overflowOwed, hcalls, hf]
    have next : nextWork s.store = some .overflow := by
      rw [nextWork_of_no_erase room hm he, ho, owed]
      rfl
    obtain ⟨totals, queue⟩ := postOverflow_posted hx
    refine ⟨_, (overflowRecord_exec ha).trans (congrArg _ (if_pos next)), postOverflow_same s, totals, ?_⟩
    exact take_queued queue
  · exact request_answered h hslot rfl (commitConfig_joins (s := frameTaken .line s) hw hc)
  · exact request_answered h hslot rfl (commitConfig_room (s := frameTaken .line s) hw hc hr)
  · exact request_answered h hslot rfl (commitConfig_full (s := frameTaken .line s) hw hc hr)

end Sys2Proof.Proofs
end

section
/-! PROOFS. The later steps of recovery (O60). -/

namespace Sys2Proof.Proofs

open Sys2Proof Sys2Proof.Machine Sys2Proof.Laws

variable {s t : State} {st : Store} {r : Recovery} {p : Place} {v : SaveRecord} {i j : Nat}

/-! ### Raisings go by another source (R138) -/

theorem raise_goesBy (hj : j ≠ srcStore) (hi : srcStore ≠ i) (h : j ≠ i) (o : Origin) (s : State) :
    GoesBy i s (raise j o s) := by
  have now : raise j o s = raiseWith raiseStore j o (settleWaiting s) := if_neg hj
  rw [now]
  exact (settleWaiting_goesBy hi s).trans (raiseWith_goesBy (raiseStore_goesBy hi) h o _)

theorem raise_length (i : Nat) (o : Origin) (s : State) :
    (raise i o s).alarm.entries.length = s.alarm.entries.length :=
  (raiseNow_marks i o (settleWaiting s)).1.length.trans (settleWork_length _ s)

theorem postCallRing_goesBy (hi : srcStore ≠ i) (rec : Record) (s : State) : GoesBy i s (postCallRing rec s) := by
  have lost (u : State) (st : Store) : GoesBy i u (raiseStore { u with store := st }) :=
    .trans (t := { u with store := st }) (.of_alarm rfl (.of_eq rfl)) (raiseStore_goesBy hi { u with store := st })
  refine (settleWaiting_goesBy hi s).trans ?_
  unfold postCallRing
  simp only
  split
  · exact postRecord_goesBy (by assumption)
  · exact lost (settleWaiting s) _

theorem postResolvedMark_goesBy (hi : srcStore ≠ i) (p : Place) (s : State) : GoesBy i s (postResolvedMark p s) := by
  refine (settleWaiting_goesBy hi s).trans ?_
  unfold postResolvedMark
  simp only
  split <;> exact .of_alarm rfl (.of_eq rfl)

/-! ### The end of the resolution (R196, R197, R199) -/

/-- Recovery behind its resolution. -/
def resolvedRecovery (r : Recovery) : Recovery := { r with stage := 5, phase := .marking, flushUntil := none }

/-- The raisings of a flush. -/
def flushRaised (blocked : Bool) (r : Recovery) (s : State) : State :=
  let s := if r.cycles = 0 then s else raise srcSupply .recovery s
  if blocked then raise srcReturnBlocked .recovery s else s

/-- The RECOVERED record, where it is due. -/
def recoveredPosted (r : Recovery) (s : State) : State :=
  if recordDue r then postCallRing (.recovered (recoveredRecord r s)) s else s

/-- The resolved mark of the save record, where there is one. -/
def resolvedMarked (r : Recovery) (s : State) : State :=
  match r.save with
  | some (p, _) => postResolvedMark p s
  | none => s

theorem endResolution_eq (blocked : Bool) (r : Recovery) (s : State) : endResolution blocked r s =
    setRecovery (resolvedRecovery r) (resolvedMarked r (recoveredPosted r (flushRaised blocked r s))) := rfl

theorem flushRaised_unflushed (h : r.cycles = 0) : flushRaised false r s = s := by
  simp [flushRaised, h]

theorem recordDue_unsaved (h : r.cycles = 0) (hs : r.save = none) : recordDue r = false := by
  simp [recordDue, h, hs]

theorem recordDue_iff (h : r.cycles = 0) (hs : r.save = some (p, v)) :
    recordDue r = true ↔ v.cls ≠ none ∨ ∃ f, r.figures = some f ∧ 0 < f.d + f.k := by
  simp only [recordDue, h, hs, bne_self_eq_false, Bool.false_or, Bool.or_eq_true, Option.isSome_iff_ne_none]
  refine or_congr .rfl ?_
  cases r.figures <;> simp

theorem endResolution_unsaved (h : r.cycles = 0) (hs : r.save = none) :
    endResolution false r s = setRecovery (resolvedRecovery r) s := by
  rw [endResolution_eq, flushRaised_unflushed h, recoveredPosted, recordDue_unsaved h hs]
  simp [resolvedMarked, hs]

theorem endResolution_undue (h : r.cycles = 0) (hs : r.save = some (p, v)) (hd : recordDue r = false) :
    endResolution false r s = setRecovery (resolvedRecovery r) (postResolvedMark p s) := by
  rw [endResolution_eq, flushRaised_unflushed h, recoveredPosted, hd]
  simp [resolvedMarked, hs]

theorem endResolution_due (h : r.cycles = 0) (hs : r.save = some (p, v)) (hd : recordDue r = true) :
    endResolution false r s = setRecovery (resolvedRecovery r)
      (postResolvedMark p (postCallRing (.recovered (recoveredRecord r s)) s)) := by
  rw [endResolution_eq, flushRaised_unflushed h, recoveredPosted, hd]
  simp [resolvedMarked, hs]

theorem postResolvedMark_room (hw : nextWork s.store = none) (hr : queueHasRoom s.store = true) : postResolvedMark p s =
    { s with store := { s.store with queue := s.store.queue ++ [.mark p .resolved] } } := by
  simp [postResolvedMark, settleWaiting_none hw, enqueue_room hr]

theorem postCallRing_open {rec : Record} {x : Store × Place} (hw : nextWork s.store = none)
    (hx : postRing .call rec s.store = some x) (hf : (ringOf x.1 .call).full = false) :
    postCallRing rec s = { s with store := x.1 } := by
  have posted := postRecord_posted (s := s) hx
  rw [hf, if_neg (by decide)] at posted
  simp only [postCallRing, settleWaiting_none hw, posted]

/-- The RECOVERED record of a save record (R199). -/
theorem recoveredRecord_saved (hs : r.save = some (p, v)) : recoveredRecord r s =
    { time := timeOfDay s, cause := s.supply.cause, savePlace := some p, saveTime := v.time
      callState := some v.callState, cls := v.cls, figures := r.figures
      forfeited := r.figures.map (fun f => f.b - f.c), flushed := r.flushed
      tallyCoins := s.coin.tally.coins, tallyValue := s.coin.tally.value } := by
  simp [recoveredRecord, hs]

/-! ### A flush that has run (R197) -/

theorem flushRaised_same (blocked : Bool) (r : Recovery) (s : State) : SameOutsideAlarm s (flushRaised blocked r s) := by
  have supply : SameOutsideAlarm s (if r.cycles = 0 then s else raise srcSupply .recovery s) := by
    split
    · exact same_refl s
    · exact raise_same _ _ s
  unfold flushRaised
  simp only
  split
  · exact same_trans supply (raise_same _ _ _)
  · exact supply

theorem recoveredPosted_same (r : Recovery) (s : State) : SameOutsideAlarm s (recoveredPosted r s) := by
  unfold recoveredPosted
  split
  · exact postCallRing_same _ s
  · exact same_refl s

theorem resolvedMarked_same (r : Recovery) (s : State) : SameOutsideAlarm s (resolvedMarked r s) := by
  unfold resolvedMarked
  split
  · exact postResolvedMark_same _ s
  · exact same_refl s

theorem recoveredPosted_goesBy (hi : srcStore ≠ i) (r : Recovery) (s : State) : GoesBy i s (recoveredPosted r s) := by
  unfold recoveredPosted
  split
  · exact postCallRing_goesBy hi _ s
  · exact .refl i s

theorem resolvedMarked_goesBy (hi : srcStore ≠ i) (r : Recovery) (s : State) : GoesBy i s (resolvedMarked r s) := by
  unfold resolvedMarked
  split
  · exact postResolvedMark_goesBy hi _ s
  · exact .refl i s

/-- A flush raises SUPPLY, and RETURN_BLOCKED where coins are left. -/
theorem flushRaised_marks (blocked : Bool) (hlen : s.alarm.entries.length = 16) (hc : r.cycles ≠ 0) :
    (alarmEntry (flushRaised blocked r s).alarm srcSupply).state ≠ .quiet
      ∧ (blocked = true → (alarmEntry (flushRaised blocked r s).alarm srcReturnBlocked).state ≠ .quiet) := by
  have supply := raise_marks .recovery hlen (i := srcSupply) (by decide)
  unfold flushRaised
  simp only [if_neg hc]
  cases blocked with
  | false => exact ⟨supply, fun h => by cases h⟩
  | true =>
    simp only [if_true]
    have kept := raise_goesBy (i := srcSupply) (j := srcReturnBlocked) (by decide) (by decide) (by decide) .recovery
      (raise srcSupply .recovery s)
    have length : (raise srcSupply .recovery s).alarm.entries.length = 16 := (raise_length ..).trans hlen
    exact ⟨kept.entry.marked supply, fun _ => raise_marks .recovery length (by decide)⟩

theorem endResolution_same (blocked : Bool) (r : Recovery) (s : State) : ∃ u, SameOutsideAlarm s u
    ∧ (∀ i, srcStore ≠ i → (alarmEntry (flushRaised blocked r s).alarm i).state ≠ .quiet →
        (alarmEntry u.alarm i).state ≠ .quiet)
    ∧ endResolution blocked r s = setRecovery (resolvedRecovery r) u := by
  refine ⟨_, same_trans (flushRaised_same blocked r s) (same_trans (recoveredPosted_same r _) (resolvedMarked_same r _)),
    fun i hi hmarked => ?_, endResolution_eq blocked r s⟩
  exact ((recoveredPosted_goesBy hi r _).trans (resolvedMarked_goesBy hi r _)).entry.marked hmarked

/-! ### The check and the window's end (R197) -/

theorem sensorCheck_phase {coins : Bool} (hr : s.supply.recovery = some r) (hp : r.phase ≠ .checking) :
    sensorCheck coins s = s := by
  simp [sensorCheck, hr, hp]

theorem sensorCheck_coins (hr : s.supply.recovery = some r) (hp : r.phase = .checking) :
    sensorCheck true s = beginCycle r (setTube true s) := by
  simp [sensorCheck, hr, hp]

theorem sensorCheck_empty (hr : s.supply.recovery = some r) (hp : r.phase = .checking) :
    sensorCheck false s = endResolution false r (setTube false s) := by
  simp [sensorCheck, hr, hp]

theorem beginCycle_normal (h : s.supply.state = .normal) : beginCycle r s = setRecovery
    { r with phase := .flushing, cycles := r.cycles + 1, counted := false, flushUntil := some (s.now + 6) } s := by
  simp [beginCycle, h]

theorem beginCycle_warn (h : s.supply.state = .warn) (hp : r.phase = .checking) :
    beginCycle r s = setRecovery { r with flushUntil := none } s := by
  simp [beginCycle, h, ← hp]

theorem flushWindowEnds_phase {coins : Bool} (hr : s.supply.recovery = some r) (hp : r.phase ≠ .flushing) :
    flushWindowEnds coins s = s := by
  simp [flushWindowEnds, hr, hp]

theorem flushWindowEnds_again (hr : s.supply.recovery = some r) (hp : r.phase = .flushing) (hc : r.cycles < 12) :
    flushWindowEnds true s = beginCycle r (setTube true s) := by
  simp [flushWindowEnds, hr, hp, Nat.not_le.2 hc]

/-- The last window's end leaves the chute blocked where coins are left. -/
theorem flushWindowEnds_last {coins : Bool} (hr : s.supply.recovery = some r) (hp : r.phase = .flushing)
    (hc : coins = false ∨ 12 ≤ r.cycles) : flushWindowEnds coins s = endResolution coins r (setTube coins s) := by
  cases coins with
  | false => simp [flushWindowEnds, hr, hp]
  | true => simp [flushWindowEnds, hr, hp, hc.resolve_left (by decide)]

/-! ### Housekeeping (R185, R198) -/

theorem waitingMarks_of_settled (h : marksOutstanding st = false) : st.waitingMarks = [] := by
  simp only [marksOutstanding, Bool.or_eq_false_iff] at h
  simpa using h.1.1

theorem nextWork_idle (hm : st.waitingMarks = []) (he : ∀ q, eraseEligible q st = false) (ho : st.saveOwed = false)
    (hv : overflowOwed st = false) : nextWork st = none := by
  cases hr : queueHasRoom st with
  | false => simp [nextWork, hr]
  | true => simp [nextWork_of_no_erase hr hm he, ho, hv]

theorem settleWaiting_one {w : WaitingWork} (h : nextWork s.store = some w) (hn : nextWork (doWork w s).store = none) :
    settleWaiting s = doWork w s := by
  show settleWork 8 s = _
  simp only [settleWork, h, hn]

theorem eraseEligible_saveOwed (q : Ring) (owed : Bool) (st : Store) :
    eraseEligible q { st with saveOwed := owed } = eraseEligible q st := by
  cases q <;> rfl

theorem settleWaiting_saveErase (hm : s.store.waitingMarks = []) (he : ∀ q, eraseEligible q s.store = false)
    (ho : s.store.saveOwed = true) (hv : overflowOwed s.store = false) (hr : queueHasRoom s.store = true) :
    settleWaiting s = { s with store := queueSave s.store } := by
  have next : nextWork s.store = some .saveErase := by
    rw [nextWork_of_no_erase hr hm he, ho]
    rfl
  have ineligible (q : Ring) : eraseEligible q (queuedBehind [.erase saveSector 0] { s.store with saveOwed := false }) = false :=
    Bool.eq_false_iff.2 fun h => Bool.eq_false_iff.1 (he q)
      ((eraseEligible_saveOwed q false s.store).symm.trans (eraseEligible_queuedBehind h))
  exact settleWaiting_one next (nextWork_idle (st := queueSave s.store) hm ineligible rfl hv)

/-- What the test of the save area's erase leaves of the store once its erase has its place in the queue. -/
def saveTested (st : Store) : Store :=
  if saveEraseDue st then
    if queueHasRoom st then queuedBehind [.erase saveSector 0] st else { st with saveOwed := true }
  else st

theorem settleWaiting_saveTested (hm : s.store.waitingMarks = []) (he : ∀ q, eraseEligible q s.store = false)
    (ho : s.store.saveOwed = false) (hv : overflowOwed s.store = false) :
    settleWaiting { s with store := testSaveErase s.store } = { s with store := saveTested s.store } := by
  unfold testSaveErase saveTested
  cases hd : saveEraseDue s.store with
  | false => exact settleWaiting_none (nextWork_idle hm he ho hv)
  | true =>
    have ineligible (q : Ring) : eraseEligible q { s.store with saveOwed := true } = false :=
      (eraseEligible_saveOwed q true s.store).trans (he q)
    cases hr : queueHasRoom s.store with
    | false =>
      have full : queueHasRoom { s.store with saveOwed := true } = false := hr
      refine settleWaiting_none (s := { s with store := { s.store with saveOwed := true } }) ?_
      simp [nextWork, full]
    | true =>
      have queued : queueSave { s.store with saveOwed := true } = queuedBehind [.erase saveSector 0] s.store := by
        simp [queueSave, queuedBehind, ← ho]
      have settled := settleWaiting_saveErase (s := { s with store := { s.store with saveOwed := true } }) hm ineligible rfl hv hr
      rw [queued] at settled
      exact settled

theorem postNotice_ends (k : NoticeKind) (fs : List Byte) (x : Supply) (c : Call) (s : State) :
    { postNotice k fs s with supply := x, call := c } = postNotice k fs { s with supply := x, call := c } := by
  unfold postNotice offerAll
  simp only
  split <;> rfl

/-- What STARTED says (R198). -/
def startedFields (r : Recovery) (s : State) : List Byte :=
  byte1 (causeByte s.supply.cause) ++ byte1 (if s.supply.loaded then 0 else 1) ++ byte1 (resolutionByte r)
    ++ byte1 (serviceByte s.alarm.service)

/-- The end of recovery: STARTED posted, and the hook watched from here on. -/
def started (r : Recovery) (s : State) : State :=
  postNotice .started (startedFields r s) { s with
    supply := { s.supply with recovery := none }
    call := { s.call with holdFrom := if s.call.hookInput then none else some s.now } }

theorem endRecovery_eq (r : Recovery) (s : State) :
    endRecovery r s = weigh (started r (settleWaiting { s with store := testSaveErase s.store })) := by
  unfold endRecovery
  simp only
  generalize settleWaiting { s with store := testSaveErase s.store } = u
  unfold started
  rw [← postNotice_ends]
  simp only [watchHook, postNotice_now]
  rfl

theorem housekeeping_early (hr : s.supply.recovery = some r) (h : r.phase ≠ .marking ∨ marksOutstanding s.store = true) :
    housekeeping s = s := by
  rcases h with h | h <;> simp [housekeeping, hr, h]

theorem housekeeping_ends (hr : s.supply.recovery = some r) (hp : r.phase = .marking)
    (hm : marksOutstanding s.store = false) : housekeeping s = endRecovery r s := by
  simp [housekeeping, hr, hp, hm]

theorem saveEraseDue_iff : saveEraseDue st = true ↔ 48 ≤ st.saveNext ∧ eraseQueued st 3 = false ∧ erasing st 3 = false
    ∧ (sectorCells 3 st.array.cells).length = st.saveNext
    ∧ ∀ x ∈ saveRecords st.array, .superseded ∈ x.2.2.marks ∨ .resolved ∈ x.2.2.marks := by
  simp [saveEraseDue, saveSector, and_assoc]

/-- The end of recovery, whatever work of the store goes ahead of it. -/
theorem endRecovery_leaves (r : Recovery) (s : State) :
    (endRecovery r s).supply = { s.supply with recovery := none }
      ∧ (endRecovery r s).call = { s.call with holdFrom := if s.call.hookInput then none else some s.now }
      ∧ (endRecovery r s).account = s.account ∧ (endRecovery r s).coin = s.coin ∧ (endRecovery r s).cfg = s.cfg
      ∧ (endRecovery r s).tariff = s.tariff ∧ (endRecovery r s).store.array = s.store.array := by
  have array : (settleWaiting { s with store := testSaveErase s.store }).store.array = s.store.array :=
    ((testSaveErase_spares s.store).trans (settleWaiting_spares { s with store := testSaveErase s.store })).array
  obtain ⟨-, now, cfg, coin, account, -, call, tariff, supply, -⟩ :=
    settleWaiting_same { s with store := testSaveErase s.store }
  rw [endRecovery_eq]
  generalize settleWaiting { s with store := testSaveErase s.store } = u at *
  obtain ⟨-, -, cfg', coin', account', -, call', tariff', supply', -⟩ := weigh_same (started r u)
  rw [weigh_store, supply', call', account', coin', cfg', tariff']
  simp only [started, postNotice_supply, postNotice_call, postNotice_account, postNotice_coin, postNotice_cfg,
    postNotice_tariff, postNotice_store]
  exact ⟨by rw [supply], by rw [call, now], account, coin, cfg, tariff, array⟩

/-! ### The commands -/

/-- Settles O60: the check by the sensor, the supply and the save record; a window's end by the coins and the cycles run;
housekeeping by the test of the save area's erase. -/
theorem recoveryStepsAreTaken : Obligations.RecoveryStepsAreTaken := by
  intro coins s ha
  have takes {c : Instr} {f : State → State} (hc : exec c s = .next (whenAwake f s)) {t : State} (h : f s = t) :
      exec c s = .next t := by rw [hc, whenAwake_awake ha, h]
  refine ⟨fun hr => ⟨takes rfl (by simp [sensorCheck, hr]), takes rfl (by simp [flushWindowEnds, hr]),
    takes rfl (by simp [housekeeping, hr])⟩, fun r hr => ?_⟩
  intro cycle with_
  refine ⟨fun hp => takes rfl (sensorCheck_phase hr hp),
    fun hp => ⟨fun hn => ?_, fun hw => ?_, fun hc hs => ?_, fun hc hw hroom => ?_⟩,
    fun hp => takes rfl (flushWindowEnds_phase hr hp), fun hp hlen => ⟨fun hc hn => ?_, fun hlast hc => ?_⟩,
    fun h => takes rfl (housekeeping_early hr h), fun hp hm ho he hv => ?_, saveEraseDue_iff, fun hp hm => ?_⟩
  · exact takes rfl ((sensorCheck_coins hr hp).trans (beginCycle_normal hn))
  · exact takes rfl ((sensorCheck_coins hr hp).trans (beginCycle_warn hw hp))
  · exact takes rfl ((sensorCheck_empty hr hp).trans (endResolution_unsaved hc hs))
  · intro p v hs ended due record
    have hrecord : record = .recovered (recoveredRecord r (setTube false s)) := by rw [recoveredRecord_saved hs]; rfl
    refine ⟨fun hdue => ?_, fun hdue x hx hf hnext hfree => ?_⟩
    · have undue : recordDue r = false := Bool.eq_false_iff.2 (mt (recordDue_iff hc hs).1 hdue)
      refine takes rfl ((sensorCheck_empty hr hp).trans ((endResolution_undue hc hs undue).trans ?_))
      rw [postResolvedMark_room (s := setTube false s) hw hroom]
      rfl
    · rw [hrecord] at hx ⊢
      refine takes rfl ((sensorCheck_empty hr hp).trans ((endResolution_due hc hs ((recordDue_iff hc hs).2 hdue)).trans ?_))
      rw [postCallRing_open (s := setTube false s) hw hx hf, postResolvedMark_room hnext hfree]
      have queue := postRing_queue hx
      simp only [queue, List.append_assoc]
      rfl
  · exact takes rfl ((flushWindowEnds_again hr hp hc).trans (beginCycle_normal hn))
  · obtain ⟨u, same, marks, ends⟩ := endResolution_same coins r (setTube coins s)
    obtain ⟨-, -, cfg, coin, account, -, -, -, supply, -⟩ := same
    obtain ⟨hsupply, hblocked⟩ := flushRaised_marks (s := setTube coins s) coins hlen hc
    have array := (endResolution_spares coins r (setTube coins s)).array
    rw [ends] at array
    refine ⟨_, takes rfl ((flushWindowEnds_last hr hp hlast).trans ends), ?_, coin, account, cfg, array,
      marks _ (by decide) hsupply, fun h => marks _ (by decide) (hblocked h)⟩
    exact congrArg (fun x : Supply => { x with recovery := some (resolvedRecovery r) }) supply
  · intro resolution finished
    have resolved : resolutionByte r = resolution := by
      simp only [resolutionByte, resolution]
      cases r.save <;> rfl
    have ends : exec .saveSectorHousekeeping s = finished (saveTested s.store) := by
      refine takes rfl ((housekeeping_ends hr hp hm).trans ?_)
      rw [endRecovery_eq, settleWaiting_saveTested (waitingMarks_of_settled hm) he ho hv, started, startedFields, resolved]
    refine ⟨fun hd => ?_, fun hd hroom => ?_, fun hd hfull => ?_⟩
    · rw [ends, saveTested, hd]
      rfl
    · rw [ends, saveTested, hd, hroom]
      rfl
    · rw [ends, saveTested, hd, hfull]
      rfl
  · exact ⟨_, takes rfl (housekeeping_ends hr hp hm), endRecovery_leaves r s⟩

end Sys2Proof.Proofs
end
